-- ==== Sys2Proof/Word.lean ====
section
/-! DEFINITION. The words of the FL2160's lines: bytes, the 16-bit masks and the 32-bit value of a notice.
Quantities (temperatures, volumes, counts, times) are `Nat` or `Int`, as 00_scope "Units and ranges" states them. -/

namespace Sys2Proof

/-- One byte of a frame (02 2.1, 11 11.1). -/
abbrev Byte := BitVec 8

/-- A 16-bit word: a channel mask (R27), the time tag (R202), a CRC register (R191). -/
abbrev Half := BitVec 16

/-- A 32-bit word: the value of a notice or of the trip record (R166, 11.5). -/
abbrev Quad := BitVec 32

end Sys2Proof
end

