-- ==== Sys2Proof/Syntax.lean ====
section
/-! DEFINITION. The commands of the block: one constructor of `Instr` per row of spec/opcode_table.json, with the
row's operands. A request of the host carries the payload bytes of its frame (R192 to R194), selector first. -/

namespace Sys2Proof

/-- The eleven loads, in the order of their ids 0 to 10 (08 8.1). -/
inductive LoadId where
  | heater | circPump | drainPump | inletValve | routeValve | selectorValve | brineValve
  | doseDet | doseRinse | doorActuator | fan
  deriving DecidableEq, Repr

/-- The two sides of the selector, and so the two resin columns A and B (R85). -/
inductive Side where
  | a | b
  deriving DecidableEq, Repr

/-- The two door switches: DCLS (true: closed) and DLAT (true: engaged) (R130). -/
inductive DoorSwitch where
  | closed | latch
  deriving DecidableEq, Repr

/-- The levels of the three switch inputs: DCLS closed, DLAT engaged, CSEL high (selector at A). -/
structure InputPins where
  doorClosed : Bool
  latchEngaged : Bool
  selectorHigh : Bool
  deriving DecidableEq, Repr

/-- The commands, in the order of spec/opcode_table.json. -/
inductive Instr where
  | tblWriteChannel (payload : List Byte)
  | tblReadChannel (payload : List Byte)
  | tblWriteCurve (payload : List Byte)
  | tblReadCurve (payload : List Byte)
  | tblWritePollList (payload : List Byte)
  | tblReadPollList (payload : List Byte)
  | tblWriteLoad (payload : List Byte)
  | tblReadLoad (payload : List Byte)
  | bankSwap (payload : List Byte)
  | profileWriteMachine (payload : List Byte)
  | profileReadMachine (payload : List Byte)
  | profileWriteSoftener (payload : List Byte)
  | profileReadSoftener (payload : List Byte)
  | profileWriteDosing (payload : List Byte)
  | profileReadDosing (payload : List Byte)
  | setMode (payload : List Byte)
  | phaseSubmit (payload : List Byte)
  | phaseWithdraw (payload : List Byte)
  | cycleStart (payload : List Byte)
  | cycleCancel (payload : List Byte)
  | pause (payload : List Byte)
  | resume (payload : List Byte)
  | flags (payload : List Byte)
  | budget (payload : List Byte)
  | loadForceOn (payload : List Byte)
  | loadForceOff (payload : List Byte)
  | columnSet (payload : List Byte)
  | regenStart (payload : List Byte)
  | reservoirAdjust (payload : List Byte)
  | statusRead (payload : List Byte)
  | statusWrite (payload : List Byte)
  | channelRead (payload : List Byte)
  | samplesRead (payload : List Byte)
  | noticeRead (payload : List Byte)
  | contextSnap (payload : List Byte)
  | contextRead (payload : List Byte)
  | contextWrite (payload : List Byte)
  | tripRead (payload : List Byte)
  | tripClear (payload : List Byte)
  | sync (payload : List Byte)
  | reset (payload : List Byte)
  /-- the input levels found by the soft reset (R110, R145) -/
  | softReset (pins : InputPins)
  /-- the input levels found by the power-on (R110, R145) -/
  | powerOn (pins : InputPins)
  /-- the bytes received from SOF on (R191) -/
  | linkFrameDiscarded (bytes : List Byte)
  /-- the bytes of the partial frame (R191) -/
  | linkByteTimeout (bytes : List Byte)
  | timeTagTick
  | pollDue (index : Fin 16)
  /-- the bytes after SYNC: ADDR, KIND, LEN, payload, CHECK, or the three bytes of a frame malformed by LEN (R25) -/
  | sumpFrameEnd (frame : List Byte)
  | sumpResponseTimeout
  | sumpByteGap (bytes : List Byte)
  | sumpLateBytes (bytes : List Byte)
  | fillStalled
  | setpointMissed
  | minimumHoldElapsed
  | holdTimeExpiry
  | drainMinimumTimeReached
  | drainTimeout
  | cycleClockTick
  | strokeComplete
  | selectorPositionChange (side : Side)
  | selectorTravelTimeout
  | routePulseEnd
  | soakTimeExpiry
  | doorSwitchDebounced (switch : DoorSwitch) (level : Bool)
  | settleTimerExpiry
  | condenseTimeout
  | attemptWindowExpiry
  | restTimerExpiry
  | ventTimeExpiry
  | grantReport (load : LoadId)
  | zeroCrossPulse
  | zeroCrossMissed
  | mainsLossEngine
  | mainsLossSoftener
  | mainsLossSnapshot
  | mainsBackEngine
  | mainsBackSoftener
  | pollFrameEnd
  | responseEnd
  deriving DecidableEq, Repr

end Sys2Proof
end

