-- ==== Sys2Proof/Decode.lean ====
section
/-! DEFINITION. The commands that a word spells. No row of spec/opcode_table.json gives bits (DESIGN CHOICE, log 23): the requests are
frames of the appliance link, whose bytes Sys2Proof/Machine/Frames.lean reads, and the events have no encoding. -/

namespace Sys2Proof

/-- The command that a word of the table's bits spells: none, since no row gives bits. -/
def decodeTableWord (_nbits _w : Nat) : Option Instr := none

end Sys2Proof
end

