-- ==== Sys2Proof/Config.lean ====
section
/-! DEFINITION. What the spec fixes as constants of time, and what it leaves open as free values: constants with no
body, so that nothing can be proved of their value. Each is applied to the draw counter `State.draws`. -/

namespace Sys2Proof.Config

/-- Steps of 0.1 ms in one millisecond: the idle step of the model lets 0.1 ms pass (DESIGN CHOICE, log 1). -/
abbrev msec : Nat := 10
/-- Steps of 0.1 ms in 0.1 s, the step of most timers (R56, R86, R135, R136). -/
abbrev tenth : Nat := 1000
/-- Steps of 0.1 ms in one second. -/
abbrev second : Nat := 10000

/-- FREE VALUE (DESIGN CHOICE, log 3): which of several events that fall due together is taken first ("either may be taken first"). -/
opaque dueOrder : Nat → Nat
/-- FREE VALUE (DESIGN CHOICE, log 8): in which order the blocks post their notices of one trip ("which may be any", R170). -/
opaque tripNoticeOrder : Nat → Nat
/-- FREE VALUE (DESIGN CHOICE, log 9): whether the regeneration is aborted before the fill gives the path back in one trip (R170). -/
opaque tripRegenFirst : Nat → Bool
/-- FREE VALUE (DESIGN CHOICE, log 56): whether the regeneration's request of the path is taken before the fill's at one RESUME ("either may be taken first", R90). -/
opaque resumeRegenFirst : Nat → Bool
/-- FREE VALUE (DESIGN CHOICE, log 12): the subject of SELECTOR_FAULT with value 3, which R86 does not state. -/
opaque selectorFaultSubject : Nat → Fin 256

end Sys2Proof.Config
end

