-- ==== Sys2Proof/Machine/Bytes.lean ====
section
/-! DEFINITION. Byte order and number forms of the two lines (00_scope "Numbers in frames", R194), and the CRC of the
appliance link (R191). Multi-byte numbers are high byte first. -/

namespace Sys2Proof.Machine

/-- A number of one byte. -/
def u8 (n : Nat) : List Byte := [BitVec.ofNat 8 n]

/-- A number of two bytes, high byte first. -/
def u16 (n : Nat) : List Byte := [BitVec.ofNat 8 (n / 256), BitVec.ofNat 8 n]

/-- A number of four bytes, high byte first. -/
def u32 (n : Nat) : List Byte :=
  [BitVec.ofNat 8 (n / 16777216), BitVec.ofNat 8 (n / 65536), BitVec.ofNat 8 (n / 256), BitVec.ofNat 8 n]

/-- A signed number of two bytes. -/
def i16 (z : Int) : List Byte := u16 (z % 65536).toNat

/-- Yes and ON are 1, no and OFF are 0 (R194). -/
def yesNo (b : Bool) : List Byte := [if b then 1 else 0]

/-- A field that may be none is preceded by a byte of 0 for none or 1 for a value (R194). -/
def optional {α : Type} (f : α → List Byte) : Option α → List Byte
  | none => [0]
  | some x => 1 :: f x

/-- A list of items of one kind is preceded by its count (R194). -/
def counted {α : Type} (f : α → List Byte) (l : List α) : List Byte := u8 l.length ++ l.flatMap f

/-- The number in two bytes, high byte first. -/
def be16 (hi lo : Byte) : Nat := hi.toNat * 256 + lo.toNat

/-- The signed number in two bytes, high byte first. -/
def s16 (hi lo : Byte) : Int :=
  if be16 hi lo < 32768 then (be16 hi lo : Int) else (be16 hi lo : Int) - 65536

/-- The number in three bytes, high byte first. -/
def be24 (a b c : Byte) : Nat := be16 a b * 256 + c.toNat

/-- The number in four bytes, high byte first. -/
def be32 (a b c d : Byte) : Nat := be16 a b * 65536 + be16 c d

/-- The byte of a yes or no field; any other byte is no value of the field. -/
def readYesNo (b : Byte) : Option Bool :=
  if b = 0 then some false else if b = 1 then some true else none

/-- The sum of bytes as a number. -/
def byteSum (l : List Byte) : Nat := (l.map BitVec.toNat).foldl (· + ·) 0

/-- The 8-bit sum of bytes (02 2.1). -/
def sum8 (l : List Byte) : Byte := l.foldl (· + ·) 0

/-- One bit of the CRC register: polynomial 0x1021, most significant bit first (R191). -/
def crcShift (r : Half) : Half := if r.msb then (r <<< 1) ^^^ 0x1021#16 else r <<< 1

/-- One byte into the CRC register (R191). -/
def crcByte (r : Half) (b : Byte) : Half :=
  crcShift (crcShift (crcShift (crcShift (crcShift (crcShift (crcShift (crcShift
    (r ^^^ (b.zeroExtend 16 <<< 8)))))))))

/-- The CRC of the appliance link: register from 0xFFFF, no final inversion (R191). -/
def crc16 (l : List Byte) : Half := l.foldl crcByte 0xFFFF#16

/-! ## Receivers (R25, R191) -/

/-- The 5 ms between two bytes of a frame of the appliance link (R191). -/
def byteLimit : Nat := 5 * Config.msec

/-- The 1 ms between two bytes of a frame of the sump bus (R25). -/
def sumpByteLimit : Nat := Config.msec

/-- One byte at a receiver that has heard part of a frame, or hunts for its first byte: what it has heard then, and the
frame that the byte ends (R25, R191). -/
def assemble (first : Byte) (ends : List Byte → Bool) (heard : List Byte) (b : Byte) : List Byte × Option (List Byte) :=
  if heard.isEmpty then (if b = first then [b] else [], none)
  else if ends (heard ++ [b]) then ([], some (heard ++ [b]))
  else (heard ++ [b], none)

end Sys2Proof.Machine
end

