-- ==== Sys2Proof/Machine/State.lean ====
section
/-! DEFINITION. The state of the FL2160 as plain data, block by block (00_scope, "Block overview"), and the state right
after a power-on. Times of running timers are counted in steps of 0.1 ms (`Config.msec`, `Config.tenth`,
`Config.second`; DESIGN CHOICE, log 1); all other quantities are in the units of 00_scope. -/

namespace Sys2Proof.Machine

/-- Nothing stops the block with a fault: every command in every state has a next state (INVENTORY.md, Faults). -/
inductive Fault where
  deriving DecidableEq, Repr

/-- Refusals of the model (not of the part: those are STATUS codes of a response, R192). -/
inductive Refusal where
  /-- Raised by an arm of `exec` whose command has no meaning yet. No arm raises it. Safe: the model stops. -/
  | notModelled (mnemonic : String)
  deriving DecidableEq, Repr

/-! ## Names shared by several blocks -/

/-- Channel roles, in the order of their codes 0 to 9 (11.2). -/
inductive Role where
  | tubTemp | tubLevel | turbidity | conductivity | flow | leak | saltLow | detLow | rinseLow | general
  deriving DecidableEq, Repr

/-- Condition codes 0 to 7 (R16). -/
inductive Cond where
  | always | gt | eq | lt | never | ge | ne | le
  deriving DecidableEq, Repr

/-- Freshness of a channel (01 1.5). -/
inductive Freshness where
  | noData | fresh | stale | faulted
  deriving DecidableEq, Repr

/-- Store modes of a channel (R20, R21). -/
inductive StoreMode where
  | none | latest | paired | ring16 | ring64
  deriving DecidableEq, Repr

/-- The two reservoirs (06 6.1). -/
inductive Reservoir where
  | det | rinse
  deriving DecidableEq, Repr

/-- The four profiles, in the order of their indices 0 to 3 (R174). -/
inductive ProfileId where
  | machine | softener | det | rinse
  deriving DecidableEq, Repr

/-- The tables of the integrity latch, coded 0, 1, 2 and 4 (R174). -/
inductive TableId where
  | channel | curve | load | profile
  deriving DecidableEq, Repr

/-- The two banks (01 1.1). -/
inductive Bank where
  | active | shadow
  deriving DecidableEq, Repr

/-- Part modes (11.4). -/
inductive Mode where
  | standby | service | run
  deriving DecidableEq, Repr

/-- Stages of a phase (R56). -/
inductive Stage where
  | fill | circulate | hold | drain | condense | opening | vent
  deriving DecidableEq, Repr

/-- A stored entry with its parity mark: `sound` says that the parity matches the contents (09 9.5; DESIGN CHOICE, log 5). -/
structure Stored (α : Type) where
  contents : α
  sound : Bool
  deriving DecidableEq, Repr

/-! ## Channel unit (01) -/

/-- An entry of the channel table (01 1.1). -/
structure ChannelEntry where
  enabled : Bool
  satellite : Nat
  satChannel : Nat
  role : Role
  curve : Option Nat
  shift : Nat
  cond : Cond
  limit : Int
  level : Nat
  store : StoreMode
  advanceValid : Bool
  staleLimit : Nat
  deriving DecidableEq, Repr

/-- A curve with its validity mark, re-judged whenever it is written or copied (R2). -/
structure Curve where
  points : List (Nat × Int)
  valid : Bool
  deriving DecidableEq, Repr

/-- A stored sample: converted value, flags byte, time tag (01 1.9). -/
structure Sample where
  value : Int
  flags : Byte
  tag : Half
  deriving DecidableEq, Repr

/-- The sample store of one channel. `place` is the single place of LATEST or the read half of PAIRED, `writeHalf` the
write half of PAIRED, `unreadMark` their mark (R20); `ring` holds the unread samples of a ring, oldest first (R21). -/
structure SampleStore where
  place : Option Sample
  writeHalf : Option Sample
  unreadMark : Bool
  ring : List Sample
  writePos : Nat
  readPos : Nat
  overrun : Bool
  waiting : Option Sample
  deriving DecidableEq, Repr

/-- Runtime state of one channel (R23). -/
structure ChannelRun where
  freshness : Freshness
  raw : Int
  converted : Int
  filtered : Int
  misses : Nat
  limitActive : Bool
  store : SampleStore
  deriving DecidableEq, Repr

structure ChannelUnit where
  active : Vector (Stored ChannelEntry) 32
  shadow : Vector (Stored ChannelEntry) 32
  curves : Vector (Stored Curve) 8
  curvesShadow : Vector (Stored Curve) 8
  run : Vector ChannelRun 32
  flags : Byte
  deriving DecidableEq, Repr

/-! ## Sump bus controller (02) -/

/-- An entry of the poll list (02 2.2): interval and timeout in ms. -/
structure PollEntry where
  enabled : Bool
  satellite : Nat
  mask : Half
  interval : Nat
  timeout : Nat
  retry : Nat
  deriving DecidableEq, Repr

/-- Last outcome of a poll list entry (02 2.2). -/
inductive PollOutcome where
  | none | ok | partialData | retried | failed | stopped
  deriving DecidableEq, Repr

/-- Runtime state of a poll list entry: `due` is its due time on the clock of the model, dropped when it is due. -/
structure PollRun where
  due : Option Nat
  inDueSet : Bool
  outcome : PollOutcome
  deriving DecidableEq, Repr

/-- The transaction in flight (02 2.4). `second` is the attempt number, `belongs` falls when polling stops (R37),
`waiting` says that the poll frame has ended and the response timer runs (R32). -/
structure Transaction where
  entry : Fin 16
  satellite : Nat
  mask : Half
  timeout : Nat
  retry : Nat
  second : Bool
  belongs : Bool
  waiting : Bool
  timer : Nat
  deriving DecidableEq, Repr

/-- Presence of a satellite (02 2.5). -/
inductive SatPresence where
  | unknown | present | absent
  deriving DecidableEq, Repr

structure Satellite where
  presence : SatPresence
  failures : Nat
  deriving DecidableEq, Repr

/-- The sump bus controller. `heard` are the bytes of the frame that the receiver is assembling, SYNC first, none while it
hunts, and `byteTimer` the time since the last of them (R25; DESIGN CHOICE, log 49). -/
structure BusUnit where
  poll : Vector PollEntry 16
  run : Vector PollRun 16
  tx : Option Transaction
  sats : Vector Satellite 4
  sent : List Byte
  heard : List Byte
  byteTimer : Nat
  deriving DecidableEq, Repr

/-! ## Phase engine (03, 04) -/

/-- The subject of a phase test (03 3.1). -/
inductive Subject where
  | role (r : Role)
  | flag (n : Fin 8)
  deriving DecidableEq, Repr

structure PhaseTest where
  subject : Subject
  cond : Cond
  threshold : Int
  deriving DecidableEq, Repr

/-- The extra-rinse test: a test with its max repeats. -/
structure ExtraTest where
  test : PhaseTest
  maxRepeats : Nat
  deriving DecidableEq, Repr

/-- When the dose is computed (R67). -/
inductive DosePoint where
  | atCirculate | atSetpoint
  deriving DecidableEq, Repr

/-- Fields of a WASH record (03 3.1). -/
structure WashFields where
  fillTarget : Nat
  fillCap : Nat
  setpoint : Nat
  speed : Nat
  heatTimeout : Nat
  holdTime : Nat
  minHold : Nat
  dose : Option Reservoir
  dBase : Nat
  dosePoint : DosePoint
  exitTest : Option PhaseTest
  extraTest : Option ExtraTest
  endLevel : Nat
  minTime : Nat
  deriving DecidableEq, Repr

/-- Fields of a DRAIN record. -/
structure DrainFields where
  endLevel : Nat
  minTime : Nat
  deriving DecidableEq, Repr

/-- Fields of a DRY record. -/
structure DryFields where
  condenseMax : Nat
  openTemp : Int
  ventTime : Nat
  fan : Bool
  deriving DecidableEq, Repr

inductive PhaseBody where
  | wash (w : WashFields)
  | drain (d : DrainFields)
  | dry (d : DryFields)
  deriving DecidableEq, Repr

structure PhaseRecord where
  tag : Nat
  setMask : Byte
  clearMask : Byte
  body : PhaseBody
  deriving DecidableEq, Repr

/-- Engine states (03 3.3). -/
inductive EngineState where
  | idle | running | suspended | tripped
  deriving DecidableEq, Repr

/-- Reasons of the suspension set (R178). -/
inductive SuspReason where
  | door | host | noWater | mains | restored
  deriving DecidableEq, Repr

/-- The suspension set (R178). -/
structure SuspSet where
  door : Bool
  host : Bool
  noWater : Bool
  mains : Bool
  restored : Bool
  deriving DecidableEq, Repr

/-- Whether the fill of this run has already asked for the water path (R56). -/
inductive RunMark where
  | new | resumed
  deriving DecidableEq, Repr

/-- The captured extra-rinse result (R56). -/
inductive Captured where
  | none | false | true
  deriving DecidableEq, Repr

/-- The stage record of the head (R56). `timeoutSpent`: the drain timeout of this drain has been judged (R74). -/
structure StageRecord where
  stage : Stage
  runMark : RunMark
  stallTimer : Nat
  heatTimer : Nat
  holdTimer : Nat
  drainTimer : Nat
  timeoutSpent : Bool
  thermostat : Bool
  captured : Captured
  doseBegun : Bool
  repeats : Nat
  cancelling : Bool
  deriving DecidableEq, Repr

/-- Cycle totals (03 3.5). `part` is the part of a second counted so far, in steps of 0.1 ms. `held`: a context restore has
loaded them and the restored cycle has not resumed, so the clock stands still (R53). -/
structure Totals where
  fillVolume : Nat
  extraRinses : Nat
  doses : Nat
  clock : Nat
  part : Nat
  held : Bool
  deriving DecidableEq, Repr

/-- The machine profile (03 3.4). -/
structure MachineProfile where
  heaterSafe : Nat
  overfill : Nat
  tripTemp : Nat
  maxSetpoint : Nat
  hysteresis : Nat
  fillStall : Nat
  drainTimeout : Nat
  strayLimit : Nat
  deriving DecidableEq, Repr

structure EngineUnit where
  queue : List PhaseRecord
  state : EngineState
  head : Option StageRecord
  susp : SuspSet
  totals : Totals
  profile : Stored MachineProfile
  deriving DecidableEq, Repr

/-! ## Softener unit (05) -/

/-- Column states, in the order of their codes 0 to 6 (10 10.5). -/
inductive ColumnState where
  | offline | service | ready | exhausted | brine | soak | rinse
  deriving DecidableEq, Repr

/-- A column record (05 5.1): `cap` is C. -/
structure Column where
  state : ColumnState
  cap : Nat
  due : Bool
  saltReduced : Bool
  deriving DecidableEq, Repr

inductive MovePurpose where
  | flip | set | back
  deriving DecidableEq, Repr

/-- A selector move (R86). `limit` is the travel timeout in s that the profile gave when the move was created (R87). -/
structure SelectorMove where
  purpose : MovePurpose
  target : Side
  timer : Nat
  driving : Bool
  limit : Nat
  deriving DecidableEq, Repr

inductive Route where
  | unset | tub | regen
  deriving DecidableEq, Repr

inductive Holder where
  | none | fill | regen
  deriving DecidableEq, Repr

inductive Progress where
  | selecting | routing | set
  deriving DecidableEq, Repr

/-- A route pulse under way (R89). -/
structure RoutePulse where
  target : Route
  timer : Nat
  deriving DecidableEq, Repr

inductive RegenStage where
  | brine | soak | rinse
  deriving DecidableEq, Repr

/-- The regeneration record (05 5.6). `flowing` is the water state FLOWING. -/
structure Regen where
  column : Side
  stage : RegenStage
  flowing : Bool
  volume : Nat
  soakTimer : Nat
  deriving DecidableEq, Repr

/-- The softener's hold set (R108). -/
structure HoldSet where
  mains : Bool
  restored : Bool
  deriving DecidableEq, Repr

/-- The softener profile (05 5.3). -/
structure SoftenerProfile where
  rated : Nat
  reserve : Nat
  hRes : Nat
  hFix : Nat
  k : Nat
  brineVolume : Nat
  soakTime : Nat
  rinseVolume : Nat
  restorePercent : Nat
  auto : Bool
  travelTimeout : Nat
  deriving DecidableEq, Repr

structure SoftenerUnit where
  colA : Column
  colB : Column
  position : Side
  move : Option SelectorMove
  route : Route
  holder : Holder
  progress : Progress
  waiting : Bool
  pulse : Option RoutePulse
  tLast : Option Nat
  rf : Nat
  rl : Nat
  vFill : Nat
  u : Nat
  exhaustedMark : Bool
  flipTried : Bool
  stray : Nat
  fallback : Bool
  regen : Option Regen
  hold : HoldSet
  saltLow : Bool
  profile : Stored SoftenerProfile
  deriving DecidableEq, Repr

/-! ## Dosing unit (06) -/

/-- A dosing profile (06 6.2). -/
structure DosingProfile where
  capacity : Nat
  strokeVolume : Nat
  strokePeriod : Nat
  dMin : Nat
  dMax : Nat
  lowMark : Nat
  hardCurve : Option Nat
  soilCurve : Option Nat
  deriving DecidableEq, Repr

/-- A reservoir record, its profile and the last assertion told of its low switch (R111, R124). -/
structure ReservoirState where
  estimate : Nat
  lowSeen : Bool
  lowTold : Bool
  profile : Stored DosingProfile
  deriving DecidableEq, Repr

inductive Delivery where
  | requested | stroking | paused
  deriving DecidableEq, Repr

/-- The dose in flight (06 6.3). -/
structure Dose where
  reservoir : Reservoir
  tag : Nat
  dose : Nat
  total : Nat
  done : Nat
  state : Delivery
  timer : Nat
  deriving DecidableEq, Repr

structure DosingUnit where
  det : ReservoirState
  rinse : ReservoirState
  dose : Option Dose
  deriving DecidableEq, Repr

/-! ## Door unit (07) -/

/-- Door states, in the order of their codes 0 to 3 (R131). -/
inductive DoorState where
  | latched | closedUnlatched | open | ajarAuto
  deriving DecidableEq, Repr

inductive AttemptState where
  | none | requested | pushing | resting
  deriving DecidableEq, Repr

inductive OpenedBy where
  | none | actuator | user | fault
  deriving DecidableEq, Repr

/-- The DRY record (07 7.3). -/
structure DryRecord where
  condense : Nat
  attempt : Nat
  attState : AttemptState
  window : Nat
  rest : Nat
  vent : Nat
  openedBy : OpenedBy
  deriving DecidableEq, Repr

/-- The door unit. `inputs` are the levels on DCLS, DLAT and CSEL; the three pending fields time a level that differs
from the debounced reading (R130, R85). -/
structure DoorUnit where
  inputs : InputPins
  closed : Bool
  latch : Bool
  closedPending : Option Nat
  latchPending : Option Nat
  selectorPending : Option Nat
  state : DoorState
  settle : Option Nat
  dry : Option DryRecord
  deriving DecidableEq, Repr

/-! ## Load arbiter (08) -/

/-- An entry of the load table (08 8.1). -/
structure LoadEntry where
  enabled : Bool
  rated : Nat
  half : Nat
  priority : Nat
  sheddable : Bool
  deriving DecidableEq, Repr

/-- The step of a grant (R149). -/
inductive Step where
  | full | half
  deriving DecidableEq, Repr

inductive WaitCause where
  | unavailable | interlock | budget
  deriving DecidableEq, Repr

/-- Request, forced request, grant and wait cause of one load. An argument is a speed for CIRC_PUMP, a route code for
ROUTE_VALVE, a side code for SELECTOR_VALVE and 0 otherwise (R148, R160). -/
structure LoadState where
  own : Option Nat
  forced : Option Nat
  grant : Option Step
  cause : WaitCause
  deriving DecidableEq, Repr

/-- Mains presence (08 8.7). -/
inductive Mains where
  | unknown | present | absent
  deriving DecidableEq, Repr

/-- The zero-cross watch (08 8.7), with the time of the last loss for the value of MAINS_BACK (R164). `phase` is the
half-cycle: it changes at each accepted crossing, and HEATER at HALF conducts while it is true (R149). -/
structure ZeroCross where
  presence : Mains
  misses : Nat
  run : Nat
  last : Option Nat
  lostAt : Option Nat
  phase : Bool
  deriving DecidableEq, Repr

/-- Reports of a loss or a return that a block has not taken yet (R163, R164). -/
structure MainsReports where
  lossEngine : Bool
  lossSoftener : Bool
  lossSnapshot : Bool
  backEngine : Bool
  backSoftener : Bool
  deriving DecidableEq, Repr

/-- The arbiter. `reports` are the loads whose change of grant their owner has still to take (R149, R163);
`evalDue` says that the present event calls for an evaluation (R155). -/
structure ArbiterUnit where
  active : Vector (Stored LoadEntry) 11
  shadow : Vector (Stored LoadEntry) 11
  budget : Nat
  loads : Vector LoadState 11
  flood : Bool
  reports : List LoadId
  evalDue : Bool
  zc : ZeroCross
  mainsReports : MainsReports
  deriving DecidableEq, Repr

/-! ## Trip unit (09) -/

/-- Reasons of a trip, coded 0 to 6 (R166). -/
inductive TripReason where
  | none | overtemp | flood | sensorLost | inletFlow | drainFail | table
  deriving DecidableEq, Repr

/-- The trip record (R166). -/
structure TripRecord where
  reason : TripReason
  secondary : TripReason
  tag : Option Nat
  stage : Option Stage
  timeTag : Half
  source : Option Nat
  value : Quad
  deriving DecidableEq, Repr

/-- The first integrity error (R174). -/
structure IntegrityError where
  table : TableId
  bank : Option Bank
  index : Nat
  deriving DecidableEq, Repr

/-- The trip unit. `lossOpen` is bookkeeping of one event: a loss that counted has set the latch in it, so that the other
role lost in the same event is still a cause (R168; DEDUCED, log 51). -/
structure TripUnit where
  latch : Bool
  record : TripRecord
  flowQuiet : Option Nat
  tableMark : Bool
  lostRole : Option Role
  lossOpen : Bool
  leakTold : Bool
  integrity : Option IntegrityError
  more : Bool
  faultedMachine : Bool
  faultedSoftener : Bool
  faultedDet : Bool
  faultedRinse : Bool
  deriving DecidableEq, Repr

/-! ## Link port (11) and context image (10) -/

/-- Kinds of notices, in the order of their codes 1 to 36 (11.5). -/
inductive NoticeKind where
  | channelLimit | channelStale | ringHalf | ringWrap
  | satelliteLost | satelliteBack
  | levelNotReached | fillStalled | setpointMissed | extraRinse | phaseDone | cycleDone | cycleCancelled
  | selectorFault | columnSwitched | columnDue | columnExhausted | hardnessFixed | regenSaltLow | regenDone
  | regenAborted
  | doseCurveInvalid | soilDefault | doseEmpty | doseDone | doseShort | reservoirLow
  | doorChanged | dryOpened | doorActuatorFault
  | loadShed | mainsLost | mainsBack
  | trip | integrityError | profileFault
  deriving DecidableEq, Repr

/-- A notice (11.5). -/
structure Notice where
  kind : NoticeKind
  level : Nat
  tag : Half
  subject : Nat
  value : Quad
  deriving DecidableEq, Repr

/-- Resolution of the time tag (R202). -/
inductive Resolution where
  | ms10 | ms100 | s1
  deriving DecidableEq, Repr

/-- The image buffer: 16 records of 16 bytes, and the phase record beside each of the 8 slots (R185, R186). -/
structure Image where
  records : List (List Byte)
  phases : List (List Byte)
  deriving DecidableEq, Repr

/-- The staging of CONTEXT_WRITE: the records accepted so far, in order, with the phase record beside each slot; the
expected index is the number of records (R187). -/
structure Staging where
  records : List (List Byte)
  phases : List (Option PhaseRecord)
  deriving DecidableEq, Repr

/-- The link port. `heard` are the bytes of the frame that the receiver is assembling, none while it hunts, and
`byteTimer` the time since the last of them (R191; DESIGN CHOICE, log 49). `rxOff`: the receiver is off, from the end of
a request to the end of its response (R191). `resetPending`: the response under way is that of RESET (R203). -/
structure LinkUnit where
  mode : Mode
  notices : List Notice
  overrun : Bool
  threshold : Nat
  attn : Bool
  timeTag : Half
  resolution : Resolution
  tagPart : Nat
  heard : List Byte
  byteTimer : Nat
  rxOff : Bool
  response : Option (List Byte)
  resetPending : Bool
  image : Option Image
  staging : Staging
  deriving DecidableEq, Repr

/-- The state of the part, the clock and the draw counter of the model, the events that have fallen due and are not yet
raised (DESIGN CHOICE, log 1), and the queue of waiting commands. -/
structure State where
  chan : ChannelUnit
  bus : BusUnit
  eng : EngineUnit
  soft : SoftenerUnit
  dosing : DosingUnit
  door : DoorUnit
  arb : ArbiterUnit
  trip : TripUnit
  link : LinkUnit
  now : Nat
  draws : Nat
  due : List Instr
  pending : List Instr
  deriving DecidableEq, Repr

/-! ## Values after a power-on -/

/-- A channel entry at power-on: disabled, all fields 0 (R23). -/
def ChannelEntry.blank : ChannelEntry where
  enabled := false
  satellite := 0
  satChannel := 0
  role := .tubTemp
  curve := some 0
  shift := 0
  cond := .always
  limit := 0
  level := 0
  store := .none
  advanceValid := false
  staleLimit := 0

/-- A curve at power-on: 0 points, invalid (R23). -/
def Curve.blank : Curve := { points := [], valid := false }

/-- An empty sample store (R23). -/
def SampleStore.empty : SampleStore where
  place := none
  writeHalf := none
  unreadMark := false
  ring := []
  writePos := 0
  readPos := 0
  overrun := false
  waiting := none

/-- Runtime state of a channel after a reset (R23). -/
def ChannelRun.blank : ChannelRun where
  freshness := .noData
  raw := 0
  converted := 0
  filtered := 0
  misses := 0
  limitActive := false
  store := .empty

def PollEntry.blank : PollEntry where
  enabled := false
  satellite := 0
  mask := 0
  interval := 0
  timeout := 0
  retry := 0

def PollRun.blank : PollRun := { due := none, inDueSet := false, outcome := .none }

def Satellite.blank : Satellite := { presence := .unknown, failures := 0 }

def SuspSet.empty : SuspSet :=
  { door := false, host := false, noWater := false, mains := false, restored := false }

def Totals.zero : Totals := { fillVolume := 0, extraRinses := 0, doses := 0, clock := 0, part := 0, held := false }

/-- Defaults of the machine profile table (03 3.4). -/
def MachineProfile.default : MachineProfile where
  heaterSafe := 40
  overfill := 180
  tripTemp := 850
  maxSetpoint := 750
  hysteresis := 20
  fillStall := 30
  drainTimeout := 180
  strayLimit := 200

/-- Defaults of the softener profile table (05 5.3). -/
def SoftenerProfile.default : SoftenerProfile where
  rated := 6000
  reserve := 1200
  hRes := 50
  hFix := 450
  k := 480
  brineVolume := 600
  soakTime := 600
  rinseVolume := 3000
  restorePercent := 40
  auto := true
  travelTimeout := 8

/-- Defaults of the dosing profile table (06 6.2). -/
def DosingProfile.default : DosingProfile where
  capacity := 100000
  strokeVolume := 45
  strokePeriod := 500
  dMin := 100
  dMax := 400
  lowMark := 10000
  hardCurve := none
  soilCurve := none

/-- A column at power-on (R110). -/
def Column.blank : Column := { state := .offline, cap := 0, due := false, saltReduced := false }

def HoldSet.empty : HoldSet := { mains := false, restored := false }

/-- A reservoir at power-on (R129). -/
def ReservoirState.blank : ReservoirState where
  estimate := 0
  lowSeen := false
  lowTold := false
  profile := { contents := .default, sound := true }

def LoadEntry.blank : LoadEntry :=
  { enabled := false, rated := 0, half := 0, priority := 0, sheddable := false }

def LoadState.idle : LoadState := { own := none, forced := none, grant := none, cause := .unavailable }

def MainsReports.none : MainsReports where
  lossEngine := false
  lossSoftener := false
  lossSnapshot := false
  backEngine := false
  backSoftener := false

/-- The empty trip record (R166, R177). -/
def TripRecord.empty : TripRecord where
  reason := .none
  secondary := .none
  tag := none
  stage := none
  timeTag := 0
  source := none
  value := 0

def Staging.empty : Staging := { records := [], phases := [] }

/-- The input levels that `State.reset` takes: door closed, latch engaged, selector at A (DESIGN CHOICE, log 4). -/
def inputsAtReset : InputPins := { doorClosed := true, latchEngaged := true, selectorHigh := true }

/-- The state right after a power-on (R23, R39, R55, R110, R129, R145, R165, R177, R190, R204). A path without a holder is
held with the progress SELECTING (R110; DESIGN CHOICE, log 43). -/
def State.reset : State where
  chan :=
    { active := Vector.replicate 32 { contents := .blank, sound := true }
      shadow := Vector.replicate 32 { contents := .blank, sound := true }
      curves := Vector.replicate 8 { contents := .blank, sound := true }
      curvesShadow := Vector.replicate 8 { contents := .blank, sound := true }
      run := Vector.replicate 32 .blank
      flags := 0 }
  bus :=
    { poll := Vector.replicate 16 .blank
      run := Vector.replicate 16 .blank
      tx := none
      sats := Vector.replicate 4 .blank
      sent := []
      heard := []
      byteTimer := 0 }
  eng :=
    { queue := []
      state := .idle
      head := none
      susp := .empty
      totals := .zero
      profile := { contents := .default, sound := true } }
  soft :=
    { colA := .blank
      colB := .blank
      position := .a
      move := none
      route := .unset
      holder := .none
      progress := .selecting
      waiting := false
      pulse := none
      tLast := none
      rf := 0
      rl := 0
      vFill := 0
      u := 0
      exhaustedMark := false
      flipTried := false
      stray := 0
      fallback := false
      regen := none
      hold := .empty
      saltLow := false
      profile := { contents := .default, sound := true } }
  dosing := { det := .blank, rinse := .blank, dose := none }
  door :=
    { inputs := inputsAtReset
      closed := true
      latch := true
      closedPending := none
      latchPending := none
      selectorPending := none
      state := .latched
      settle := none
      dry := none }
  arb :=
    { active := Vector.replicate 11 { contents := .blank, sound := true }
      shadow := Vector.replicate 11 { contents := .blank, sound := true }
      budget := 0
      loads := Vector.replicate 11 .idle
      flood := false
      reports := []
      evalDue := false
      zc := { presence := .unknown, misses := 0, run := 0, last := none, lostAt := none, phase := false }
      mainsReports := .none }
  trip :=
    { latch := false
      record := .empty
      flowQuiet := none
      tableMark := false
      lostRole := none
      lossOpen := false
      leakTold := false
      integrity := none
      more := false
      faultedMachine := false
      faultedSoftener := false
      faultedDet := false
      faultedRinse := false }
  link :=
    { mode := .standby
      notices := []
      overrun := false
      threshold := 2
      attn := false
      timeTag := 0
      resolution := .ms100
      tagPart := 0
      heard := []
      byteTimer := 0
      rxOff := false
      response := none
      resetPending := false
      image := none
      staging := .empty }
  now := 0
  draws := 0
  due := []
  pending := []

end Sys2Proof.Machine
end

