-- ==== Sys2Proof/Machine/Codes.lean ====
section
/-! DEFINITION. The numbers of named values: ids, and the codes by which frames, notices and the context image carry
names (R174, R194, 10 10.5, 11 11.2, 11 11.5). Reading a code back answers none where the code names nothing. -/

namespace Sys2Proof

namespace Machine

/-! ## Loads (08 8.1) -/

/-- The id of a load, 0 to 10. -/
def loadIndex : LoadId → Fin 11
  | .heater => 0 | .circPump => 1 | .drainPump => 2 | .inletValve => 3 | .routeValve => 4 | .selectorValve => 5
  | .brineValve => 6 | .doseDet => 7 | .doseRinse => 8 | .doorActuator => 9 | .fan => 10

/-- The loads in ascending order of id. -/
def allLoads : List LoadId :=
  [.heater, .circPump, .drainPump, .inletValve, .routeValve, .selectorValve, .brineValve, .doseDet, .doseRinse,
   .doorActuator, .fan]

/-- The load of an id; an id above 10 names none. -/
def loadOfId (n : Nat) : Option LoadId := allLoads[n]?

/-! ## Codes of names -/

def roleCode : Role → Nat
  | .tubTemp => 0 | .tubLevel => 1 | .turbidity => 2 | .conductivity => 3 | .flow => 4 | .leak => 5 | .saltLow => 6
  | .detLow => 7 | .rinseLow => 8 | .general => 9

def allRoles : List Role :=
  [.tubTemp, .tubLevel, .turbidity, .conductivity, .flow, .leak, .saltLow, .detLow, .rinseLow, .general]

def roleOfCode (n : Nat) : Option Role := allRoles[n]?

def condCode : Cond → Nat
  | .always => 0 | .gt => 1 | .eq => 2 | .lt => 3 | .never => 4 | .ge => 5 | .ne => 6 | .le => 7

def condOfCode (n : Nat) : Option Cond := [Cond.always, .gt, .eq, .lt, .never, .ge, .ne, .le][n]?

def storeCode : StoreMode → Nat
  | .none => 0 | .latest => 1 | .paired => 2 | .ring16 => 3 | .ring64 => 4

def storeOfCode (n : Nat) : Option StoreMode := [StoreMode.none, .latest, .paired, .ring16, .ring64][n]?

def freshnessCode : Freshness → Nat
  | .noData => 0 | .fresh => 1 | .stale => 2 | .faulted => 3

def outcomeCode : PollOutcome → Nat
  | .none => 0 | .ok => 1 | .partialData => 2 | .retried => 3 | .failed => 4 | .stopped => 5

def satPresenceCode : SatPresence → Nat
  | .unknown => 0 | .present => 1 | .absent => 2

def modeCode : Mode → Nat
  | .standby => 0 | .service => 1 | .run => 2

def modeOfCode (n : Nat) : Option Mode := [Mode.standby, .service, .run][n]?

/-- Stage codes of the context image; 0 is no stage (10 10.5). -/
def stageCode : Stage → Nat
  | .fill => 1 | .circulate => 2 | .hold => 3 | .drain => 4 | .condense => 5 | .opening => 6 | .vent => 7

def stageOfCode : Nat → Option Stage
  | 1 => some .fill | 2 => some .circulate | 3 => some .hold | 4 => some .drain | 5 => some .condense
  | 6 => some .opening | 7 => some .vent | _ => none

def capturedCode : Captured → Nat
  | .none => 0 | .false => 1 | .true => 2

def capturedOfCode (n : Nat) : Option Captured := [Captured.none, .false, .true][n]?

def engineCode : EngineState → Nat
  | .idle => 0 | .running => 1 | .suspended => 2 | .tripped => 3

def columnStateCode : ColumnState → Nat
  | .offline => 0 | .service => 1 | .ready => 2 | .exhausted => 3 | .brine => 4 | .soak => 5 | .rinse => 6

def columnStateOfCode (n : Nat) : Option ColumnState :=
  [ColumnState.offline, .service, .ready, .exhausted, .brine, .soak, .rinse][n]?

/-- Sides and columns: 0 for A, 1 for B (R85, R91). -/
def sideCode : Side → Nat
  | .a => 0 | .b => 1

def sideOfCode (n : Nat) : Option Side := [Side.a, .b][n]?

def purposeCode : MovePurpose → Nat
  | .flip => 0 | .set => 1 | .back => 2

/-- Route codes of the context image (10 10.5). -/
def routeCode : Route → Nat
  | .unset => 0 | .tub => 1 | .regen => 2

def routeOfCode (n : Nat) : Option Route := [Route.unset, .tub, .regen][n]?

def holderCode : Holder → Nat
  | .none => 0 | .fill => 1 | .regen => 2

def progressCode : Progress → Nat
  | .selecting => 0 | .routing => 1 | .set => 2

/-- Regeneration stages: 1 BRINE, 2 SOAK, 3 RINSE (R109, 10 10.5). -/
def regenStageCode : RegenStage → Nat
  | .brine => 1 | .soak => 2 | .rinse => 3

def regenStageOfCode : Nat → Option RegenStage
  | 1 => some .brine | 2 => some .soak | 3 => some .rinse | _ => none

/-- Reservoirs: 0 for DET, 1 for RINSE (R115, R125). -/
def reservoirCode : Reservoir → Nat
  | .det => 0 | .rinse => 1

def reservoirOfCode (n : Nat) : Option Reservoir := [Reservoir.det, .rinse][n]?

def deliveryCode : Delivery → Nat
  | .requested => 0 | .stroking => 1 | .paused => 2

/-- Door states: 0 LATCHED, 1 CLOSED_UNLATCHED, 2 OPEN, 3 AJAR_AUTO (R131). -/
def doorCode : DoorState → Nat
  | .latched => 0 | .closedUnlatched => 1 | .open => 2 | .ajarAuto => 3

/-- Attempt states: the context image gives NONE, REQUESTED and RESTING; PUSHING is 2 (10 10.5). -/
def attemptCode : AttemptState → Nat
  | .none => 0 | .requested => 1 | .pushing => 2 | .resting => 3

def openedByCode : OpenedBy → Nat
  | .none => 0 | .actuator => 1 | .user => 2 | .fault => 3

def openedByOfCode (n : Nat) : Option OpenedBy := [OpenedBy.none, .actuator, .user, .fault][n]?

def stepCode : Step → Nat
  | .full => 0 | .half => 1

def causeCode : WaitCause → Nat
  | .unavailable => 0 | .interlock => 1 | .budget => 2

def mainsCode : Mains → Nat
  | .unknown => 0 | .present => 1 | .absent => 2

/-- Trip reasons (R166). -/
def reasonCode : TripReason → Nat
  | .none => 0 | .overtemp => 1 | .flood => 2 | .sensorLost => 3 | .inletFlow => 4 | .drainFail => 5 | .table => 6

/-- Tables of the integrity latch: 0 CHANNEL, 1 CURVE, 2 LOAD, 4 PROFILE; 3 is the poll list (R174). -/
def tableCode : TableId → Nat
  | .channel => 0 | .curve => 1 | .load => 2 | .profile => 4

def bankCode : Bank → Nat
  | .active => 0 | .shadow => 1

def bankOfCode (n : Nat) : Option Bank := [Bank.active, .shadow][n]?

/-- Profiles: 0 machine, 1 softener, 2 DET, 3 RINSE (R174). -/
def profileCode : ProfileId → Nat
  | .machine => 0 | .softener => 1 | .det => 2 | .rinse => 3

def resolutionCode : Resolution → Nat
  | .ms10 => 0 | .ms100 => 1 | .s1 => 2

def resolutionOfCode (n : Nat) : Option Resolution := [Resolution.ms10, .ms100, .s1][n]?

/-- Notice codes 1 to 36 (11 11.5). -/
def noticeCode : NoticeKind → Nat
  | .channelLimit => 1 | .channelStale => 2 | .ringHalf => 3 | .ringWrap => 4
  | .satelliteLost => 5 | .satelliteBack => 6
  | .levelNotReached => 7 | .fillStalled => 8 | .setpointMissed => 9 | .extraRinse => 10 | .phaseDone => 11
  | .cycleDone => 12 | .cycleCancelled => 13
  | .selectorFault => 14 | .columnSwitched => 15 | .columnDue => 16 | .columnExhausted => 17 | .hardnessFixed => 18
  | .regenSaltLow => 19 | .regenDone => 20 | .regenAborted => 21
  | .doseCurveInvalid => 22 | .soilDefault => 23 | .doseEmpty => 24 | .doseDone => 25 | .doseShort => 26
  | .reservoirLow => 27
  | .doorChanged => 28 | .dryOpened => 29 | .doorActuatorFault => 30
  | .loadShed => 31 | .mainsLost => 32 | .mainsBack => 33
  | .trip => 34 | .integrityError => 35 | .profileFault => 36

/-- The subject of a phase test: a role code, or 16 + n for flag Fn (11 11.2). -/
def subjectCode : Subject → Nat
  | .role r => roleCode r
  | .flag n => 16 + n.val

/-- The subject of a code: one of the eight roles a test may name, or a flag; FLOW and GENERAL are refused (R42). -/
def subjectOfCode (n : Nat) : Option Subject :=
  if h : 16 ≤ n ∧ n < 24 then some (.flag ⟨n - 16, by omega⟩)
  else
    match roleOfCode n with
    | some .flow => none
    | some .general => none
    | some r => some (.role r)
    | none => none

/-- The sizes of the sample stores (R4). -/
def storeSize : StoreMode → Nat
  | .none => 0 | .latest => 1 | .paired => 2 | .ring16 => 16 | .ring64 => 64

/-- The length of a resolution period in steps of 0.1 ms (R202). -/
def resolutionPeriod : Resolution → Nat
  | .ms10 => 10 * Config.msec
  | .ms100 => 100 * Config.msec
  | .s1 => Config.second

end Machine

end Sys2Proof
end

