-- ==== Sys2Proof/Machine/Flags.lean ====
section
/-! DEFINITION. Condition codes (R16), the program flags (R19), and the saturating and clamping forms that
00_scope "Arithmetic" names. -/

namespace Sys2Proof.Machine

/-- The eight condition codes (R16). -/
def Cond.holds (c : Cond) (value threshold : Int) : Bool :=
  match c with
  | .always => true
  | .gt => decide (threshold < value)
  | .eq => decide (value = threshold)
  | .lt => decide (value < threshold)
  | .never => false
  | .ge => decide (threshold ≤ value)
  | .ne => decide (value ≠ threshold)
  | .le => decide (value ≤ threshold)

/-- The set mask, then the clear mask, then the toggle mask (R19). -/
def applyFlagMasks (flags set clear toggle : Byte) : Byte := ((flags ||| set) &&& ~~~clear) ^^^ toggle

/-- A flag as the value of a phase test: 1 while it is set and 0 while it is clear (R16). -/
def flagValue (flags : Byte) (n : Fin 8) : Int := if flags.getLsbD n.val then 1 else 0

/-- Clamped to `lo` to `hi` (00_scope, Arithmetic). -/
def clampNat (lo hi x : Nat) : Nat := min hi (max lo x)

/-- Clamped to `lo` to `hi`, signed. -/
def clampInt (lo hi x : Int) : Int := min hi (max lo x)

/-- Saturating to the signed 16-bit range (00_scope, Units and ranges). -/
def saturate16 (z : Int) : Int := clampInt (-32768) 32767 z

/-- Shifted right by k, sign restored (00_scope, Arithmetic; R8). -/
def shiftToZero (d : Int) (k : Nat) : Int :=
  if d < 0 then -(((-d).toNat / 2 ^ k : Nat) : Int) else ((d.toNat / 2 ^ k : Nat) : Int)

end Sys2Proof.Machine
end

