-- ==== Sys2Proof/Machine/Ops.lean ====
section
/-! DEFINITION. The named operations that all blocks share: posting a notice (R197, R199), integrity errors and faulted
profiles (R174, R176), reading a role (R17, R18), requesting and releasing a load (R148), and the small accessors. -/

namespace Sys2Proof.Machine

/-- Replaces one place of a table. -/
def upd {α : Type} {n : Nat} (v : Vector α n) (i : Fin n) (x : α) : Vector α n := v.set i.val x i.isLt

/-- Draws the next free value (DESIGN CHOICE, log 3): the counter moves on. -/
def State.draw (s : State) : State := { s with draws := s.draws + 1 }

/-- A list in an order that a free value names: the value modulo the length picks the first, the quotient goes on. -/
def freeOrder {α : Type} : Nat → Nat → List α → List α
  | 0, _, l => l
  | _ + 1, _, [] => []
  | n + 1, k, x :: l =>
    let i := k % (l.length + 1)
    (((x :: l)[i]?).getD x) :: freeOrder n (k / (l.length + 1)) ((x :: l).eraseIdx i)

/-- A list in the order that the free value gives; a list of fewer than two items has one order. -/
def freelyOrdered {α : Type} (order : Nat) (l : List α) : List α :=
  match l with
  | [] => []
  | [x] => [x]
  | l => freeOrder l.length order l

/-! ## Notices (11 11.5) -/

/-- The attention line is low while a queued notice has a level at or below the threshold (R199). -/
def LinkUnit.judgeAttn (l : LinkUnit) : LinkUnit :=
  { l with attn := l.notices.any (fun n => decide (n.level ≤ l.threshold)) }

/-- The numerically highest level in a list of notices. -/
def highestLevel (ns : List Notice) : Nat := ns.foldl (fun m n => max m n.level) 0

/-- The position of the newest notice of the numerically highest level, if that level is above `level` (R197). -/
def replaceable (level : Nat) (ns : List Notice) : Option Nat :=
  let top := highestLevel ns
  if level < top then
    (ns.reverse.findIdx? (fun n => n.level == top)).map (fun k => ns.length - 1 - k)
  else none

/-- A posting at the link port: it joins the tail of a queue below 32, replaces a less urgent notice if its level is 1
or 2, or is dropped; a replacement or a drop sets the overrun flag (R197); the line is judged again (R199). -/
def LinkUnit.post (l : LinkUnit) (n : Notice) : LinkUnit :=
  LinkUnit.judgeAttn <|
    if l.notices.length < 32 then { l with notices := l.notices ++ [n] }
    else
      match (if n.level ≤ 2 then replaceable n.level l.notices else none) with
      | some k => { l with notices := l.notices.eraseIdx k ++ [n], overrun := true }
      | none => { l with overrun := true }

/-- A notice with the time tag that the link port holds (R197). -/
def State.notice (s : State) (kind : NoticeKind) (level subject : Nat) (value : Int) : Notice :=
  { kind := kind, level := level, tag := s.link.timeTag, subject := subject, value := BitVec.ofInt 32 value }

/-- A block posts a notice. -/
def State.post (s : State) (kind : NoticeKind) (level subject : Nat) (value : Int) : State :=
  { s with link := s.link.post (s.notice kind level subject value) }

/-- Several notices posted one after the other. -/
def State.postAll (s : State) (ns : List Notice) : State :=
  { s with link := ns.foldl LinkUnit.post s.link }

/-! ## Integrity errors and profiles (09 9.5) -/

/-- A failed parity check: it fills an empty integrity latch and posts INTEGRITY_ERROR, or sets the more flag when it
is on another entry than the one recorded (R174). -/
def State.integrityError (s : State) (table : TableId) (bank : Option Bank) (index : Nat) : State :=
  let e : IntegrityError := { table := table, bank := bank, index := index }
  match s.trip.integrity with
  | none =>
    State.post { s with trip.integrity := some e } .integrityError 2 (tableCode table) index
  | some e' => if e' = e then s else { s with trip.more := true }

/-- Whether the trip unit has marked the profile faulted (R176). -/
def State.faulted (s : State) : ProfileId → Bool
  | .machine => s.trip.faultedMachine
  | .softener => s.trip.faultedSoftener
  | .det => s.trip.faultedDet
  | .rinse => s.trip.faultedRinse

/-- Sets or ends the faulted mark of a profile. -/
def State.setFaulted (s : State) (p : ProfileId) (b : Bool) : State :=
  match p with
  | .machine => { s with trip.faultedMachine := b }
  | .softener => { s with trip.faultedSoftener := b }
  | .det => { s with trip.faultedDet := b }
  | .rinse => { s with trip.faultedRinse := b }

/-- The profile's parity matches. -/
def State.profileSound (s : State) : ProfileId → Bool
  | .machine => s.eng.profile.sound
  | .softener => s.soft.profile.sound
  | .det => s.dosing.det.profile.sound
  | .rinse => s.dosing.rinse.profile.sound

/-- The machine profile in effect: its defaults while it is marked faulted (R176). -/
def State.machine (s : State) : MachineProfile :=
  if s.trip.faultedMachine then .default else s.eng.profile.contents

/-- The softener profile in effect (R87, R176). -/
def State.softener (s : State) : SoftenerProfile :=
  if s.trip.faultedSoftener then .default else s.soft.profile.contents

/-- A reservoir record. -/
def State.reservoir (s : State) : Reservoir → ReservoirState
  | .det => s.dosing.det
  | .rinse => s.dosing.rinse

/-- Replaces a reservoir record. -/
def State.setReservoir (s : State) (r : Reservoir) (x : ReservoirState) : State :=
  match r with
  | .det => { s with dosing.det := x }
  | .rinse => { s with dosing.rinse := x }

def dosingProfileId : Reservoir → ProfileId
  | .det => .det
  | .rinse => .rinse

/-- The dosing profile in effect (R113, R176). -/
def State.dosingProfile (s : State) (r : Reservoir) : DosingProfile :=
  if s.faulted (dosingProfileId r) then .default else (s.reservoir r).profile.contents

/-- The due flag of a column set to whether C is at or below the switch reserve, without a notice (R83). -/
def Column.judgeDue (c : Column) (reserve : Nat) : Column := { c with due := decide (c.cap ≤ reserve) }

/-- Both due flags judged against the switch reserve in effect (R83). -/
def State.judgeDueFlags (s : State) : State :=
  { s with
    soft.colA := s.soft.colA.judgeDue s.softener.reserve
    soft.colB := s.soft.colB.judgeDue s.softener.reserve }

/-- A record's setpoint lowered to a maximum; 0 stays 0 (R52). -/
def PhaseRecord.lowerSetpoint (p : PhaseRecord) (maxSetpoint : Nat) : PhaseRecord :=
  match p.body with
  | .wash w => { p with body := .wash { w with setpoint := min w.setpoint maxSetpoint } }
  | _ => p

/-- The queued setpoints lowered to the maximum setpoint in effect (R52). -/
def State.lowerQueuedSetpoints (s : State) : State :=
  { s with eng.queue := s.eng.queue.map (fun p => p.lowerSetpoint s.machine.maxSetpoint) }

/-- The estimate lowered to the capacity in effect (R113). -/
def State.lowerEstimate (s : State) (r : Reservoir) : State :=
  s.setReservoir r
    { s.reservoir r with estimate := min (s.reservoir r).estimate (s.dosingProfile r).capacity }

/-- An evaluation is due at the end of the event (R148, R155). -/
def State.markEval (s : State) : State := { s with arb.evalDue := true }

/-- What the blocks judge anew when the contents of a profile change, or its defaults start to stand in
(R52, R83, R113, R176). For the softener profile that is the due flags alone: the automatic start check of R104 belongs to the
write (DESIGN CHOICE, log 69). -/
def State.profileChanged (s : State) : ProfileId → State
  | .machine => s.lowerQueuedSetpoints.markEval
  | .softener => s.judgeDueFlags
  | .det => s.lowerEstimate .det
  | .rinse => s.lowerEstimate .rinse

/-- A use of a profile: at its first failed check it is marked faulted, PROFILE_FAULT is posted and the defaults stand
in; a profile so marked is not checked again (R174, R176). -/
def State.useProfile (s : State) (p : ProfileId) : State :=
  if s.faulted p || s.profileSound p then s
  else
    (((s.integrityError .profile none (profileCode p)).setFaulted p true).post .profileFault 2 (profileCode p) 0).profileChanged p

/-! ## Channels as their consumers see them (01 1.6, 1.7) -/

/-- The channel that an enabled ACTIVE entry binds to the role (R18). -/
def State.bound (s : State) (r : Role) : Option (Fin 32) :=
  (List.finRange 32).find? (fun i =>
    s.chan.active[i].contents.enabled && decide (s.chan.active[i].contents.role = r))

/-- The freshness of a role; a role that nothing binds reads as NO_DATA (R18). -/
def State.roleFreshness (s : State) (r : Role) : Freshness :=
  match s.bound r with
  | some i => s.chan.run[i].freshness
  | none => .noData

/-- The role's channel is FRESH. -/
def State.fresh (s : State) (r : Role) : Bool := decide (s.roleFreshness r = .fresh)

/-- The filtered value of a role's channel, 0 when nothing binds the role (R16, R18). -/
def State.roleValue (s : State) (r : Role) : Int :=
  match s.bound r with
  | some i => s.chan.run[i].filtered
  | none => 0

/-- A switch role is asserted while its channel is FRESH and its converted value is not 0 (R17). -/
def State.asserted (s : State) (r : Role) : Bool :=
  match s.bound r with
  | some i => decide (s.chan.run[i].freshness = .fresh) && decide (s.chan.run[i].converted ≠ 0)
  | none => false

/-- The index of a role's channel as the source of a trip (R166). -/
def State.roleSource (s : State) (r : Role) : Option Nat := (s.bound r).map Fin.val

/-- The value of a phase test's subject: a flag as 1 or 0, a role as the filtered value of its channel (R16). -/
def State.subjectValue (s : State) : Subject → Int
  | .flag n => flagValue s.chan.flags n
  | .role r => s.roleValue r

/-! ## Loads (08 8.2) -/

/-- The state of a load. -/
def State.load (s : State) (l : LoadId) : LoadState := s.arb.loads[loadIndex l]

/-- Replaces the state of a load. -/
def State.setLoad (s : State) (l : LoadId) (x : LoadState) : State :=
  { s with arb.loads := upd s.arb.loads (loadIndex l) x }

/-- The ACTIVE entry of a load. -/
def State.loadEntry (s : State) (l : LoadId) : Stored LoadEntry := s.arb.active[loadIndex l]

/-- A load is requested by its owner, by the host's force, or (DRAIN_PUMP) by the arbiter under FLOOD
(R148, R154, R160). -/
def State.requested (s : State) (l : LoadId) : Bool :=
  (s.load l).own.isSome || (s.load l).forced.isSome || (decide (l = .drainPump) && s.arb.flood)

/-- A load is granted: requested, and with a grant that stands (R149). -/
def State.granted (s : State) (l : LoadId) : Bool := s.requested l && (s.load l).grant.isSome

/-- The owner requests a load with an argument; a load already requested only takes the new argument (R148). -/
def State.request (s : State) (l : LoadId) (arg : Nat) : State :=
  (s.setLoad l { s.load l with own := some arg }).markEval

/-- The owner releases a load; a release of a load not requested has no effect (R148). The grant falls in the
evaluation at the end of the event, so that a load which the event requests again keeps it (R57, R148). -/
def State.release (s : State) (l : LoadId) : State :=
  if (s.load l).own.isSome then (s.setLoad l { s.load l with own := none }).markEval else s

/-- The watts that a load counts in G (R149). -/
def State.watts (s : State) (l : LoadId) : Nat :=
  match (s.load l).grant with
  | none => 0
  | some .full => (s.loadEntry l).contents.rated
  | some .half => (s.loadEntry l).contents.half

/-- G: the sum of the watts of the granted loads (R149). -/
def State.totalWatts (s : State) : Nat := (allLoads.map s.watts).foldl (· + ·) 0

/-- No load is granted. -/
def State.noGrant (s : State) : Bool := allLoads.all (fun l => (s.load l).grant.isNone)

/-! ## Sets (R178, R108) -/

def SuspSet.isEmpty (x : SuspSet) : Bool := !(x.door || x.host || x.noWater || x.mains || x.restored)

def SuspSet.put (x : SuspSet) (r : SuspReason) (b : Bool) : SuspSet :=
  match r with
  | .door => { x with door := b }
  | .host => { x with host := b }
  | .noWater => { x with noWater := b }
  | .mains => { x with mains := b }
  | .restored => { x with restored := b }

def HoldSet.isEmpty (x : HoldSet) : Bool := !(x.mains || x.restored)

/-! ## The engine's head (03, 04) -/

/-- The running head's record: the head of the queue while a cycle is under way (R45). -/
def State.headRecord (s : State) : Option PhaseRecord := s.eng.queue.head?

/-- A cycle is under way: the engine is RUNNING or SUSPENDED (03 3.3). -/
def State.underWay (s : State) : Bool := decide (s.eng.state = .running) || decide (s.eng.state = .suspended)

/-- The cycle clock counts: a cycle is under way, and a restored one has resumed (R53). -/
def State.clockRuns (s : State) : Bool := s.underWay && !s.eng.totals.held

/-- The engine is RUNNING in the given stage. -/
def State.runningIn (s : State) (st : Stage) : Bool :=
  decide (s.eng.state = .running) && decide (s.eng.head.map StageRecord.stage = some st)

/-- The tag of the head, as notices carry it. -/
def State.headTag (s : State) : Nat := (s.headRecord.map PhaseRecord.tag).getD 0

/-- Changes the stage record, if there is one. -/
def State.withHead (s : State) (f : StageRecord → StageRecord) : State :=
  { s with eng.head := s.eng.head.map f }

/-! ## Columns (05 5.1) -/

def otherSide : Side → Side
  | .a => .b
  | .b => .a

def State.column (s : State) : Side → Column
  | .a => s.soft.colA
  | .b => s.soft.colB

def State.setColumn (s : State) (c : Side) (x : Column) : State :=
  match c with
  | .a => { s with soft.colA := x }
  | .b => { s with soft.colB := x }

/-- The column in SERVICE, if there is one (R83). -/
def State.serviceColumn (s : State) : Option Side :=
  if s.soft.colA.state = .service then some .a
  else if s.soft.colB.state = .service then some .b
  else none

end Sys2Proof.Machine
end

