-- ==== Sys2Proof/Machine/Curve.lean ====
section
/-! DEFINITION. Curves: validity (R2) and evaluation (R3). -/

namespace Sys2Proof.Machine

/-- Each x is greater than the x before it. -/
def ascending : List (Nat × Int) → Bool
  | [] => true
  | [_] => true
  | p :: q :: rest => decide (p.1 < q.1) && ascending (q :: rest)

/-- A curve is valid when its point count is 2 to 8 and its x values ascend strictly (R2). -/
def pointsValid (pts : List (Nat × Int)) : Bool :=
  decide (2 ≤ pts.length) && decide (pts.length ≤ 8) && ascending pts

/-- A curve as written, with its validity judged (R2). -/
def Curve.judge (pts : List (Nat × Int)) : Curve := { points := pts, valid := pointsValid pts }

/-- On the segment from `p` to `q`: the quotient truncates toward zero and the sum saturates (R3). -/
def interpolate (p q : Nat × Int) (x : Int) : Int :=
  saturate16 (p.2 + Int.tdiv ((x - (p.1 : Int)) * (q.2 - p.2)) ((q.1 : Int) - (p.1 : Int)))

/-- Walks the segments from a point at or below x; beyond the last point the curve is flat (R3). -/
def walkCurve (p : Nat × Int) (x : Int) : List (Nat × Int) → Int
  | [] => p.2
  | q :: rest => if x < (q.1 : Int) then interpolate p q x else walkCurve q x rest

/-- The value of a list of points at x, which is first clamped to 0 to 4095 (R3). -/
def evalPoints (pts : List (Nat × Int)) (x : Int) : Int :=
  let x := clampInt 0 4095 x
  match pts with
  | [] => 0
  | p :: rest => if x ≤ (p.1 : Int) then p.2 else walkCurve p x rest

/-- The index of a curve as an entry or a profile names it, 0 to 7. -/
def curveIndex (n : Nat) : Option (Fin 8) := if h : n < 8 then some ⟨n, h⟩ else none

end Sys2Proof.Machine
end

