-- ==== Sys2Proof/Machine/Softener.lean ====
section
/-! DEFINITION. The softener unit (05): the water path, the selector, the accounting of flow and the regeneration, as
operations that the commands and the other blocks call. -/

namespace Sys2Proof.Machine

/-! ## The water path (05 5.4) -/

/-- The route of a holder: TUB for a FILL, REGEN for a regeneration (R88). -/
def holderRoute : Holder → Route
  | .fill => .tub
  | .regen => .regen
  | .none => .unset

/-- INLET_VALVE is granted to the given holder of the path (R95, R98). -/
def State.inletTo (s : State) (h : Holder) : Bool := decide (s.soft.holder = h) && s.granted .inletValve

/-- A pulse of ROUTE_VALVE toward a route begins (R89). -/
def State.startPulse (s : State) (target : Route) : State :=
  State.request { s with soft.pulse := some { target := target, timer := 0 } } .routeValve (routeCode target)

/-- The holder becomes SET and makes its requests: INLET_VALVE for a fill, the stage's valve for a regeneration, whose
water state becomes FLOWING (R92, R105, R107). A BRINE_VALVE whose grant still stands from earlier in the event is
followed by INLET_VALVE at once (R105; DEDUCED, log 52). -/
def State.becomeSet (s : State) : State :=
  let s := State.markEval { s with soft.progress := .set }
  match s.soft.holder with
  | .none => s
  | .fill => s.request .inletValve 0
  | .regen =>
    match s.soft.regen with
    | none => s
    | some r =>
      let s := { s with soft.regen := some { r with flowing := true } }
      match r.stage with
      | .brine =>
        let s := s.request .brineValve 0
        if s.granted .brineValve then s.request .inletValve 0 else s
      | .rinse => s.request .inletValve 0
      | .soak => s

/-- A holder with its selector settled: SET when the route is its own, else ROUTING with a pulse toward it (R92). -/
def State.routeHolder (s : State) : State :=
  if s.soft.route = holderRoute s.soft.holder then s.becomeSet
  else State.startPulse { s with soft.progress := .routing } (holderRoute s.soft.holder)

/-- A regeneration that holds the path is served when no move and no pulse is under way (R92). -/
def State.serveRegen (s : State) : State :=
  if s.soft.move.isSome || s.soft.pulse.isSome then s else s.routeHolder

/-- A regeneration requests the path: it takes a free path, and waits behind a fill (R93). -/
def State.regenRequestPath (s : State) : State :=
  match s.soft.holder with
  | .none =>
    State.serveRegen (State.markEval { s with soft.holder := .regen, soft.progress := .routing, soft.waiting := false })
  | .fill => { s with soft.waiting := true, soft.regen := s.soft.regen.map (fun r => { r with flowing := false }) }
  | .regen => s

/-- A regeneration gives the path back, or withdraws its waiting request; it releases its valves (R94, R108). -/
def State.regenGiveBack (s : State) : State :=
  let s := { s with soft.waiting := false, soft.regen := s.soft.regen.map (fun r => { r with flowing := false }) }
  if s.soft.holder = .regen then
    State.markEval
      { ((s.release .inletValve).release .brineValve) with soft.holder := .none, soft.progress := .selecting }
  else s

/-! ## Regeneration (05 5.6) -/

/-- C that the end of a regeneration restores (R107). -/
def restoredCapacity (p : SoftenerProfile) (saltReduced : Bool) : Nat :=
  if saltReduced then p.rated * p.restorePercent / 100 else p.rated

/-- A regeneration of a column starts: its record is created, SALT_LOW is judged and the path requested
(R104, R105). -/
def State.startRegen (s : State) (c : Side) : State :=
  let s := { s with soft.regen := some { column := c, stage := .brine, flowing := false, volume := 0, soakTimer := 0 } }
  let s := s.setColumn c { s.column c with state := .brine, saltReduced := s.soft.saltLow }
  let s :=
    if s.soft.saltLow then
      let s := s.useProfile .softener
      s.post .regenSaltLow 3 (sideCode c) (restoredCapacity s.softener true)
    else s
  s.regenRequestPath

/-- The column that an automatic start would take: A when both are STANDBY_EXHAUSTED (R104). -/
def State.exhaustedColumn (s : State) : Option Side :=
  if s.soft.colA.state = .exhausted then some .a
  else if s.soft.colB.state = .exhausted then some .b
  else none

/-- The automatic start check (R104). -/
def State.autoCheck (s : State) : State :=
  match s.exhaustedColumn with
  | none => s
  | some c =>
    if s.link.mode = .run && !s.trip.latch && s.soft.hold.isEmpty && s.soft.regen.isNone then
      let s := s.useProfile .softener
      if s.softener.auto then s.startRegen c else s
    else s

/-- REGEN_BRINE ends: the valves are released, the path is given back and REGEN_SOAK begins (R105, R106). -/
def State.brineEnd (s : State) (r : Regen) : State :=
  let s := s.regenGiveBack
  let s := { s with soft.regen := some { r with stage := .soak, flowing := false, soakTimer := 0 } }
  s.setColumn r.column { s.column r.column with state := .soak }

/-- REGEN_SOAK ends: the stage volume is zeroed and REGEN_RINSE begins with a request of the path (R106, R107). -/
def State.soakEnd (s : State) (r : Regen) : State :=
  let s := { s with soft.regen := some { r with stage := .rinse, flowing := false, volume := 0 } }
  (s.setColumn r.column { s.column r.column with state := .rinse }).regenRequestPath

/-- REGEN_RINSE and the regeneration end: C is restored, REGEN_DONE is posted, and the automatic start check is made
(R107). -/
def State.rinseEnd (s : State) (r : Regen) : State :=
  let s := (s.regenGiveBack).useProfile .softener
  let col := s.column r.column
  let cap := restoredCapacity s.softener col.saltReduced
  let s := s.setColumn r.column (Column.judgeDue { col with cap := cap, state := .ready } s.softener.reserve)
  let s := s.post .regenDone 5 (sideCode r.column) cap
  State.autoCheck { s with soft.regen := none }

/-- The notice of an aborted regeneration (R109). -/
def State.abortNotice (s : State) : List Notice :=
  match s.soft.regen with
  | none => []
  | some r => [s.notice .regenAborted 4 (sideCode r.column) (regenStageCode r.stage)]

/-- A trip or a change out of RUN aborts a regeneration: its column returns to STANDBY_EXHAUSTED with its C (R109). -/
def State.abortRegen (s : State) : State :=
  match s.soft.regen with
  | none => s
  | some r =>
    let s := { s.regenGiveBack with soft.regen := none }
    s.setColumn r.column { s.column r.column with state := .exhausted }

/-- The regeneration is in a stage that needs water. -/
def Regen.needsWater (r : Regen) : Bool := decide (r.stage ≠ .soak)

/-- The hold set changes: becoming non-empty it takes a regeneration off the path, becoming empty it lets it request
the path again and makes the automatic start check (R108). -/
def State.setHold (s : State) (h : HoldSet) : State :=
  let was := s.soft.hold.isEmpty
  let s := { s with soft.hold := h }
  if was && !h.isEmpty then s.regenGiveBack
  else if !was && h.isEmpty then
    match s.soft.regen with
    | some r => if r.needsWater then s.regenRequestPath.autoCheck else s.autoCheck
    | none => s.autoCheck
  else s

/-! ## The selector (05 5.2) -/

/-- The outcome of a FLIP that has arrived: the old service column becomes STANDBY_EXHAUSTED, the ready column SERVICE,
COLUMN_SWITCHED is posted and the automatic start check follows (R91). -/
def State.confirmFlip (s : State) (target : Side) : State :=
  if (s.column target).state = .ready then
    let o := otherSide target
    let s :=
      if (s.column o).state = .service then s.setColumn o { s.column o with state := .exhausted } else s
    let s := s.setColumn target { s.column target with state := .service }
    (s.post .columnSwitched 5 (sideCode target) (s.column target).cap).autoCheck
  else s

/-- The outcome of a move that has arrived: the column change of a FLIP, nothing more for a SET or a BACK (R86). -/
def State.moveArrived (s : State) (m : SelectorMove) : State :=
  match m.purpose with
  | .flip => s.confirmFlip m.target
  | .set => s
  | .back => s

/-- A move begins to drive with its timer at 0: SELECTOR_VALVE is requested toward its target (R86). -/
def State.drive (s : State) (m : SelectorMove) : State :=
  State.request { s with soft.move := some { m with timer := 0, driving := true } } .selectorValve (sideCode m.target)

/-- A new move, with the travel timeout in effect at its creation (R86, R87). -/
def State.newMove (s : State) (purpose : MovePurpose) (target : Side) : SelectorMove :=
  { purpose := purpose, target := target, timer := 0, driving := false, limit := s.softener.travelTimeout }

/-- A FLIP or SET move is created: in RUN it drives, or ends at once when the position is already at its target; outside
RUN it waits (R86). -/
def State.createMove (s : State) (purpose : MovePurpose) (target : Side) : State :=
  let s := s.useProfile .softener
  let m := s.newMove purpose target
  if s.link.mode = .run then
    if s.soft.position = target then s.moveArrived m else s.drive m
  else { s with soft.move := some m }

/-- At the change to RUN a WAITING move turns DRIVING, or ends at once when the position is at its target (R86). -/
def State.wakeMove (s : State) : State :=
  match s.soft.move with
  | none => s
  | some m =>
    if m.driving then s
    else if s.soft.position = m.target then State.moveArrived { s with soft.move := none } m
    else s.drive m

/-- At a change out of RUN a DRIVING move releases its request and becomes WAITING with its timer at 0 (R86). -/
def State.parkMove (s : State) : State :=
  match s.soft.move with
  | none => s
  | some m =>
    if m.driving then
      State.release { s with soft.move := some { m with timer := 0, driving := false } } .selectorValve
    else s

/-- The flip that a fill's take calls for: toward the ready column, when the service column is due and no flip has been
tried (R91). -/
def State.flipTarget (s : State) : Option Side :=
  match s.serviceColumn with
  | none => none
  | some c =>
    if (s.column c).due && decide ((s.column (otherSide c)).state = .ready) && !s.soft.flipTried then
      some (otherSide c)
    else none

/-- The softener judges the flip of a fill (R91). -/
def State.judgeFlip (s : State) : State :=
  match s.flipTarget with
  | none => s
  | some t => State.createMove { s with soft.flipTried := true } .flip t

/-- The path is served: nothing while a move or a pulse is under way; a fill in SELECTING is first judged for a flip
(R91, R92). A fill that takes the path during a pulse of the regeneration is judged at the pulse's end (R90; DESIGN CHOICE,
log 55). -/
def State.servePath (s : State) : State :=
  if s.soft.move.isSome || s.soft.pulse.isSome then s
  else
    match s.soft.holder, s.soft.progress with
    | .none, _ => s
    | _, .set => s
    | .fill, .selecting =>
      let s := s.judgeFlip
      if s.soft.move.isSome then s else s.routeHolder
    | _, _ => s.routeHolder

/-- A fill requests the path and takes it in the same event, preempting a regeneration; a NEW request zeroes the
per-fill accounting and clears its two marks (R90). -/
def State.fillTake (s : State) (mark : RunMark) : State :=
  let s :=
    if s.soft.holder = .regen then
      { ((s.release .inletValve).release .brineValve) with
        soft.waiting := true, soft.regen := s.soft.regen.map (fun r => { r with flowing := false }) }
    else s
  let s := State.markEval { s with soft.holder := .fill, soft.progress := .selecting }
  let s :=
    match mark with
    | .new => { s with soft.vFill := 0, soft.u := 0, soft.exhaustedMark := false, soft.flipTried := false }
    | .resumed => s
  s.servePath

/-- A fill gives the path back; a waiting regeneration takes it in the same event (R94). -/
def State.fillGiveBack (s : State) : State :=
  if s.soft.holder = .fill then
    let s := State.markEval { s.release .inletValve with soft.holder := .none, soft.progress := .selecting }
    if s.soft.waiting then
      State.servePath { s with soft.waiting := false, soft.holder := .regen, soft.progress := .routing }
    else s
  else s

/-- The position check: a service column whose side is not the position goes OFFLINE (R85). -/
def State.positionCheck (s : State) : State :=
  match s.serviceColumn with
  | none => s
  | some c => if s.soft.position = c then s else s.setColumn c { s.column c with state := .offline }

/-- A debounced change of the position: it ends the move that drives toward it, or is unexpected (R85, R86). -/
def State.positionChange (s : State) (side : Side) : State :=
  let s := { s with soft.position := side }
  match s.soft.move with
  | some m =>
    if m.driving && decide (m.target = side) then
      ((State.release { s with soft.move := none } .selectorValve).moveArrived m).servePath
    else s.positionCheck.post .selectorFault 2 (sideCode side) 2
  | none => s.positionCheck.post .selectorFault 2 (sideCode side) 2

/-- A move's travel timer reaches the timeout: SELECTOR_FAULT with value 1 and a BACK move toward the side the move
left, or the end of the BACK move, with value 3 and the position check where it has not arrived (R86). The subject of
the notice with value 3 is not stated: a free value (DESIGN CHOICE, log 12). -/
def State.travelTimeout (s : State) (m : SelectorMove) : State :=
  match m.purpose with
  | .back =>
    let s := State.release { s with soft.move := none } .selectorValve
    let s :=
      if s.soft.position = m.target then s
      else
        (s.draw.positionCheck).post .selectorFault 2 (Config.selectorFaultSubject s.draws).val 3
    s.servePath
  | _ =>
    let s := ((s.post .selectorFault 2 (sideCode m.target) 1).release .selectorValve).useProfile .softener
    s.drive (s.newMove .back (otherSide m.target))

/-- The route pulse reaches 1.0 s: the route is set, ROUTE_VALVE is released and the path is served (R89, R92). -/
def State.pulseEnd (s : State) (p : RoutePulse) : State :=
  (State.markEval (State.release { s with soft.pulse := none, soft.route := p.target } .routeValve)).servePath

/-- A pulse under way is abandoned, and the route left UNSET (R89, R161; DESIGN CHOICE, log 14). -/
def State.dropPulse (s : State) : State :=
  match s.soft.pulse with
  | none => s
  | some _ => State.markEval (State.release { s with soft.pulse := none, soft.route := .unset } .routeValve)

/-! ## Reports of the arbiter (R95) -/

/-- The softener takes the report of one of its valves, as its grant stands. A grant of INLET_VALVE to a holder zeroes
the stray volume; INLET_VALVE follows BRINE_VALVE in REGEN_BRINE; a pulse starts in full at each grant and leaves the
route UNSET at a withdrawal; ROUTE_VALVE granted to the host's force leaves the route UNSET (R89, R95). -/
def State.softenerReport (s : State) (l : LoadId) : State :=
  match l with
  | .inletValve =>
    if s.granted .inletValve && decide (s.soft.holder ≠ .none) then { s with soft.stray := 0 } else s
  | .brineValve =>
    match s.soft.regen with
    | some r =>
      if decide (s.soft.holder = .regen) && decide (r.stage = .brine) then
        if s.granted .brineValve then s.request .inletValve 0 else s.release .inletValve
      else s
    | none => s
  | .routeValve =>
    if s.granted .routeValve && (s.load .routeValve).forced.isSome then
      State.markEval { s with soft.route := .unset }
    else
      match s.soft.pulse with
      | none => s
      | some p =>
        let s := { s with soft.pulse := some { p with timer := 0 } }
        if s.granted .routeValve then s else State.markEval { s with soft.route := .unset }
  | _ => s

/-! ## Accounting (05 5.5) -/

/-- What a flow hand-off reports on: fill volume to the engine, or a stray volume above the limit to the trip unit. -/
inductive FlowReport where
  | nothing
  | volume (v : Nat)
  | stray (volume : Nat)
  deriving DecidableEq, Repr

/-- The inlet hardness: the clamped CONDUCTIVITY value while its channel is FRESH, else h_fix (R102). -/
def State.inletHardness (s : State) : Nat :=
  if s.fresh .conductivity then (clampInt 0 2000 (s.roleValue .conductivity)).toNat else s.softener.hFix

/-- The fallback mark and HARDNESS_FIXED at a use of the inlet hardness (R102). -/
def State.markFallback (s : State) : State :=
  if s.fresh .conductivity then { s with soft.fallback := false }
  else if s.soft.fallback then s
  else State.post { s with soft.fallback := true } .hardnessFixed 3 0 s.softener.hFix

/-- A load of L hu: the service column takes what it can and U rises by the rest (R101). -/
def State.takeLoad (s : State) (load : Nat) : State :=
  match s.serviceColumn with
  | none => { s with soft.u := min 65535 (s.soft.u + load) }
  | some c =>
    let col := s.column c
    let take := min load col.cap
    let cap := col.cap - take
    let nowDue := decide (cap ≤ s.softener.reserve) && !col.due
    let s := s.setColumn c { col with cap := cap, due := col.due || nowDue }
    let s := { s with soft.u := min 65535 (s.soft.u + (load - take)) }
    let s := if nowDue then s.post .columnDue 4 (sideCode c) cap else s
    if decide (cap = 0) && decide (take < load) && !s.soft.exhaustedMark then
      State.post { s with soft.exhaustedMark := true } .columnExhausted 3 (sideCode c) s.soft.u
    else s

/-- A fill's millilitres raise V_fill and the load, which the column and U share (R100). -/
def State.fillAccount (s : State) (v : Nat) : State :=
  let s := { s with soft.vFill := min 65535 (s.soft.vFill + v) }
  let hIn := s.inletHardness
  let s := s.markFallback
  let x := s.soft.rl + (hIn - s.softener.hRes) * v
  State.takeLoad { s with soft.rl := x % 1000 } (x / 1000)

/-- A regeneration's millilitres raise its stage volume, and end the stage that reaches its volume (R99, R105, R107). -/
def State.regenAccount (s : State) (v : Nat) : State :=
  match s.soft.regen with
  | none => s
  | some r =>
    let r := { r with volume := min 65535 (r.volume + v) }
    let s := { s with soft.regen := some r }
    match r.stage with
    | .brine => if s.softener.brineVolume ≤ r.volume then s.brineEnd r else s
    | .rinse => if s.softener.rinseVolume ≤ r.volume then s.rinseEnd r else s
    | .soak => s

/-- Stray millilitres; a stray volume left above the limit is reported while v is 1 or more (R98). -/
def State.strayAccount (s : State) (v : Nat) : State × FlowReport :=
  let s := { s with soft.stray := min 65535 (s.soft.stray + v) }
  if v = 0 then (s, .nothing)
  else
    let s := s.useProfile .machine
    if s.machine.strayLimit < s.soft.stray then (s, .stray s.soft.stray) else (s, .nothing)

/-- The pulse delta of a hand-off: 0 where the accounting resynchronises (R96). -/
def pulseDelta (tLast : Option Nat) (total : Nat) (before : Freshness) : Nat :=
  match tLast with
  | none => 0
  | some t => if before = .fresh then (total + 65536 - t) % 65536 else 0

/-- A FLOW hand-off: pulses become whole millilitres (R96, R97), which go to exactly one place, judged on the holder and
the grant of INLET_VALVE (R98 to R100). -/
def State.flowHandoff (s : State) (total : Nat) (before : Freshness) : State × FlowReport :=
  let s := s.useProfile .softener
  let d := pulseDelta s.soft.tLast total before
  let x := s.soft.rf + d * 1000
  let v := x / s.softener.k
  let s := { s with soft.tLast := some total, soft.rf := x % s.softener.k }
  if s.inletTo .fill then (s.fillAccount v, .volume v)
  else if s.inletTo .regen then (s.regenAccount v, .nothing)
  else s.strayAccount v

/-- h_tub, the hardness of the water of the last fill (R103). -/
def State.tubHardness (s : State) : Nat :=
  if s.soft.vFill = 0 then s.softener.hRes
  else min 2000 (s.softener.hRes + s.soft.u * 1000 / s.soft.vFill)

end Sys2Proof.Machine
end

