-- ==== Sys2Proof/Machine/Dosing.lean ====
section
/-! DEFINITION. The dosing unit (06): the computation of a dose, the delivery of its strokes and the low switches. -/

namespace Sys2Proof.Machine

/-- The pump of a reservoir (06 6.3). -/
def pumpOf : Reservoir → LoadId
  | .det => .doseDet
  | .rinse => .doseRinse

/-- The low switch of a reservoir (R118). -/
def lowRole : Reservoir → Role
  | .det => .detLow
  | .rinse => .rinseLow

/-- A dose of the cycle is counted, saturating (R53). -/
def State.countDose (s : State) : State :=
  { s with eng.totals := { s.eng.totals with doses := min 65535 (s.eng.totals.doses + 1) } }

/-! ## Computing a dose (06 6.4) -/

/-- A factor from a curve of the ACTIVE bank at x, clamped to 64 to 1024; 256 where the curve is invalid, with
DOSE_CURVE_INVALID, or has an integrity error, which is recorded (R115). -/
def State.factor (s : State) (r : Reservoir) (curve : Nat) (x : Int) : State × Nat :=
  match curveIndex curve with
  | none => (s.post .doseCurveInvalid 3 curve (reservoirCode r), 256)
  | some i =>
    let c := s.chan.curves[i]
    if !c.contents.valid then (s.post .doseCurveInvalid 3 i.val (reservoirCode r), 256)
    else if !c.sound then (s.integrityError .curve (some .active) i.val, 256)
    else (s, (clampInt 64 1024 (evalPoints c.contents.points x)).toNat)

/-- The hardness factor F_h, from the tub hardness (R115). The softener is asked for it where the profile names a curve,
whether or not the curve is valid (DESIGN CHOICE, log 46). -/
def State.hardnessFactor (s : State) (r : Reservoir) : State × Nat :=
  match (s.dosingProfile r).hardCurve with
  | none => (s, 256)
  | some c =>
    let s := s.useProfile .softener
    s.factor r c s.tubHardness

/-- The soil factor F_s, from the filtered soil index; 256 with SOIL_DEFAULT where TURBIDITY is not FRESH, whether or not
the curve is valid (R116; DESIGN CHOICE, log 44). -/
def State.soilFactor (s : State) (r : Reservoir) (tag : Nat) : State × Nat :=
  match (s.dosingProfile r).soilCurve with
  | none => (s, 256)
  | some c =>
    if s.fresh .turbidity then s.factor r c (s.roleValue .turbidity)
    else (s.post .soilDefault 4 tag (reservoirCode r), 256)

/-- The dose in 0.1 mL, rounded half up and clamped to the profile's D_min to D_max (R117). -/
def computeDose (p : DosingProfile) (dBase fh fs : Nat) : Nat :=
  clampNat p.dMin p.dMax ((dBase * fh * fs + 32768) / 65536)

/-- The strokes that a dose needs, rounded up and saturating at 255 (R117). -/
def strokesFor (p : DosingProfile) (dose : Nat) : Nat :=
  min 255 ((dose * 10 + p.strokeVolume - 1) / p.strokeVolume)

/-- A reservoir is empty when its low switch is asserted, as last told, and its estimate is 0 (R118). -/
def State.reservoirEmpty (s : State) (r : Reservoir) : Bool :=
  (s.reservoir r).lowTold && decide ((s.reservoir r).estimate = 0)

/-- DOSE_DONE: the pump is released, the notice posted, the record dropped and the dose counted (R122). -/
def State.doseDone (s : State) (r : Reservoir) (tag done : Nat) : State :=
  let s := (s.release (pumpOf r)).post .doseDone 5 tag done
  State.countDose { s with dosing.dose := none }

/-- DOSE_EMPTY: a dose from an empty reservoir is skipped and not counted (R118). -/
def State.doseEmpty (s : State) (r : Reservoir) (tag : Nat) : State :=
  let s := (s.release (pumpOf r)).post .doseEmpty 2 tag (reservoirCode r)
  { s with dosing.dose := none }

/-- The notice of an abandoned dose (R123). -/
def State.shortNotice (s : State) : List Notice :=
  match s.dosing.dose with
  | none => []
  | some d => [s.notice .doseShort 3 d.tag d.done]

/-- A dose in flight is abandoned, but for its notice: the pump is released, the record dropped, the dose counted
(R123). -/
def State.dropDose (s : State) : State :=
  match s.dosing.dose with
  | none => s
  | some d => State.countDose (State.release { s with dosing.dose := none } (pumpOf d.reservoir))

/-- A dose in flight is abandoned with DOSE_SHORT (R123). -/
def State.abandonDose (s : State) : State := (s.postAll s.shortNotice).dropDose

/-- The dose point. A dose still in flight, which only a restore can have left there, is abandoned first (R114, R123; DESIGN
CHOICE, log 61). Then the factors, the dose and its strokes are computed, the empty test is judged, and the dose record
made with its pump requested (R114). -/
def State.beginDose (s : State) (r : Reservoir) (dBase tag : Nat) : State :=
  let s := s.abandonDose.useProfile (dosingProfileId r)
  let h := s.hardnessFactor r
  let f := h.1.soilFactor r tag
  let s := f.1
  let p := s.dosingProfile r
  let dose := computeDose p dBase h.2 f.2
  let total := strokesFor p dose
  if s.reservoirEmpty r then s.doseEmpty r tag
  else if total = 0 then s.doseDone r tag 0
  else
    State.request
      { s with
        dosing.dose :=
          some { reservoir := r, tag := tag, dose := dose, total := total, done := 0, state := .requested, timer := 0 } }
      (pumpOf r) 0

/-! ## Delivering strokes (06 6.5) -/

/-- The stroke under way is void: the timer returns to 0 and the dose waits for a grant (R120). -/
def Dose.void (d : Dose) : Dose := { d with state := .requested, timer := 0 }

/-- A stroke starts from 0; while no stroke is counted, the empty test is judged first (R118, R119). -/
def State.startStroke (s : State) (d : Dose) : State :=
  if decide (d.done = 0) && s.reservoirEmpty d.reservoir then s.doseEmpty d.reservoir d.tag
  else { s with dosing.dose := some { d with state := .stroking, timer := 0 } }

/-- The dosing unit takes the report of a pump, as its grant stands: a grant starts a stroke, a withdrawal voids it
(R119, R120). -/
def State.dosingReport (s : State) (r : Reservoir) : State :=
  match s.dosing.dose with
  | none => s
  | some d =>
    if d.reservoir = r ∧ d.state ≠ .paused then
      if s.granted (pumpOf r) then s.startStroke d else { s with dosing.dose := some d.void }
    else s

/-- The dose point, with the pump's grant read as it stands: a grant that an abandoned dose leaves behind is kept and not
reported again (R148, R149), so the first stroke starts at once (R114, R119; DEDUCED, log 52). -/
def State.startDose (s : State) (r : Reservoir) (dBase tag : Nat) : State := (s.beginDose r dBase tag).dosingReport r

/-- The stroke timer reaches the stroke period: the stroke is counted, the estimate falls, and the next stroke starts
or the dose ends (R119, R122). -/
def State.strokeDone (s : State) (d : Dose) : State :=
  let s := s.useProfile (dosingProfileId d.reservoir)
  let res := s.reservoir d.reservoir
  let s :=
    s.setReservoir d.reservoir
      { res with estimate := res.estimate - (s.dosingProfile d.reservoir).strokeVolume }
  let done := d.done + 1
  if done < d.total then { s with dosing.dose := some { d with done := done, timer := 0 } }
  else s.doseDone d.reservoir d.tag done

/-- The move from CIRCULATE to HOLD voids the stroke under way; a pump that is granted starts a new one at once
(R118, R121). -/
def State.doseStageChange (s : State) : State :=
  match s.dosing.dose with
  | none => s
  | some d =>
    if d.state = .paused then s
    else if s.granted (pumpOf d.reservoir) then s.startStroke d
    else { s with dosing.dose := some d.void }

/-- The engine leaves RUNNING: the stroke is void, the pump is released and the dose pauses (R122). -/
def State.pauseDose (s : State) : State :=
  match s.dosing.dose with
  | none => s
  | some d => State.release { s with dosing.dose := some { d with state := .paused, timer := 0 } } (pumpOf d.reservoir)

/-- The engine returns to RUNNING: in CIRCULATE or HOLD the dose requests its pump again, or ends with DOSE_DONE when
its strokes are all done; a restored dose in another stage is abandoned (R122, R128). -/
def State.resumeDose (s : State) : State :=
  match s.dosing.dose with
  | none => s
  | some d =>
    if s.runningIn .circulate || s.runningIn .hold then
      if d.total ≤ d.done then s.doseDone d.reservoir d.tag d.done
      else State.request { s with dosing.dose := some d.void } (pumpOf d.reservoir) 0
    else s.abandonDose

/-! ## Low switches (06 6.6) -/

/-- A change of a low switch to asserted lowers the estimate to the low mark, and posts RESERVOIR_LOW once (R125). -/
def State.lowCorrection (s : State) (r : Reservoir) : State :=
  let s := s.useProfile (dosingProfileId r)
  let res := s.reservoir r
  let estimate := min res.estimate (s.dosingProfile r).lowMark
  let s := s.setReservoir r { res with estimate := estimate, lowSeen := true }
  if res.lowSeen then s else s.post .reservoirLow 3 (reservoirCode r) estimate

/-- The dosing unit is told of a change of a low switch (R124). -/
def State.lowTold (s : State) (r : Reservoir) (asserted : Bool) : State :=
  let s := s.setReservoir r { s.reservoir r with lowTold := asserted }
  if asserted then s.lowCorrection r else s

end Sys2Proof.Machine
end

