-- ==== Sys2Proof/Machine/Drying.lean ====
section
/-! DEFINITION. The DRY phase (07 7.3): its stages as the door unit begins, stops and judges them. An operation that may
end the phase answers with a Bool, true when the phase has ended in this event; the engine then completes it (R142). -/

namespace Sys2Proof.Machine

/-- The DRY record of a new head (R136). -/
def DryRecord.new : DryRecord where
  condense := 0
  attempt := 0
  attState := .none
  window := 0
  rest := 0
  vent := 0
  openedBy := .none

/-- Changes the DRY record, if there is one. -/
def State.withDry (s : State) (f : DryRecord → DryRecord) : State :=
  { s with door.dry := s.door.dry.map f }

/-- The fields of a DRY head. -/
def State.dryHead (s : State) : Option DryFields :=
  match s.headRecord with
  | some p =>
    match p.body with
    | .dry f => some f
    | _ => none
  | none => none

/-- Moves the stage of the head. -/
def State.setStage (s : State) (st : Stage) : State := s.withHead (fun h => { h with stage := st })

/-- The attempt state of the DRY record. -/
def State.attemptState (s : State) : AttemptState := (s.door.dry.map DryRecord.attState).getD .none

/-- The way the door was opened, as the DRY record has it. -/
def State.openedBy (s : State) : OpenedBy := (s.door.dry.map DryRecord.openedBy).getD .none

/-- An attempt pushes with its actuator granted: a granted attempt window (R132, R139). -/
def State.pushing (s : State) : Bool :=
  s.runningIn .opening && decide (s.attemptState = .pushing) && s.granted .doorActuator

/-- VENT begins, with FAN if the record asks for it; a vent time of 0 ends it at once (R142). No attempt, window or rest
stands in VENT (DESIGN CHOICE, log 57). -/
def State.enterVent (s : State) (f : DryFields) : State × Bool :=
  let s := (s.setStage .vent).withDry (fun d => { d with vent := 0, attState := .none, window := 0, rest := 0 })
  (if f.fan then s.request .fan 0 else s, decide (f.ventTime = 0))

/-- The door was opened by the user: opened by USER, DRY_OPENED with value 0, and VENT begins (R138, R141). -/
def State.openedByUser (s : State) (f : DryFields) : State × Bool :=
  let s := (s.release .doorActuator).withDry (fun d => { d with openedBy := .user })
  (s.post .dryOpened 5 s.headTag 0).enterVent f

/-- The attempt under way has opened the door: opened by ACTUATOR, DRY_OPENED with the attempt, and VENT begins
(R139). -/
def State.openedByActuator (s : State) (f : DryFields) : State × Bool :=
  let attempt := (s.door.dry.map DryRecord.attempt).getD 0
  let s := (s.release .doorActuator).withDry (fun d => { d with openedBy := .actuator })
  (s.post .dryOpened 5 s.headTag attempt).enterVent f

/-- OPENING begins with the first attempt (R139). An actuator whose grant still stands from earlier in the event lets the
attempt push at once, since no report will follow (DEDUCED, log 52). -/
def State.enterOpening (s : State) : State :=
  let s := (s.setStage .opening).request .doorActuator 0
  let start : AttemptState := if s.granted .doorActuator then .pushing else .requested
  s.withDry (fun d => { d with attempt := 1, attState := start, window := 0, rest := 0 })

/-- TUB_TEMP is FRESH at or below the open temperature (R137). -/
def State.coolEnough (s : State) (f : DryFields) : Bool :=
  s.fresh .tubTemp && decide (s.roleValue .tubTemp ≤ f.openTemp)

/-- CONDENSE begins: it ends at once where the door is not LATCHED, the tub is cool, or the maximum time is 0
(R137, R138). -/
def State.enterCondense (s : State) (f : DryFields) : State × Bool :=
  let s := (s.setStage .condense).withDry (fun d => { d with condense := 0 })
  if s.door.state ≠ .latched then s.openedByUser f
  else if s.coolEnough f || decide (f.condenseMax = 0) then (s.enterOpening, false)
  else (s, false)

/-- The engine leaves RUNNING in a DRY stage: FAN and DOOR_ACTUATOR are released and a pushing attempt is void
(R143). -/
def State.stopDry (s : State) : State :=
  ((s.release .fan).release .doorActuator).withDry (fun d =>
    if d.attState = .pushing then { d with attState := .requested, window := 0 } else d)

/-- The requests of a DRY stage are released and the DRY record is dropped (R142, R144). -/
def State.dropDry (s : State) : State :=
  { ((s.release .fan).release .doorActuator) with door.dry := none }

/-- The engine returns to RUNNING in a DRY stage: the door and the temperature are judged once, in order, and else the
stage's requests are made again (R143). -/
def State.returnDry (s : State) (f : DryFields) : State × Bool :=
  let opened := decide (s.door.state ≠ .latched)
  match s.eng.head.map StageRecord.stage with
  | some .condense =>
    if opened then s.openedByUser f
    else if s.coolEnough f then (s.enterOpening, false)
    else (s, false)
  | some .opening =>
    if opened then s.openedByUser f
    else if s.attemptState = .requested then (s.request .doorActuator 0, false)
    else (s, false)
  | some .vent =>
    if decide (s.openedBy = .actuator ∨ s.openedBy = .user) && s.door.closed then (s, true)
    else (if f.fan then s.request .fan 0 else s, false)
  | _ => (s, false)

/-- A first attempt that fails rests; a second posts DOOR_ACTUATOR_FAULT and VENT begins with the door shut (R140). The
window of an attempt that has ended reads 0 (DESIGN CHOICE, log 57). -/
def State.attemptFailed (s : State) (f : DryFields) (d : DryRecord) : State × Bool :=
  let s := s.release .doorActuator
  if d.attempt ≤ 1 then (s.withDry (fun d => { d with attState := .resting, window := 0, rest := 0 }), false)
  else
    let s := s.withDry (fun d => { d with openedBy := .fault })
    (s.post .doorActuatorFault 2 s.headTag 2).enterVent f

/-- The door unit takes the report of the actuator, as its grant stands: a grant starts a full window, a withdrawal
voids the attempt (R139, R141). -/
def State.actuatorReport (s : State) : State :=
  if s.runningIn .opening then
    if s.granted .doorActuator then
      if s.attemptState = .requested ∨ s.attemptState = .pushing then
        s.withDry (fun d => { d with attState := .pushing, window := 0 })
      else s
    else if s.attemptState = .pushing then
      s.withDry (fun d => { d with attState := .requested, window := 0 })
    else s
  else s

end Sys2Proof.Machine
end

