-- ==== Sys2Proof/Machine/Engine.lean ====
section
/-! DEFINITION. The phase engine (03, 04, 10): the stages of WASH and DRAIN phases, the end of a phase and of a cycle,
the suspension set, and what hand-offs and reports do to the running stage. -/

namespace Sys2Proof.Machine

/-- The fields of a WASH head. -/
def State.washHead (s : State) : Option WashFields :=
  match s.headRecord with
  | some p =>
    match p.body with
    | .wash w => some w
    | _ => none
  | none => none

/-- The drain end level and drain minimum time of the head's record. -/
def State.drainHead (s : State) : Option DrainFields :=
  match s.headRecord with
  | some p =>
    match p.body with
    | .wash w => some { endLevel := w.endLevel, minTime := w.minTime }
    | .drain d => some d
    | .dry _ => none
  | none => none

/-- The stage record at the start of a run (R56). -/
def StageRecord.start (stage : Stage) (repeats : Nat) (cancelling : Bool) : StageRecord where
  stage := stage
  runMark := .new
  stallTimer := 0
  heatTimer := 0
  holdTimer := 0
  drainTimer := 0
  timeoutSpent := false
  thermostat := false
  captured := .none
  doseBegun := false
  repeats := repeats
  cancelling := cancelling

/-- The engine releases its loads (R180, R82). -/
def State.releaseEngine (s : State) : State := ((s.release .heater).release .circPump).release .drainPump

/-- The thermostat decision, with HEATER requested or released by it (R64, R69). -/
def State.setThermostat (s : State) (on : Bool) : State :=
  let s := s.withHead (fun h => { h with thermostat := on })
  if on then (if (s.load .heater).own.isSome then s else s.request .heater 0) else s.release .heater

/-! ## Stages of a WASH run (04 4.2 to 4.6) -/

/-- Entering DRAIN (R72). While SUSPENDED the pump waits for the return (R80). -/
def State.enterDrain (s : State) : State :=
  let s := (s.release .circPump).release .heater
  let s := s.withHead (fun h => { h with stage := .drain, drainTimer := 0, timeoutSpent := false, thermostat := false })
  if s.eng.state = .running then s.request .drainPump 0 else s

/-- The extra-rinse test as judged at the end of HOLD (R71). -/
def State.extraResult (s : State) (w : WashFields) : Captured :=
  match w.extraTest with
  | none => .false
  | some x =>
    let known :=
      match x.test.subject with
      | .flag _ => true
      | .role r => s.fresh r
    if known && x.test.cond.holds (s.subjectValue x.test.subject) x.test.threshold then .true else .false

/-- HOLD ends: the extra-rinse test is captured, a dose in flight is abandoned, and DRAIN is entered (R68, R71,
R123). -/
def State.endHold (s : State) (w : WashFields) : State :=
  let c := s.extraResult w
  ((s.withHead (fun h => { h with captured := c })).abandonDose).enterDrain

/-- The dose point of the run, once in each run (R67). -/
def State.reachDosePoint (s : State) (w : WashFields) (p : DosePoint) : State :=
  match w.dose with
  | none => s
  | some r =>
    if w.dosePoint = p ∧ s.eng.head.map StageRecord.doseBegun = some false then
      (s.withHead (fun h => { h with doseBegun := true })).startDose r w.dBase s.headTag
    else s

/-- Entering HOLD with a thermostat decision (R66, R68). -/
def State.enterHold (s : State) (w : WashFields) (decision : Bool) : State :=
  let s := s.withHead (fun h => { h with stage := .hold, holdTimer := 0 })
  let s := s.setThermostat decision
  let s := (s.doseStageChange).reachDosePoint w .atSetpoint
  if w.holdTime = 0 then s.endHold w else s

/-- The thermostat decision of CIRCULATE, on the held TUB_TEMP: at or above the setpoint the stage moves to HOLD
(R64, R66). -/
def State.circulateJudge (s : State) (w : WashFields) : State :=
  if s.fresh .tubTemp then
    if (w.setpoint : Int) ≤ s.roleValue .tubTemp then s.enterHold w false else s.setThermostat true
  else s.setThermostat false

/-- Entering CIRCULATE (R64). -/
def State.enterCirculate (s : State) (w : WashFields) : State :=
  let s := (s.setStage .circulate).request .circPump w.speed
  let s := s.reachDosePoint w .atCirculate
  if w.setpoint = 0 then s.enterHold w false else s.circulateJudge w

/-- FILL ends: the path is given back and CIRCULATE is entered (R62). -/
def State.endFill (s : State) (w : WashFields) : State := (s.fillGiveBack).enterCirculate w

/-- FILL requests the water path with its run mark, which is RESUMED from then on (R58). -/
def State.requestFillPath (s : State) : State :=
  match s.eng.head with
  | none => s
  | some h => (s.withHead (fun h => { h with runMark := .resumed })).fillTake h.runMark

/-! ## Heads, phases and the cycle (04 4.8, 4.9) -/

/-- The cycle ends: the engine goes IDLE and the totals stop (R53, R78, R81). -/
def State.endCycle (s : State) : State :=
  { s with
    eng.state := .idle
    eng.head := none
    eng.susp := .empty
    eng.totals := { s.eng.totals with part := 0, held := false }
    door.settle := none }

/-- DOOR joins the suspension set of a WASH or DRAIN head that starts with the door not LATCHED; the engine is then
SUSPENDED and the head's first stage is entered so (R134). -/
def State.judgeStartDoor (s : State) : State :=
  if s.door.state = .latched then s
  else { s with eng.susp := s.eng.susp.put .door true, eng.state := .suspended }

/-- The head of the queue starts its first run (R57, R78, R136); true when its phase has ended in the same event. -/
def State.startHead (s : State) : State × Bool :=
  match s.headRecord with
  | none => (s, false)
  | some p =>
    match p.body with
    | .wash _ =>
      let s := State.judgeStartDoor { s with eng.head := some (StageRecord.start .fill 0 false) }
      (if s.eng.state = .running then s.requestFillPath else s, false)
    | .drain _ =>
      let s := State.judgeStartDoor { s with eng.head := some (StageRecord.start .drain 0 false) }
      (if s.eng.state = .running then s.enterDrain else s, false)
    | .dry f =>
      State.enterCondense
        { s with eng.head := some (StageRecord.start .condense 0 false), door.dry := some DryRecord.new } f

/-- The value of PHASE_DONE: U in the high and V_fill in the low 16 bits for a WASH record, else 0 (R77). -/
def State.phaseValue (s : State) (p : PhaseRecord) : Int :=
  match p.body with
  | .wash _ => ((s.soft.u % 65536 * 65536 + s.soft.vFill % 65536 : Nat) : Int)
  | _ => 0

/-- A completed record: its masks are applied, PHASE_DONE is posted, and it leaves the queue (R77). -/
def State.completeHead (s : State) : State :=
  match s.eng.queue with
  | [] => s
  | p :: rest =>
    let s := { s with chan.flags := applyFlagMasks s.chan.flags p.setMask p.clearMask 0 }
    let s := s.post .phaseDone 5 p.tag (s.phaseValue p)
    { s with eng.queue := rest, eng.head := none, door.dry := none }

/-- A phase completes, and the next head starts or the cycle ends with CYCLE_DONE (R77, R78). A DRY head may end in the
event in which it starts, so completion goes on down the queue; the count bounds it by the queue's length. -/
def State.finishPhase : Nat → State → State
  | 0, s => s
  | n + 1, s =>
    let tag := s.headTag
    let s := s.completeHead
    match s.eng.queue with
    | [] => (s.post .cycleDone 4 tag s.eng.totals.clock).endCycle
    | _ :: _ =>
      let r := s.startHead
      if r.2 then State.finishPhase n r.1.dropDry else r.1

/-- The phase of the head completes (R77). -/
def State.completePhase (s : State) : State := State.finishPhase s.eng.queue.length s

/-- Completes the phase where an operation of the door unit has ended it (R142), a head marked cancelling too (DESIGN CHOICE,
log 71). -/
def finishIf (r : State × Bool) : State := if r.2 then r.1.dropDry.completePhase else r.1

/-- A cancelling head leaves the queue and the cycle ends with CYCLE_CANCELLED (R81). -/
def State.cancelEnd (s : State) : State :=
  let s := (s.post .cycleCancelled 4 s.headTag s.eng.totals.clock)
  State.endCycle { s with eng.queue := s.eng.queue.tail, door.dry := none }

/-- The drain has ended: DRAIN_PUMP is released; a cancelling head ends the cycle, a WASH head may run again, else the
phase completes (R73, R76, R81). -/
def State.endDrain (s : State) (h : StageRecord) : State :=
  let s := s.release .drainPump
  if h.cancelling then s.cancelEnd
  else
    match s.washHead with
    | none => s.completePhase
    | some w =>
      if h.captured = .true ∧ h.repeats < (w.extraTest.map ExtraTest.maxRepeats).getD 0 then
        let s := s.post .extraRinse 5 s.headTag (h.repeats + 1)
        let s :=
          { s with
            eng.head := some (StageRecord.start .fill (h.repeats + 1) false)
            eng.totals := { s.eng.totals with extraRinses := min 65535 (s.eng.totals.extraRinses + 1) } }
        s.requestFillPath
      else s.completePhase

/-- The end pair of a drain: the level FRESH at or below the drain end level, and the drain timer at the drain minimum
time (R73). -/
def State.judgeDrain (s : State) : State :=
  match s.eng.head, s.drainHead with
  | some h, some d =>
    if s.runningIn .drain && s.fresh .tubLevel && decide (s.roleValue .tubLevel ≤ d.endLevel)
        && decide (d.minTime * Config.second ≤ h.drainTimer) then
      s.endDrain h
    else s
  | _, _ => s

/-! ## Hand-offs and reports to the running stage -/

/-- The thermostat of HOLD: between the two bounds the decision stays as it is; it is OFF while TUB_TEMP is not FRESH
and with a setpoint of 0 (R69). -/
def State.holdDecision (s : State) (w : WashFields) (on : Bool) : Bool :=
  if !s.fresh .tubTemp || decide (w.setpoint = 0) then false
  else if on then decide (s.roleValue .tubTemp < w.setpoint)
  else decide (s.roleValue .tubTemp ≤ (w.setpoint : Int) - s.machine.hysteresis)

/-- The thermostat of HOLD is judged (R69). The machine profile is checked at every judgement, also at one that does not
need the hysteresis (R174; DESIGN CHOICE, log 79). -/
def State.holdJudge (s : State) (w : WashFields) : State :=
  let s := s.useProfile .machine
  s.setThermostat (s.holdDecision w ((s.eng.head.map StageRecord.thermostat).getD false))

/-- A TUB_TEMP hand-off to the running stage (R64, R69, R137). -/
def State.engineTemp (s : State) : State :=
  match s.washHead, s.dryHead with
  | some w, _ =>
    if s.runningIn .circulate then s.circulateJudge w
    else if s.runningIn .hold then s.holdJudge w
    else s
  | _, some f => if s.runningIn .condense && s.coolEnough f then s.enterOpening else s
  | _, _ => s

/-- TUB_TEMP leaves FRESH: the thermostat decision is OFF (R64, R69). -/
def State.engineTempLost (s : State) : State :=
  if s.runningIn .circulate || s.runningIn .hold then s.setThermostat false else s

/-- A TUB_LEVEL hand-off to the running stage: a level at the fill target ends FILL, and DRAIN judges its end pair
(R60, R73). -/
def State.engineLevel (s : State) : State :=
  if s.runningIn .fill then
    match s.washHead with
    | some w => if (w.fillTarget : Int) ≤ s.roleValue .tubLevel then s.endFill w else s
    | none => s
  else s.judgeDrain

/-- An update of a subject of the exit test: after the minimum hold, a true test ends HOLD (R70). -/
def State.exitUpdate (s : State) (hit : Subject → Bool) : State :=
  match s.eng.head, s.washHead with
  | some h, some w =>
    match w.exitTest with
    | none => s
    | some t =>
      if s.runningIn .hold && decide (w.minHold * Config.second ≤ h.holdTimer) && hit t.subject
          && t.cond.holds (s.subjectValue t.subject) t.threshold then
        s.endHold w
      else s
  | _, _ => s

/-- The program flags after masks have been applied, which is an update of all eight flags (R19, R70). -/
def State.flagsUpdate (s : State) (flags : Byte) : State :=
  State.exitUpdate { s with chan.flags := flags } (fun t =>
    match t with
    | .flag _ => true
    | .role _ => false)

/-- A hand-off of a role's channel as an update of the exit test's subject (R11, R70). -/
def State.roleUpdate (s : State) (r : Role) : State := s.exitUpdate (fun t => decide (t = .role r))

/-- A volume report: it adds to the total fill volume, restarts the stall timer, and ends FILL at the volume cap with
LEVEL_NOT_REACHED (R59, R61). -/
def State.engineVolume (s : State) (v : Nat) : State :=
  match s.washHead with
  | none => s
  | some w =>
    if s.runningIn .fill then
      let s :=
        { s with eng.totals := { s.eng.totals with fillVolume := min 4294967295 (s.eng.totals.fillVolume + v) } }
      let s := if 0 < v then s.withHead (fun h => { h with stallTimer := 0 }) else s
      if w.fillCap ≤ s.soft.vFill then
        let level := if s.roleFreshness .tubLevel = .noData then 0 else s.roleValue .tubLevel
        (s.post .levelNotReached 3 s.headTag level).endFill w
      else s
    else s

/-- The inlet granted report to the fill: the stall timer restarts (R58, R61). -/
def State.engineInlet (s : State) : State :=
  if s.inletTo .fill then s.withHead (fun h => { h with stallTimer := 0 }) else s

/-! ## Suspension (10 10.1, 10.2) -/

/-- The engine leaves RUNNING for SUSPENDED (R180, R63). -/
def State.leaveRunning (s : State) : State :=
  let filling := s.runningIn .fill
  let s := { s with eng.state := .suspended }
  let s := if filling then s.fillGiveBack else s
  ((s.releaseEngine).stopDry).pauseDose

/-- A reason joins the suspension set of a cycle under way (R178). -/
def State.addReason (s : State) (r : SuspReason) : State :=
  if s.underWay then
    let running := decide (s.eng.state = .running)
    let s := { s with eng.susp := s.eng.susp.put r true }
    if running then s.leaveRunning else s
  else s

/-- The engine re-enters its stage (R181). In CIRCULATE the held TUB_TEMP is judged against the setpoint, also against one of 0
(DESIGN CHOICE, log 70), and the cancelling mark is not looked at (DESIGN CHOICE, log 71). -/
def State.reenter (s : State) : State :=
  match s.eng.head.map StageRecord.stage, s.washHead, s.dryHead with
  | some .fill, some _, _ => s.requestFillPath
  | some .circulate, some w, _ => (s.request .circPump w.speed).circulateJudge w
  | some .hold, some w, _ => (s.request .circPump w.speed).holdJudge w
  | some .drain, _, none => (s.request .drainPump 0).judgeDrain
  | some _, _, some f => finishIf (s.returnDry f)
  | _, _, _ => s

/-- The engine returns to RUNNING when its suspension set has become empty (R178, R181, R122), and the clock of a restored
cycle runs on (R53). A restored dose that has
no stage to return to ends before the stage is entered again (R128; DESIGN CHOICE, log 48). -/
def State.returnIfFree (s : State) : State :=
  if decide (s.eng.state = .suspended) && s.eng.susp.isEmpty then
    (State.resumeDose { s with eng.state := .running, eng.totals := { s.eng.totals with held := false } }).reenter
  else s

/-- A reason leaves the suspension set (R178). -/
def State.removeReason (s : State) (r : SuspReason) : State :=
  State.returnIfFree { s with eng.susp := s.eng.susp.put r false }

/-- HOST, NO_WATER and RESTORED leave the suspension set, without a return yet (R49, R179). -/
def SuspSet.clearHost (x : SuspSet) : SuspSet := { x with host := false, noWater := false, restored := false }

/-! ## A trip under a running phase (R54, R82, R144) -/

/-- What the trip latch does to the engine and the door unit: every record and the stage record are dropped, the path
is given back, the loads are released and the suspension set is emptied (R54, R82, R135, R144, R170). -/
def State.engineTrip (s : State) : State :=
  let s := if s.underWay then ((s.fillGiveBack).releaseEngine).dropDry else s
  let s := s.endCycle
  { s with eng.queue := [], eng.state := if s.link.mode = .run then .tripped else .idle }

/-! ## The door switches (07 7.1, 7.2) -/

/-- The door state that the readings form; a door that opens within a granted attempt window is AJAR_AUTO, and stays so
until it closes (R131, R132). -/
def formDoor (closed latch : Bool) (current : DoorState) (ajar : Bool) : DoorState :=
  if closed then (if latch then .latched else .closedUnlatched)
  else if ajar || decide (current = .ajarAuto) then .ajarAuto
  else .open

/-- A debounced change of a switch's reading (R130). -/
def DoorUnit.setReading (d : DoorUnit) (sw : DoorSwitch) (level : Bool) : DoorUnit :=
  match sw with
  | .closed => { d with closed := level, closedPending := none, inputs := { d.inputs with doorClosed := level } }
  | .latch => { d with latch := level, latchPending := none, inputs := { d.inputs with latchEngaged := level } }

def DoorUnit.reading (d : DoorUnit) : DoorSwitch → Bool
  | .closed => d.closed
  | .latch => d.latch

/-- What a change of the door does to a DRY head that is RUNNING (R138, R139, R141, R142). `ajar`: the door opened
within a granted attempt window. `opened`, `shut`: the door-closed reading changed. `left`: the state left LATCHED. -/
def State.doorDry (s : State) (f : DryFields) (ajar opened shut left : Bool) : State :=
  if s.runningIn .condense then (if left then finishIf (s.openedByUser f) else s)
  else if s.runningIn .opening then
    if ajar then finishIf (s.openedByActuator f)
    else if (left || opened) && !s.pushing then finishIf (s.openedByUser f)
    else s
  else if s.runningIn .vent then (if shut then finishIf (s, true) else s)
  else s

/-- What a change of the door does to a WASH or DRAIN head: DOOR joins the suspension set, or the settle timer starts
(R133, R135). -/
def State.doorWash (s : State) (left : Bool) : State :=
  if left then s.addReason .door
  else if s.door.state = .latched ∧ s.eng.susp.door then { s with door.settle := some 0 }
  else s

/-- A debounced change of a door switch (R130 to R135, R138 to R142). -/
def State.doorChange (s : State) (sw : DoorSwitch) (level : Bool) : State :=
  if s.door.reading sw = level then { s with door := s.door.setReading sw level }
  else
    let opened := decide (sw = .closed) && !level
    let shut := decide (sw = .closed) && level
    let ajar := opened && s.pushing
    let old := s.door.state
    let s := { s with door := s.door.setReading sw level }
    let new := formDoor s.door.closed s.door.latch old ajar
    if new = old then s
    else
      let left := decide (old = .latched)
      let s := State.post { s with door.state := new } .doorChanged 6 (doorCode new) (doorCode old)
      let s := s.markEval
      let s := if left then { s with door.settle := none } else s
      if s.underWay then
        match s.dryHead with
        | some f => s.doorDry f ajar opened shut left
        | none => s.doorWash left
      else s

end Sys2Proof.Machine
end

