-- ==== Sys2Proof/Machine/Trip.lean ====
section
/-! DEFINITION. The trip unit (09): the causes of a trip, what setting the latch does to every block, and the clear. -/

namespace Sys2Proof.Machine

/-- A cause as a block reports it: reason, source, value, and the role that SENSOR_LOST lost (R166 to R169). -/
structure Cause where
  reason : TripReason
  source : Option Nat
  value : Int
  lost : Option Role
  deriving DecidableEq, Repr

/-! ## Causes (09 9.2) -/

/-- The value that a role's channel holds, 0 where nothing binds the role (R168, R169). -/
def State.heldValue (s : State) (r : Role) : Int := s.roleValue r

/-- OVERTEMP (R167). -/
def State.overtempCause (s : State) : Cause :=
  { reason := .overtemp, source := s.roleSource .tubTemp, value := s.heldValue .tubTemp, lost := none }

/-- FLOOD by the level (R167). -/
def State.floodLevelCause (s : State) : Cause :=
  { reason := .flood, source := s.roleSource .tubLevel, value := s.heldValue .tubLevel, lost := none }

/-- The converted value of a role's channel, 0 where nothing binds the role. -/
def State.roleConverted (s : State) (r : Role) : Int :=
  match s.bound r with
  | some i => s.chan.run[i].converted
  | none => 0

/-- FLOOD by the leak switch (R167). -/
def State.leakCause (s : State) : Cause :=
  { reason := .flood, source := s.roleSource .leak, value := s.roleConverted .leak, lost := none }

/-- SENSOR_LOST of a role, with the source and value given (R168). -/
def lostCause (r : Role) (source : Option Nat) (value : Int) : Cause :=
  { reason := .sensorLost, source := source, value := value, lost := some r }

/-- INLET_FLOW with the stray volume (R169). -/
def State.inletFlowCause (s : State) (stray : Nat) : Cause :=
  { reason := .inletFlow, source := s.roleSource .flow, value := stray, lost := none }

/-- DRAIN_FAIL (R169). -/
def State.drainFailCause (s : State) : Cause :=
  { reason := .drainFail, source := s.roleSource .tubLevel, value := s.heldValue .tubLevel, lost := none }

/-- TABLE for a load (R169). -/
def tableCause (load : Nat) : Cause := { reason := .table, source := some load, value := 0, lost := none }

/-! ## Setting the latch (09 9.3) -/

/-- The record of a trip (R166, R170). -/
def State.recordOf (s : State) (c : Cause) : TripRecord where
  reason := c.reason
  secondary := .none
  tag := if s.underWay then s.headRecord.map PhaseRecord.tag else none
  stage := if s.underWay then s.eng.head.map StageRecord.stage else none
  timeTag := s.link.timeTag
  source := c.source
  value := BitVec.ofInt 32 c.value

/-- The notices of a trip: TRIP, REGEN_ABORTED and DOSE_SHORT (R109, R123, R170). -/
def State.tripNotices (s : State) (c : Cause) : List Notice :=
  s.notice .trip 1 (reasonCode c.reason) c.value :: (s.abortNotice ++ s.shortNotice)

/-- Whether the two ways to take the blocks of one trip differ: a fill holds the path and a regeneration waits for it
(log 9). -/
def State.tripOrderOpen (s : State) : Bool := decide (s.soft.holder = .fill) && s.soft.waiting

/-- The engine, the softener and the dosing unit act on the trip (R82, R109, R123). Where a fill holds the path and a
regeneration waits for it, either block may act first (DESIGN CHOICE, log 9). -/
def State.tripBlocks (s : State) : State :=
  if s.tripOrderOpen then
    (if Config.tripRegenFirst s.draws then (s.draw.abortRegen).dropDose.engineTrip
     else (s.draw.dropDose).engineTrip.abortRegen)
  else (s.dropDose).engineTrip.abortRegen

/-- The notices of a trip reach the queue in any order (R170; DESIGN CHOICE, log 8). -/
def State.postTripNotices (s : State) (ns : List Notice) : State :=
  if ns.length ≤ 1 then s.postAll ns
  else (s.draw).postAll (freelyOrdered (Config.tripNoticeOrder s.draws) ns)

/-- A lost role counts now: RUN with a cycle under way, or SERVICE with any load granted (R168). -/
def State.lossCounts (s : State) : Bool :=
  (decide (s.link.mode = .run) && s.underWay) || (decide (s.link.mode = .service) && !s.noGrant)

/-- A cause taken while the latch is clear sets it (R170): the record, the other blocks, the arbiter's own request of
DRAIN_PUMP for FLOOD (R154), and the notices. The evaluation at the end of the event withdraws every grant (R153). -/
def State.setLatch (s : State) (c : Cause) : State :=
  let ns := s.tripNotices c
  let s :=
    { s with
      trip.latch := true
      trip.record := s.recordOf c
      trip.tableMark := s.trip.tableMark || decide (c.reason = TripReason.table)
      trip.lostRole := c.lost
      trip.lossOpen := decide (c.reason = TripReason.sensorLost) && s.lossCounts }
  let s := s.tripBlocks
  let s := if c.reason = .flood then { s with arb.flood := true } else s
  (s.postTripNotices ns).markEval

/-- Whether a later cause fills an empty secondary reason: another reason, or SENSOR_LOST of the other role (R171). -/
def State.fillsSecondary (s : State) (c : Cause) : Bool :=
  decide (s.trip.record.secondary = .none) &&
    (decide (c.reason ≠ s.trip.record.reason) ||
      (decide (c.reason = .sensorLost) && decide (c.lost ≠ s.trip.lostRole)))

/-- A report of INLET_FLOW restarts the flow-quiet timer in every part mode (R169, R171). The timer belongs to a set
latch: in STANDBY with the latch clear, where the report is no cause, there is none to restart (DEDUCED, log 53). -/
def State.restartQuiet (s : State) (c : Cause) : State :=
  if c.reason = .inletFlow ∧ (s.trip.latch = true ∨ s.link.mode ≠ .standby) then { s with trip.flowQuiet := some 0 } else s

/-- A cause reaches the trip unit: none is judged in STANDBY (R166), else it sets the latch (R170) or meets a set latch
(R171). INLET_FLOW restarts the flow-quiet timer in every case (R169, R171). -/
def State.tripCause (s : State) (c : Cause) : State :=
  let s := s.restartQuiet c
  if s.link.mode = .standby then s
  else
    if s.trip.latch then
      (if s.fillsSecondary c then { s with trip.record := { s.trip.record with secondary := c.reason } } else s)
    else s.setLatch c

/-! ## Judging (09 9.2) -/

/-- OVERTEMP at a TUB_TEMP hand-off (R167). -/
def State.judgeOvertemp (s : State) : State :=
  if s.link.mode = .standby then s
  else
    let s := s.useProfile .machine
    if (s.machine.tripTemp : Int) ≤ s.roleValue .tubTemp then s.tripCause s.overtempCause else s

/-- FLOOD at a TUB_LEVEL hand-off (R167). -/
def State.judgeOverfill (s : State) : State :=
  if s.link.mode = .standby then s
  else
    let s := s.useProfile .machine
    if (s.machine.overfill : Int) ≤ s.roleValue .tubLevel then s.tripCause s.floodLevelCause else s

/-- The trip unit is told of a change of LEAK (R167). -/
def State.leakChange (s : State) (asserted : Bool) : State :=
  let s := { s with trip.leakTold := asserted }
  if asserted then s.tripCause s.leakCause else s

/-- LEAK, as last told, judged at a change from STANDBY into SERVICE or RUN (R167). -/
def State.judgeLeak (s : State) : State := if s.trip.leakTold then s.tripCause s.leakCause else s

/-- An event in which roles may be lost begins: no loss of it has set the latch yet (R168; DEDUCED, log 51). -/
def State.beginLosses (s : State) : State := { s with trip.lossOpen := false }

/-- SENSOR_LOST of a role whose freshness has changed: a loss counts now, or counted when the latch was set in this same
event, so that of two roles lost together the second fills the secondary reason (R168, R171; DEDUCED, log 51). -/
def State.judgeLoss (s : State) (r : Role) (source : Option Nat) (value : Int) : State :=
  if s.lossCounts || s.trip.lossOpen then s.tripCause (lostCause r source value) else s

/-- A role that is STALE or FAULTED trips where a cycle comes under way or the first load is granted in SERVICE
(R168). -/
def State.judgeRoleNow (s : State) (r : Role) : State :=
  if s.roleFreshness r = .stale ∨ s.roleFreshness r = .faulted then
    s.tripCause (lostCause r (s.roleSource r) (s.heldValue r))
  else s

/-- SENSOR_LOST judged on the freshness as it stands, TUB_TEMP first (R168; DESIGN CHOICE, log 59). -/
def State.judgeSensorsNow (s : State) : State := (s.judgeRoleNow .tubTemp).judgeRoleNow .tubLevel

/-- The arbiter renews the FLOOD request at a change into SERVICE or RUN (R171). -/
def State.renewFlood (s : State) : State :=
  if s.trip.latch && decide (s.trip.record.reason = .flood) && !s.arb.flood then
    State.markEval { s with arb.flood := true }
  else s

/-! ## Clearing (09 9.4) -/

/-- The condition of a first reason, on the state as it stands (R173); 10.0 s of the flow-quiet timer. -/
def State.condition (s : State) : TripReason → Bool
  | .none => false
  | .overtemp => !s.fresh .tubTemp || decide ((s.machine.tripTemp : Int) ≤ s.roleValue .tubTemp)
  | .flood =>
    !s.fresh .tubLevel || decide ((s.machine.overfill : Int) ≤ s.roleValue .tubLevel) || s.asserted .leak
      || ((s.bound .leak).isSome && !s.fresh .leak)
  | .sensorLost =>
    match s.trip.lostRole with
    | some r => !s.fresh r
    | none => false
  | .inletFlow =>
    !s.fresh .flow ||
      (match s.trip.flowQuiet with
       | some t => decide (t < 10 * Config.second)
       | none => false)
  | .drainFail => false
  | .table => s.trip.tableMark

/-- The condition of the record's first reason, after the machine profile that it may use has been checked (R174). -/
def State.causePresent (s : State) : Bool :=
  s.trip.latch && (s.useProfile .machine).condition s.trip.record.reason

/-- A reason whose condition uses the machine profile (R173). -/
def TripReason.usesMachine (r : TripReason) : Bool := decide (r = .overtemp ∨ r = .flood)

/-- The integrity latch is cleared (R174). -/
def State.clearIntegrity (s : State) : State := { s with trip.integrity := none, trip.more := false }

/-- TRIP_CLEAR with the cause gone (R173). -/
def State.tripClear (s : State) : State :=
  let s := s.clearIntegrity
  if s.trip.latch then
    let s :=
      { s with
        trip.latch := false
        trip.record := .empty
        trip.flowQuiet := none
        trip.tableMark := false
        trip.lostRole := none
        eng.state := .idle
        eng.queue := []
        arb.flood := false
        soft.stray := 0 }
    s.autoCheck.markEval
  else s

/-- The drain timeout: DRAIN_FAIL unless the level is FRESH at or below the drain end level (R74, R169). -/
def State.drainTimeoutJudge (s : State) (d : DrainFields) : State :=
  if s.fresh .tubLevel && decide (s.roleValue .tubLevel ≤ d.endLevel) then s else s.tripCause s.drainFailCause

end Sys2Proof.Machine
end

