-- ==== Sys2Proof/Machine/Arbiter.lean ====
section
/-! DEFINITION. The load arbiter (08): interlocks, the four passes of an evaluation, and the mains watch. -/

namespace Sys2Proof.Machine

/-! ## Grants -/

/-- Sets the grant of a load. -/
def State.setGrant (s : State) (l : LoadId) (g : Option Step) : State :=
  s.setLoad l { s.load l with grant := g }

/-- The load's grant as it stands. -/
def State.isGranted (s : State) (l : LoadId) : Bool := (s.load l).grant.isSome

/-- The ACTIVE entry is enabled and sound (R149). -/
def State.available (s : State) (l : LoadId) : Bool := (s.loadEntry l).contents.enabled && (s.loadEntry l).sound

/-- The priority of the ACTIVE entry. -/
def State.priority (s : State) (l : LoadId) : Nat := (s.loadEntry l).contents.priority

/-- A load is withdrawn; HEATER follows CIRC_PUMP (R152). -/
def State.withdraw (s : State) (l : LoadId) : State :=
  if l = .circPump then (s.setGrant .circPump none).setGrant .heater none else s.setGrant l none

/-! ## Interlocks (08 8.4) -/

/-- INLET_VALVE is granted with the path's route TUB (R151). -/
def State.inletOnTub (s : State) : Bool := s.isGranted .inletValve && decide (s.soft.route = .tub)

/-- The interlock of every load: mains PRESENT and the latch clear, but for DRAIN_PUMP under FLOOD (R151, R154). -/
def State.commonInterlock (s : State) (l : LoadId) : Bool :=
  decide (s.arb.zc.presence = .present) && (!s.trip.latch || (decide (l = .drainPump) && s.arb.flood))

/-- The heater's further interlock (R151). -/
def State.heaterInterlock (s : State) : Bool :=
  s.isGranted .circPump && s.fresh .tubLevel && decide ((s.machine.heaterSafe : Int) ≤ s.roleValue .tubLevel)

/-- The inlet valve's further interlock (R151). -/
def State.inletInterlock (s : State) : Bool :=
  decide (s.soft.holder ≠ .none) && decide (s.soft.progress = .set) &&
    (decide (s.soft.route ≠ .tub) || (decide (s.door.state = .latched) && !s.isGranted .drainPump))

/-- The interlocks of R151. -/
def State.interlock (s : State) (l : LoadId) : Bool :=
  s.commonInterlock l &&
    match l with
    | .heater => s.heaterInterlock
    | .inletValve => s.inletInterlock
    | .drainPump => s.arb.flood || !s.inletOnTub
    | _ => true

/-! ## Passes (08 8.5) -/

/-- Pass 1 for one load: a granted load that is not available or whose interlock fails is withdrawn (R155). -/
def State.recheck (s : State) (l : LoadId) : State :=
  if s.isGranted l && !(s.available l && s.interlock l) then s.withdraw l else s

/-- Pass 1, HEATER after the loads it depends on (R152, R155). -/
def State.passOne (s : State) : State :=
  State.recheck ((allLoads.drop 1).foldl State.recheck s) .heater

/-- Of two loads the one that a cut takes first: the numerically higher priority, then the higher id (R156, R158). -/
def State.worse (s : State) (best : Option LoadId) (l : LoadId) : Option LoadId :=
  match best with
  | none => some l
  | some b => if s.priority b ≤ s.priority l then some l else some b

/-- The first load that a cut takes among those given in ascending order of id. -/
def State.worst (s : State) (ls : List LoadId) : Option LoadId := ls.foldl s.worse none

/-- The budget cut, one load at a time; it takes at most eleven (R156). -/
def State.budgetCut : Nat → State → State
  | 0, s => s
  | n + 1, s =>
    if s.arb.budget < s.totalWatts then
      match s.worst (allLoads.filter s.isGranted) with
      | none => s
      | some l => State.budgetCut n (s.withdraw l)
    else s

/-- The free room B - G (R157). -/
def State.room (s : State) : Nat := s.arb.budget - s.totalWatts

/-- The loads that a candidate may preempt: granted, sheddable, and of strictly higher priority number; CIRC_PUMP is
spared for HEATER, whose interlock it is (R158; DESIGN CHOICE, log 11). -/
def State.victims (s : State) (cand : LoadId) : List LoadId :=
  allLoads.filter (fun l =>
    s.isGranted l && (s.loadEntry l).contents.sheddable && decide (s.priority cand < s.priority l)
      && !(decide (cand = .heater) && decide (l = .circPump)))

/-- Withdraws victims, with LOAD_SHED for each, until the room reaches the watts needed (R158). A HEATER that falls with
CIRC_PUMP is none of them and has no LOAD_SHED (DESIGN CHOICE, log 58). -/
def State.shed (cand : LoadId) (need : Nat) : Nat → State → State
  | 0, s => s
  | n + 1, s =>
    if need ≤ s.room then s
    else
      match s.worst (s.victims cand) with
      | none => s
      | some l =>
        State.shed cand need n
          ((s.withdraw l).post .loadShed 6 (loadIndex l).val ((loadIndex cand).val : Int))

/-- Whether preemption can make room: the room and the watts of all victims (R158). -/
def State.canShed (s : State) (cand : LoadId) (need : Nat) : Bool :=
  decide (need ≤ s.room + ((s.victims cand).map s.watts).foldl (· + ·) 0)

/-- Preemption: the state after the withdrawals, where they make the room needed (R158). -/
def State.preempt (s : State) (cand : LoadId) (need : Nat) : Option State :=
  if s.canShed cand need then
    let t := State.shed cand need 11 s
    if need ≤ t.room then some t else none
  else none

/-- Grants a load at a step. -/
def State.give (s : State) (l : LoadId) (step : Step) : State := s.setGrant l (some step)

/-- A candidate is requested, not granted, and available (R157). -/
def State.candidate (s : State) (l : LoadId) : Bool := s.requested l && !s.isGranted l && s.available l

/-- The cases of R157, the first that applies. -/
def State.place (s : State) (l : LoadId) : State :=
  let rated := (s.loadEntry l).contents.rated
  let half := (s.loadEntry l).contents.half
  if rated ≤ s.room then s.give l .full
  else if l = .heater ∧ half ≤ s.room then s.give l .half
  else
    match s.preempt l rated, (if l = .heater then s.preempt l half else none) with
    | some t, _ => t.give l .full
    | none, some t => t.give l .half
    | none, none => s

/-- The turn of a load in the grant pass: its interlock is judged on the grants as they stand (R157). -/
def State.turn (s : State) (l : LoadId) : State :=
  if s.candidate l && s.interlock l then s.place l else s

/-- Inserts a load into an ascending order of priority, after those of the same priority (R157). -/
def State.insertByPriority (s : State) (l : LoadId) : List LoadId → List LoadId
  | [] => [l]
  | x :: rest => if s.priority l < s.priority x then l :: x :: rest else x :: s.insertByPriority l rest

/-- The places of the grant pass: ascending priority, then ascending id (R157). -/
def State.places (s : State) : List LoadId := allLoads.foldl (fun acc l => s.insertByPriority l acc) []

/-- The grant pass over the places left. HEATER without a granted CIRC_PUMP waits for CIRC_PUMP's place when that comes
later (R157; DEDUCED, log 26). Each load has one turn in a pass, also one that is preempted by a HEATER which waited so, when
its own place is past (R158; DESIGN CHOICE, log 66). DRAIN_PUMP or INLET_VALVE whose place is past when a later preemption
withdraws the other, so that its interlock holds only then, waits for the next evaluation (R152, R157; DESIGN CHOICE,
log 77). -/
def State.walk (deferred : Bool) : List LoadId → State → State
  | [], s => s
  | l :: rest, s =>
    match l with
    | .heater =>
      if !s.isGranted .circPump && rest.contains .circPump then State.walk true rest s
      else State.walk deferred rest (s.turn .heater)
    | .circPump =>
      let s := s.turn .circPump
      State.walk false rest (if deferred then s.turn .heater else s)
    | l => State.walk deferred rest (s.turn l)

/-- Pass 3: the arbiter's own DRAIN_PUMP request goes first (R154, R157). -/
def State.grantPass (s : State) : State :=
  let s := if s.arb.flood then s.turn .drainPump else s
  State.walk false s.places s

/-- Pass 4: a HEATER at HALF goes to FULL where the difference fits (R159). -/
def State.upgrade (s : State) : State :=
  let e := (s.loadEntry .heater).contents
  if (s.load .heater).grant = some .half ∧ e.rated + s.totalWatts ≤ s.arb.budget + e.half then s.give .heater .full
  else s

/-- The wait cause of a requested load that is not granted (R149); a load that does not wait carries none, which the
model holds as UNAVAILABLE. -/
def State.causeOf (s : State) (l : LoadId) : WaitCause :=
  if !s.requested l || s.isGranted l then .unavailable
  else if !s.available l then .unavailable
  else if !s.interlock l then .interlock
  else .budget

/-- Each load takes its wait cause (R155). -/
def State.setCauses (s : State) : State :=
  allLoads.foldl (fun t l => t.setLoad l { t.load l with cause := s.causeOf l }) s

/-- The grant of a load that is no longer requested ends with the release (R148). -/
def State.dropReleased (s : State) : State :=
  allLoads.foldl (fun t l => if s.requested l then t else t.setGrant l none) s

/-- The parity check of the entries of the requested loads (R174), in ascending order of id: of several damaged entries
the least id is the error that the latch records (DESIGN CHOICE, log 78). In STANDBY no load is requested,
so none is checked there (R169; DESIGN CHOICE, log 67). -/
def State.checkEntries (s : State) : State :=
  allLoads.foldl
    (fun t l =>
      if t.requested l && !(t.loadEntry l).sound then t.integrityError .load (some .active) (loadIndex l).val else t) s

/-- The heater-safe level is used where HEATER is requested, also where another condition of its interlock fails already
(R151, R174; DESIGN CHOICE, log 80). -/
def State.checkHeater (s : State) : State := if s.requested .heater then s.useProfile .machine else s

/-- An evaluation over requests whose released grants have been dropped (R155). Of the errors that it finds, that of the
machine profile comes before those of the load entries (R174; DESIGN CHOICE, log 78). -/
def State.passes (s : State) : State :=
  let s := s.checkHeater.checkEntries
  let s := (State.budgetCut 11 s.passOne).grantPass.upgrade.setCauses
  { s with arb.evalDue := false }

/-- The loads whose grant an evaluation has changed, in ascending order of id (R149; DESIGN CHOICE, log 34). -/
def State.changedSince (s before : State) : List LoadId :=
  allLoads.filter (fun l => decide ((s.load l).grant ≠ (before.load l).grant))

/-! ## Mains presence (08 8.7) -/

/-- Mains is lost (R163): every grant falls, MAINS_LOST carries the G that stood, and the reports wait for the owners
and for the engine, the softener and the link port. -/
def State.mainsLost (s : State) : State :=
  let g := s.totalWatts
  let lost := allLoads.filter s.isGranted
  let s := allLoads.foldl (fun t l => t.setGrant l none) s
  let s :=
    { s with
      arb.zc := { s.arb.zc with presence := .absent, run := 0, lostAt := some s.now }
      arb.reports := s.arb.reports ++ lost.filter (fun l => !s.arb.reports.contains l)
      arb.mainsReports :=
        { s.arb.mainsReports with lossEngine := true, lossSoftener := true, lossSnapshot := true } }
  (s.post .mainsLost 1 0 g).markEval

/-- The time from the loss to the return in 0.1 s (R164). -/
def State.outage (s : State) : Nat :=
  match s.arb.zc.lostAt with
  | some t => min 2147483647 ((s.now - t) / Config.tenth)
  | none => 0

/-- Mains is present after a run of 2.0 s (R162), which from ABSENT is its return (R164). -/
def State.mainsPresent (s : State) : State :=
  let was := s.arb.zc.presence
  let s := { s with arb.zc := { s.arb.zc with presence := .present, misses := 0, run := 0 } }
  let s :=
    if was = .absent then
      State.post
        { s with arb.mainsReports := { s.arb.mainsReports with backEngine := true, backSoftener := true } }
        .mainsBack 4 0 s.outage
    else s
  s.markEval

/-- An accepted crossing. One at exactly 12.0 ms is regular and adds its interval, also after the miss of that instant has
set the run to 0 (R162; DESIGN CHOICE, log 65). -/
def State.acceptCrossing (s : State) (gap : Option Nat) : State :=
  let z := s.arb.zc
  match z.presence with
  | .present => { s with arb.zc := { z with last := some s.now, misses := 0, phase := !z.phase } }
  | _ =>
    let run :=
      match gap with
      | some g => if g ≤ 12 * Config.msec then z.run + g else 0
      | none => 0
    let s := { s with arb.zc := { z with last := some s.now, run := run, phase := !z.phase } }
    if 2 * Config.second ≤ run then s.mainsPresent else s

/-- A pulse on ZXIN: noise within 7.0 ms of the last crossing, else an accepted crossing (R162). -/
def State.zeroCross (s : State) : State :=
  match s.arb.zc.last with
  | none => s.acceptCrossing none
  | some t => if s.now - t < 7 * Config.msec then s else s.acceptCrossing (some (s.now - t))

/-- An expected crossing is missed: in PRESENT the count rises, and at 3 mains is lost; in UNKNOWN and ABSENT the run
returns to 0 (R162). -/
def State.missCrossing (s : State) : State :=
  let z := s.arb.zc
  match z.presence with
  | .present =>
    if 3 ≤ z.misses + 1 then State.mainsLost { s with arb.zc := { z with misses := z.misses + 1 } }
    else { s with arb.zc := { z with misses := z.misses + 1 } }
  | _ => { s with arb.zc := { z with run := 0 } }

end Sys2Proof.Machine
end

