-- ==== Sys2Proof/Machine/Settle.lean ====
section
/-! DEFINITION. The end of an event: the arbiter's evaluation, the trips it finds, and its reports to the owners, whose
answers are judged by a further evaluation within the same event (R148, R149, R168, R169). -/

namespace Sys2Proof.Machine

/-- TABLE for a requested DRAIN_PUMP or INLET_VALVE whose ACTIVE entry fails its check (R169, R175). -/
def State.tableTrip (s : State) (l : LoadId) : State :=
  if s.requested l && !(s.loadEntry l).sound then s.tripCause (tableCause (loadIndex l).val) else s

/-- SENSOR_LOST where the arbiter has granted a load in SERVICE while no load was granted (R168). -/
def State.firstGrant (s before : State) : State :=
  if s.link.mode = .service ∧ before.noGrant = true ∧ s.noGrant = false then s.judgeSensorsNow else s

/-- The owner of a load takes a report, as the grant stands (R149). The engine takes that of HEATER, CIRC_PUMP and
DRAIN_PUMP, and the door unit that of FAN, without an answer: their timers read the grant (R65, R75, R142). -/
def State.ownerReport (s : State) (l : LoadId) : State :=
  match l with
  | .inletValve => (s.softenerReport .inletValve).engineInlet
  | .routeValve => s.softenerReport .routeValve
  | .selectorValve => s.softenerReport .selectorValve
  | .brineValve => s.softenerReport .brineValve
  | .doseDet => s.dosingReport .det
  | .doseRinse => s.dosingReport .rinse
  | .doorActuator => s.actuatorReport
  | _ => s

/-- One evaluation of the event with what follows from it: trips, and the reports to the owners (R148). Of several causes
found by one evaluation DRAIN_PUMP's comes first, then INLET_VALVE's, then SENSOR_LOST (R168, R169; DESIGN CHOICE, log 60). -/
def State.round (s : State) : State :=
  let before := s.dropReleased
  let after := before.passes
  let reports := after.changedSince before
  let s := ((after.tableTrip .drainPump).tableTrip .inletValve).firstGrant before
  reports.foldl State.ownerReport s

/-- The last evaluation of an event whose owners still answer after eight: its reports wait as events of their own
(log 10). -/
def State.lastRound (s : State) : State :=
  let before := s.dropReleased
  let after := before.passes
  { after with
    arb.reports :=
      after.arb.reports ++ (after.changedSince before).filter (fun l => !after.arb.reports.contains l) }

/-- Evaluations until the event calls for none. -/
def State.settleFor : Nat → State → State
  | 0, s => if s.arb.evalDue then s.lastRound else s
  | n + 1, s => if s.arb.evalDue then State.settleFor n s.round else s

/-- The end of an event (R148). -/
def State.settle (s : State) : State := State.settleFor 8 s

end Sys2Proof.Machine
end

