-- ==== Sys2Proof/Machine/Samples.lean ====
section
/-! DEFINITION. The channel unit (01): a sample and a miss as a channel takes them, the sample stores, and the hand-off
to the consumers of a role. -/

namespace Sys2Proof.Machine

/-- Changes the runtime state of a channel. -/
def State.withRun (s : State) (i : Fin 32) (f : ChannelRun → ChannelRun) : State :=
  { s with chan.run := upd s.chan.run i (f s.chan.run[i]) }

/-! ## The sample store (01 1.9) -/

/-- A sample into the single place of LATEST (R20). -/
def SampleStore.putLatest (t : SampleStore) (x : Sample) : SampleStore :=
  { t with place := some x, unreadMark := true }

/-- A sample into the write half of PAIRED; the halves then exchange (R20). -/
def SampleStore.putPaired (t : SampleStore) (x : Sample) : SampleStore :=
  { t with place := some x, writeHalf := t.place, unreadMark := true }

/-- A sample that advances a ring of n places (R21). -/
def SampleStore.advance (t : SampleStore) (n : Nat) (x : Sample) : SampleStore :=
  if t.ring.length < n then
    { t with ring := t.ring ++ [x], writePos := (t.writePos + 1) % n, waiting := none }
  else
    { t with
      ring := t.ring.drop 1 ++ [x]
      writePos := (t.writePos + 1) % n
      readPos := (t.readPos + 1) % n
      overrun := true
      waiting := none }

/-- A faulty sample that waits at the write position, unless the ring is full (R21). -/
def SampleStore.wait (t : SampleStore) (n : Nat) (x : Sample) : SampleStore :=
  if t.ring.length < n then { t with waiting := some x } else t

/-- The ring notice of a write that advances: RING_HALF or RING_WRAP (R21). -/
def ringNotice (n writePos : Nat) : Option NoticeKind :=
  if writePos + 1 = n / 2 then some .ringHalf
  else if writePos + 1 = n then some .ringWrap
  else none

/-- A sample is stored in a ring channel, with its notice (R21). -/
def State.storeRing (s : State) (i : Fin 32) (n : Nat) (moves : Bool) (x : Sample) : State :=
  let t := s.chan.run[i].store
  if moves then
    let t' := t.advance n x
    let s := s.withRun i (fun r => { r with store := t' })
    match ringNotice n t.writePos with
    | some kind => s.post kind 6 i.val t'.ring.length
    | none => s
  else s.withRun i (fun r => { r with store := t.wait n x })

/-- A sample is stored by the store mode of its entry (R10, R13, R20, R21). -/
def State.storeSample (s : State) (i : Fin 32) (e : ChannelEntry) (isValid : Bool) (flags : Byte) : State :=
  let x : Sample := { value := s.chan.run[i].converted, flags := flags, tag := s.link.timeTag }
  let taken := isValid || !e.advanceValid
  match e.store with
  | .none => s
  | .latest => if taken then s.withRun i (fun r => { r with store := r.store.putLatest x }) else s
  | .paired => if taken then s.withRun i (fun r => { r with store := r.store.putPaired x }) else s
  | .ring16 => s.storeRing i 16 taken x
  | .ring64 => s.storeRing i 64 taken x

/-! ## Consumers (R17, R18) -/

/-- A block is told of a change of a switch's assertion (R17). -/
def State.tellSwitch (s : State) (r : Role) : State :=
  let a := s.asserted r
  match r with
  | .leak => if a = s.trip.leakTold then s else s.leakChange a
  | .saltLow => { s with soft.saltLow := a }
  | .detLow => if a = s.dosing.det.lowTold then s else s.lowTold .det a
  | .rinseLow => if a = s.dosing.rinse.lowTold then s else s.lowTold .rinse a
  | _ => s

/-- SENSOR_LOST is judged at a change: from FRESH to anything else, and where misses have made a role STALE that had no
data yet (R168; DEDUCED, log 15). -/
def State.lossJudged (s : State) (r : Role) (before : Freshness) : Bool :=
  decide (before = .fresh) || (decide (before = .noData) && decide (s.roleFreshness r = .stale))

/-- The consumers are told that a role is no longer FRESH, or has become FAULTED or STALE (R15, R18, R168). -/
def State.tellLost (s : State) (r : Role) (before : Freshness) (source : Option Nat) (value : Int) : State :=
  match r with
  | .tubTemp =>
    let s := if before = .fresh then s.engineTempLost else s
    if s.lossJudged r before then s.judgeLoss r source value else s
  | .tubLevel =>
    let s := s.markEval
    if s.lossJudged r before then s.judgeLoss r source value else s
  | r => s.tellSwitch r

/-- A FLOW hand-off: what the accounting leaves goes to the engine as a volume report, or to the trip unit as excess
flow (R58, R98). -/
def State.flowHand (s : State) (total : Nat) (before : Freshness) : State :=
  let r := s.flowHandoff total before
  match r.2 with
  | .nothing => r.1
  | .volume v => r.1.engineVolume v
  | .stray v => r.1.tripCause (r.1.inletFlowCause v)

/-- The hand-off of a valid sample as an update of the exit test's subject. A hand-off that itself begins HOLD is none
(R70; DESIGN CHOICE, log 36): `holding` says that the head was in HOLD when the hand-off arrived. -/
def State.updateIf (s : State) (holding : Bool) (r : Role) : State := if holding then s.roleUpdate r else s

/-- The hand-off of a valid sample to the consumers of its role, in the order of the table of R18; a change of a switch's
assertion is told before the exit test whose subject it is (DESIGN CHOICE, log 7). -/
def State.handOff (s : State) (r : Role) (total : Nat) (before : Freshness) : State :=
  let holding := s.runningIn .hold
  match r with
  | .tubTemp => (s.engineTemp.updateIf holding r).judgeOvertemp
  | .tubLevel => (s.engineLevel.updateIf holding r).markEval.judgeOverfill
  | .flow => s.flowHand total before
  | .general => s
  | r => (s.tellSwitch r).updateIf holding r

/-! ## A sample and a miss (01 1.4, 1.5) -/

/-- A channel entry that fails its parity check: the channel is FAULTED with its values held (R15, R175). -/
def State.faultChannel (s : State) (i : Fin 32) : State :=
  let before := s.chan.run[i].freshness
  let role := s.chan.active[i].contents.role
  let s := s.integrityError .channel (some .active) i.val
  let s := s.withRun i (fun r => { r with freshness := .faulted })
  s.tellLost role before (some i.val) s.chan.run[i].filtered

/-- A miss of a channel whose entry is sound (R14). -/
def State.countMiss (s : State) (i : Fin 32) : State :=
  let e := s.chan.active[i].contents
  let r := s.chan.run[i]
  let misses := min 15 (r.misses + 1)
  if decide (r.freshness = .fresh ∨ r.freshness = .noData) && decide (e.staleLimit ≤ misses) then
    let s := s.withRun i (fun r => { r with misses := misses, freshness := .stale })
    (s.post .channelStale 3 i.val misses).tellLost e.role r.freshness (some i.val) r.filtered
  else s.withRun i (fun r => { r with misses := misses })

/-- The enabled ACTIVE entry of a satellite channel whose channel is not FAULTED (R6, R14). -/
def State.channelOf (s : State) (sat ch : Nat) : Option (Fin 32) :=
  match (List.finRange 32).find? (fun i =>
      s.chan.active[i].contents.enabled && decide (s.chan.active[i].contents.satellite = sat)
        && decide (s.chan.active[i].contents.satChannel = ch)) with
  | some i => if s.chan.run[i].freshness = .faulted then none else some i
  | none => none

/-- A miss reaches a satellite channel (R14, R15). -/
def State.miss (s : State) (sat ch : Nat) : State :=
  match s.channelOf sat ch with
  | none => s
  | some i => if s.chan.active[i].sound then s.countMiss i else s.faultChannel i

/-- The conversion of a raw value (R7): the curve's value, the raw value itself, or the value held where the curve has
an integrity error. -/
def State.convert (s : State) (i : Fin 32) (e : ChannelEntry) (raw : Int) : State × Int :=
  match e.curve with
  | none => (s, raw)
  | some c =>
    match curveIndex c with
    | none => (s, raw)
    | some c =>
      if s.chan.curves[c].sound then (s, evalPoints s.chan.curves[c].contents.points raw)
      else (s.integrityError .curve (some .active) c.val, s.chan.run[i].converted)

/-- The filter (R8). -/
def filterStep (before : Freshness) (old converted : Int) (k : Nat) : Int :=
  if before = .noData ∨ before = .stale then converted else old + shiftToZero (converted - old) k

/-- The limit compare of an entry (R9); that of FLOW is made on unsigned numbers (R12). -/
def limitHolds (e : ChannelEntry) (filtered : Int) : Bool :=
  if e.role = .flow then e.cond.holds filtered (e.limit % 65536) else e.cond.holds filtered e.limit

/-- The limit state, with CHANNEL_LIMIT where it becomes ACTIVE (R9). -/
def State.judgeLimit (s : State) (i : Fin 32) (e : ChannelEntry) : State :=
  let r := s.chan.run[i]
  let hit := limitHolds e r.filtered
  let s := s.withRun i (fun r => { r with limitActive := hit })
  if hit && !r.limitActive then s.post .channelLimit e.level i.val r.filtered else s

/-- The values of a valid sample (R7, R8, R12); freshness FRESH and no misses (R9). -/
def State.takeValues (s : State) (i : Fin 32) (e : ChannelEntry) (value : Nat) : State :=
  if e.role = .flow then
    s.withRun i (fun r =>
      { r with raw := value, converted := value, filtered := value, freshness := .fresh, misses := 0 })
  else
    let raw : Int := clampInt 0 4095 value
    let c := s.convert i e raw
    c.1.withRun i (fun r =>
      { r with
        raw := raw
        converted := c.2
        filtered := filterStep r.freshness r.filtered c.2 e.shift
        freshness := .fresh
        misses := 0 })

/-- A valid sample of a sound entry (R7 to R12). -/
def State.validSample (s : State) (i : Fin 32) (flags : Byte) (value : Nat) : State :=
  let e := s.chan.active[i].contents
  let before := s.chan.run[i].freshness
  let s := ((s.takeValues i e value).judgeLimit i e).storeSample i e true flags
  s.handOff e.role value before

/-- A faulty sample of a sound entry: one miss, and the store where the entry lets it in (R13; DESIGN CHOICE, log 25). -/
def State.faultySample (s : State) (i : Fin 32) (flags : Byte) : State :=
  let e := s.chan.active[i].contents
  (s.countMiss i).storeSample i e false flags

/-- A sample is valid when VALID (bit 0) is set and FAULT (bit 1) is clear (R6). -/
def validFlags (flags : Byte) : Bool := flags.getLsbD 0 && !flags.getLsbD 1

/-- A sample of a satellite channel (R6, R15). -/
def State.sample (s : State) (sat ch : Nat) (flags : Byte) (value : Nat) : State :=
  match s.channelOf sat ch with
  | none => s
  | some i =>
    if !s.chan.active[i].sound then s.faultChannel i
    else if validFlags flags then s.validSample i flags value
    else s.faultySample i flags

end Sys2Proof.Machine
end

