-- ==== Sys2Proof/Machine/Channels.lean ====
section
/-! DEFINITION. Bank swaps (01 1.3, 08 8.1, 11 11.3): the validation of the governing banks, and what a swap does. -/

namespace Sys2Proof.Machine

/-- The tables that a BANK_SWAP names (R195). -/
structure SwapMask where
  channels : Bool
  curves : Bool
  loads : Bool
  deriving DecidableEq, Repr

/-! ## Validation (R4, R147) -/

/-- The channel bank that will govern (R4). -/
def State.governingChannels (s : State) (m : SwapMask) : Vector (Stored ChannelEntry) 32 :=
  if m.channels then s.chan.shadow else s.chan.active

/-- The curve bank that will govern (R4). -/
def State.governingCurves (s : State) (m : SwapMask) : Vector (Stored Curve) 8 :=
  if m.curves then s.chan.curvesShadow else s.chan.curves

/-- The store sizes of the enabled entries up to and including an index (R4). -/
def storeTotal (v : Vector (Stored ChannelEntry) 32) (i : Fin 32) : Nat :=
  (((List.finRange 32).filter (fun j => decide (j.val ≤ i.val) && v[j].contents.enabled)).map
    (fun j => storeSize v[j].contents.store)).foldl (· + ·) 0

/-- An enabled entry of a lower index has the same role, or the same satellite and satellite channel (R4). -/
def clashes (v : Vector (Stored ChannelEntry) 32) (i : Fin 32) : Bool :=
  let e := v[i].contents
  (List.finRange 32).any (fun j =>
    let f := v[j].contents
    decide (j.val < i.val) && f.enabled
      && ((decide (e.role ≠ .general) && decide (f.role = e.role))
        || (decide (f.satellite = e.satellite) && decide (f.satChannel = e.satChannel))))

/-- The curve that an entry names is valid in the governing bank (R4). -/
def curveGood (bank : Vector (Stored Curve) 8) (e : ChannelEntry) : Bool :=
  match e.curve with
  | none => true
  | some n =>
    match curveIndex n with
    | none => false
    | some i => bank[i].contents.valid

/-- The checks of R4 on one entry. -/
def entryFails (v : Vector (Stored ChannelEntry) 32) (c : Vector (Stored Curve) 8) (i : Fin 32) : Bool :=
  v[i].contents.enabled && (clashes v i || !curveGood c v[i].contents || decide (512 < storeTotal v i))

/-- The offending entry of a governing bank (R4). -/
def offending (v : Vector (Stored ChannelEntry) 32) (c : Vector (Stored Curve) 8) : Option (Fin 32) :=
  (List.finRange 32).find? (entryFails v c)

/-- A channel bank binds a role to an enabled entry. -/
def binds (v : Vector (Stored ChannelEntry) 32) (r : Role) : Bool :=
  (List.finRange 32).any (fun i => v[i].contents.enabled && decide (v[i].contents.role = r))

/-- A channel bank binds TUB_TEMP, TUB_LEVEL and FLOW to enabled entries (R4, R196). -/
def bindsForRun (v : Vector (Stored ChannelEntry) 32) : Bool := binds v .tubTemp && binds v .tubLevel && binds v .flow

/-- The first entry of a load bank that fails (R147). -/
def loadFailure (v : Vector (Stored LoadEntry) 11) : Option Nat :=
  let h := v[(0 : Fin 11)].contents
  if h.enabled && decide (h.rated ≤ h.half) then some 0
  else if !v[(2 : Fin 11)].contents.enabled then some 2
  else if !v[(3 : Fin 11)].contents.enabled then some 3
  else none

/-- What RUN asks of the ACTIVE tables (R188, R196). -/
def State.tablesReady (s : State) : Bool := bindsForRun s.chan.active && (loadFailure s.arb.active).isNone

/-! ## The swap (R5, R195) -/

/-- The curves as a swap copies them, their validity judged anew (R2). -/
def rejudge (v : Vector (Stored Curve) 8) : Vector (Stored Curve) 8 :=
  Vector.ofFn (fun i => { v[i] with contents := Curve.judge v[i].contents.points })

/-- A channel's runtime state is reset by a swap (R5). -/
def rebound (old new : ChannelEntry) (run : ChannelRun) : Bool :=
  (old.enabled && !new.enabled) || decide (old.satellite ≠ new.satellite) || decide (old.satChannel ≠ new.satChannel)
    || decide (old.role ≠ new.role) || decide (old.store ≠ new.store) || decide (run.freshness = .faulted)

/-- The channel table swaps: SHADOW becomes ACTIVE in both banks, and runtime state is reset where R5 says so. -/
def ChannelUnit.swapChannels (c : ChannelUnit) : ChannelUnit :=
  { c with
    active := c.shadow
    run := Vector.ofFn (fun i =>
      if rebound c.active[i].contents c.shadow[i].contents c.run[i] then .blank else c.run[i]) }

/-- The curve table swaps (R2, R5). -/
def ChannelUnit.swapCurves (c : ChannelUnit) : ChannelUnit :=
  { c with curves := rejudge c.curvesShadow, curvesShadow := rejudge c.curvesShadow }

/-- The integrity latch is cleared where it records a table in the mask (R174). -/
def State.swapIntegrity (s : State) (m : SwapMask) : State :=
  match s.trip.integrity with
  | none => s
  | some e =>
    let named :=
      match e.table with
      | .channel => m.channels
      | .curve => m.curves
      | .load => m.loads
      | .profile => false
    if named then s.clearIntegrity else s

/-- The consumers of a role are told of its change at a swap (R5, R17, R18, R168). -/
def State.tellSwap (old : State) (s : State) (r : Role) : State :=
  match r with
  | .leak => s.tellSwitch r
  | .saltLow => s.tellSwitch r
  | .detLow => s.tellSwitch r
  | .rinseLow => s.tellSwitch r
  | r =>
    let was := old.roleFreshness r
    if was ≠ s.roleFreshness r then
      s.tellLost r (if was = .fresh then .fresh else .stale) (s.roleSource r) (old.roleValue r)
    else s

/-- The tables of the mask swap in one event (R5, R147, R195). The changed roles are told in the order of their codes
(DESIGN CHOICE, log 38). -/
def State.swap (s : State) (m : SwapMask) : State :=
  let old := s
  let s := s.beginLosses
  let s := if m.curves then { s with chan := s.chan.swapCurves } else s
  let s := if m.channels then { s with chan := s.chan.swapChannels } else s
  let s :=
    if m.loads then
      State.markEval { s with arb := { s.arb with active := s.arb.shadow }, trip := { s.trip with tableMark := false } }
    else s
  let s := s.swapIntegrity m
  if m.channels then allRoles.foldl (State.tellSwap old) s else s

end Sys2Proof.Machine
end

