-- ==== Sys2Proof/Machine/Bus.lean ====
section
/-! DEFINITION. The sump bus controller (02): the poll list, one transaction at a time, and the satellite records. -/

namespace Sys2Proof.Machine

/-- Polling runs in SERVICE and RUN (02 2.6). -/
def State.polling (s : State) : Bool := decide (s.link.mode ≠ .standby)

/-- Changes the runtime state of a poll list entry. -/
def State.withPoll (s : State) (i : Fin 16) (f : PollRun → PollRun) : State :=
  { s with bus.run := upd s.bus.run i (f s.bus.run[i]) }

/-- The record of a satellite address 1 to 4. -/
def satIndex (n : Nat) : Option (Fin 4) := if h : 1 ≤ n ∧ n ≤ 4 then some ⟨n - 1, by omega⟩ else none

/-- Changes a satellite record. -/
def State.withSat (s : State) (n : Nat) (f : Satellite → Satellite) : State :=
  match satIndex n with
  | some i => { s with bus.sats := upd s.bus.sats i (f s.bus.sats[i]) }
  | none => s

/-- The record of an address; a blank one where the address is outside 1 to 4. -/
def State.sat (s : State) (n : Nat) : Satellite :=
  match satIndex n with
  | some i => s.bus.sats[i]
  | none => .blank

/-! ## Frames (02 2.1) -/

/-- The byte that makes the 8-bit sum 0 (R24). -/
def checkByte (l : List Byte) : Byte := -(sum8 l)

/-- The seven bytes of a poll (R24). -/
def pollFrame (satellite : Nat) (mask : Half) : List Byte :=
  let body := [BitVec.ofNat 8 satellite, 1, 2] ++ u16 mask.toNat
  0xC3 :: (body ++ [checkByte body])

/-- A sample group: satellite channel, flags, value (R26). -/
structure Group where
  ch : Nat
  flags : Byte
  value : Nat
  deriving DecidableEq, Repr

/-- The groups of a payload, four bytes each. -/
def groups : List Byte → List Group
  | c :: f :: hi :: lo :: rest => { ch := c.toNat, flags := f, value := be16 hi lo } :: groups rest
  | _ => []

/-- The accepted response that a frame after SYNC holds, by the five tests of R26. -/
def acceptedGroups (satellite : Nat) (frame : List Byte) : Option (List Group) :=
  match frame with
  | addr :: kind :: len :: n :: rest =>
    if len.toNat ≤ 65 ∧ rest.length = len.toNat ∧ sum8 frame = 0 ∧ addr.toNat = 128 + satellite ∧ kind = 2
        ∧ 1 ≤ n.toNat ∧ n.toNat ≤ 16 ∧ len.toNat = 1 + 4 * n.toNat then
      some (groups rest.dropLast)
    else none
  | _ => none

/-- The bytes after SYNC end reception: malformed by LEN after three bytes, or complete (R25). -/
def endsReception (frame : List Byte) : Bool :=
  match frame with
  | _ :: _ :: len :: rest =>
    if 65 < len.toNat then rest.isEmpty else decide (rest.length = len.toNat + 1)
  | _ => false

/-- One byte at the receiver of the sump bus (R25). -/
def sumpReceive : List Byte → Byte → List Byte × Option (List Byte) := assemble 0xC3 (fun l => endsReception l.tail)

/-- The frames that end within the bytes given to the receiver (R25). -/
def sumpFramesIn (heard : List Byte) : List Byte → List (List Byte)
  | [] => []
  | b :: rest => (sumpReceive heard b).2.toList ++ sumpFramesIn (sumpReceive heard b).1 rest

/-- The mask names a satellite channel. -/
def inMask (mask : Half) (ch : Nat) : Bool := decide (ch < 16) && mask.getLsbD ch

/-- The satellite channels that a mask names, ascending. -/
def maskChannels (mask : Half) : List Nat := (List.range 16).filter (fun c => mask.getLsbD c)

/-! ## Scheduling (02 2.3) -/

/-- The controller takes an entry and starts its first attempt (R31, R32). -/
def State.take (s : State) (i : Fin 16) : State :=
  let e := s.bus.poll[i]
  let s := s.withPoll i (fun r => { r with inDueSet := false, due := some (s.now + e.interval * Config.msec) })
  { s with
    bus.tx :=
      some
        { entry := i
          satellite := e.satellite
          mask := e.mask
          timeout := e.timeout
          retry := e.retry
          second := false
          belongs := true
          waiting := false
          timer := 0 }
    bus.sent := pollFrame e.satellite e.mask }

/-- A free bus takes the lowest index of the due set while polling runs (R31). -/
def State.takeIfFree (s : State) : State :=
  if s.polling && s.bus.tx.isNone then
    match (List.finRange 16).find? (fun i => s.bus.run[i].inDueSet) with
    | some i => s.take i
    | none => s
  else s

/-- An enabled entry whose due time arrives joins the due set (R30). -/
def State.pollDue (s : State) (i : Fin 16) : State :=
  if s.polling && s.bus.poll[i].enabled && s.bus.run[i].due.isSome then
    (s.withPoll i (fun r => { r with due := none, inDueSet := true })).takeIfFree
  else s

/-- Polling starts: every enabled entry is due at once (R29). -/
def State.pollingStart (s : State) : State :=
  State.takeIfFree
    { s with
      bus.run := Vector.ofFn (fun i =>
        { s.bus.run[i] with due := none, inDueSet := s.bus.poll[i].enabled }) }

/-- Polling stops: the due set is emptied, due times are dropped, and a transaction in flight no longer belongs
(R30, R37). -/
def State.pollingStop (s : State) : State :=
  { s with
    bus.run := Vector.ofFn (fun i => { s.bus.run[i] with due := none, inDueSet := false })
    bus.tx := s.bus.tx.map (fun t => { t with belongs := false }) }

/-! ## The receiver (02 2.1) -/

/-- A command that ends the attempt under way (R25, R32). -/
def endsAttempt : Instr → Bool
  | .sumpFrameEnd _ => true
  | .sumpResponseTimeout => true
  | _ => false

/-- The receiver listens: an attempt waits for its response, and no end of it waits to be taken (R25, R38). -/
def State.sumpListening (s : State) : Bool :=
  (match s.bus.tx with
   | some t => t.waiting
   | none => false) && !s.pending.any endsAttempt

/-- The receiver hunts again, and what it has heard is discarded (R25). -/
def State.clearHeard (s : State) : State := { s with bus.heard := [], bus.byteTimer := 0 }

/-- The next byte of a frame comes too late: the part heard so far is discarded, and a SUMP_BYTE_GAP that waits for it is
void (R25). -/
def State.dropSumpLate (s : State) : State :=
  if s.bus.heard.isEmpty || decide (s.bus.byteTimer ≤ sumpByteLimit) then s
  else
    { s with
      bus.heard := []
      pending := s.pending.filter (fun c => decide (c ≠ .sumpByteGap s.bus.heard)) }

/-- A satellite sends one byte: discarded while no attempt waits for a response, else taken by the receiver; the frame
that ends joins the queue as the end of the attempt (R25, R38; DESIGN CHOICE, log 49). -/
def State.hearSump (s : State) (b : Byte) : State :=
  if s.sumpListening then
    let s := s.dropSumpLate
    let r := sumpReceive s.bus.heard b
    { s with
      bus.heard := r.1
      bus.byteTimer := 0
      pending := s.pending ++ (r.2.map (fun f => Instr.sumpFrameEnd f.tail)).toList }
  else s

/-! ## One transaction (02 2.4, 2.5) -/

/-- The transaction ends with an outcome of its entry, and the bus is free (R31, R33, R35, R37). -/
def State.endTransaction (s : State) (t : Transaction) (o : PollOutcome) : State :=
  let s := s.withPoll t.entry (fun r => { r with outcome := o })
  State.takeIfFree { s with bus.tx := none }

/-- A satellite has answered; a partial response sets the failure count to 0 like any other (R33, R36; DEDUCED, log 39). -/
def State.satelliteAnswered (s : State) (t : Transaction) : State :=
  let was := (s.sat t.satellite).presence
  let s := s.withSat t.satellite (fun _ => { presence := .present, failures := 0 })
  if was = .absent then s.post .satelliteBack 4 t.satellite t.entry.val else s

/-- A transaction with a satellite has failed (R36). -/
def State.satelliteFailed (s : State) (t : Transaction) : State :=
  let was := s.sat t.satellite
  let failures := min 8 (was.failures + 1)
  if failures = 8 ∧ was.presence ≠ .absent then
    (s.withSat t.satellite (fun _ => { presence := .absent, failures := failures })).post .satelliteLost 2 t.satellite
      t.entry.val
  else s.withSat t.satellite (fun x => { x with failures := failures })

/-- The samples of a response, each taken whole before the next (R6; DESIGN CHOICE, log 27), with no swap between two of them
(R5; DESIGN CHOICE, log 74). -/
def State.deliver (s : State) (satellite : Nat) (gs : List Group) : State :=
  gs.foldl (fun s g => (s.sample satellite g.ch g.flags g.value).settle) s

/-- Misses in ascending order of satellite channel (R33, R35). -/
def State.misses (s : State) (satellite : Nat) (chs : List Nat) : State :=
  chs.foldl (fun s c => (s.miss satellite c).settle) s

/-- The requested channels that a response omits (R33). -/
def absentChannels (mask : Half) (gs : List Group) : List Nat :=
  (maskChannels mask).filter (fun c => !gs.any (fun g => decide (g.ch = c)))

/-- The outcome of an accepted attempt (R33). -/
def acceptedOutcome (t : Transaction) (gs : List Group) : PollOutcome :=
  if (absentChannels t.mask gs).isEmpty then (if t.second then .retried else .ok) else .partialData

/-- An attempt ends with an accepted response (R33). -/
def State.responseAccepted (s : State) (t : Transaction) (gs : List Group) : State :=
  let s := s.beginLosses.satelliteAnswered t
  let s := s.deliver t.satellite (gs.filter (fun g => inMask t.mask g.ch))
  let s := s.misses t.satellite (absentChannels t.mask gs)
  s.endTransaction t (acceptedOutcome t gs)

/-- An attempt ends without an accepted response: STOPPED when polling has stopped, a second attempt, or a failed
transaction (R34, R35, R37). -/
def State.attemptLost (s : State) (t : Transaction) : State :=
  if !t.belongs then s.endTransaction t .stopped
  else if !t.second && decide (t.retry = 1) then
    { s with
      bus.tx := some { t with second := true, waiting := false, timer := 0 }
      bus.sent := pollFrame t.satellite t.mask }
  else ((s.beginLosses.misses t.satellite (maskChannels t.mask)).satelliteFailed t).endTransaction t .failed

/-- The poll frame's last stop bit ends: the response timer starts, and the receiver hunts (R25, R32). -/
def State.pollSent (s : State) : State :=
  match s.bus.tx with
  | none => { s with bus.sent := [] }
  | some t =>
    if t.waiting then { s with bus.sent := [] }
    else State.clearHeard { s with bus.tx := some { t with waiting := true, timer := 0 }, bus.sent := [] }

/-- A frame ends reception, and the receiver keeps nothing; while no attempt waits its bytes are discarded
(R25, R32, R38). -/
def State.sumpFrame (s : State) (frame : List Byte) : State :=
  match s.bus.tx with
  | none => s
  | some t =>
    if t.waiting then
      match acceptedGroups t.satellite frame with
      | some gs => s.clearHeard.responseAccepted t gs
      | none => s.clearHeard.attemptLost t
    else s

/-- The response timer expires, and a partial frame is discarded (R32). -/
def State.sumpTimeout (s : State) : State :=
  match s.bus.tx with
  | none => s
  | some t => if t.waiting then s.clearHeard.attemptLost t else s

/-- A poll list entry is replaced as a whole, and its last outcome becomes NONE (R27). -/
def State.writePoll (s : State) (i : Fin 16) (e : PollEntry) : State :=
  let s := { s with bus.poll := upd s.bus.poll i e }
  s.withPoll i (fun r => { r with outcome := .none })

end Sys2Proof.Machine
end

