-- ==== Sys2Proof/Machine/Link.lean ====
section
/-! DEFINITION. The appliance link (11): frames, STATUS codes of a response, and how a request is taken and answered. -/

namespace Sys2Proof.Machine

/-! ## Frames (11 11.1) -/

/-- The bytes that the CRC covers: LEN through the last payload byte (R191). -/
def covered (code : Byte) (payload : List Byte) : List Byte := BitVec.ofNat 8 (payload.length + 1) :: code :: payload

/-- A frame: SOF, LEN, CODE, payload, CRC high byte first (R191). -/
def buildFrame (code : Byte) (payload : List Byte) : List Byte :=
  0x5A :: (covered code payload ++ u16 (crc16 (covered code payload)).toNat)

/-- The code and payload of a complete frame with a LEN of 1 to 60 and a matching CRC (R191). -/
def parseFrame (bytes : List Byte) : Option (Byte × List Byte) :=
  match bytes with
  | sof :: len :: code :: rest =>
    let payload := rest.take (len.toNat - 1)
    if sof = 0x5A ∧ 1 ≤ len.toNat ∧ len.toNat ≤ 60 ∧ rest.length = len.toNat + 1
        ∧ rest.drop (len.toNat - 1) = u16 (crc16 (len :: code :: payload)).toNat then
      some (code, payload)
    else none
  | _ => none

/-- The codes of the request code table (11 11.2). -/
def requestCodes : List Byte :=
  [0x01, 0x02, 0x03, 0x04, 0x05, 0x06, 0x10, 0x11, 0x12, 0x13, 0x14, 0x15, 0x16, 0x20, 0x21, 0x22, 0x23, 0x24,
   0x30, 0x31, 0x32, 0x33, 0x40, 0x41, 0x42, 0x48, 0x49, 0x50, 0x51]

/-- A frame that is a request: complete, matching, and with a known code (R191). -/
def isRequest (bytes : List Byte) : Bool :=
  match parseFrame bytes with
  | some (code, _) => requestCodes.contains code
  | none => false

/-- The longest payload of a request: LEN covers CODE and payload and is at most 60 (R191). -/
def maxPayload : Nat := 59

/-! ## Responses (R192) -/

/-- The results of the STATUS code table, in the order of their codes 0 to 16 (R192). -/
inductive Status where
  | ok | busy | inUse | badField | full | empty | duplicate | notFound | wrongMode | doorOpen | tripped
  | tableInvalid | conflict | staleValue | order | check | causePresent
  deriving DecidableEq, Repr

def statusCode : Status → Nat
  | .ok => 0 | .busy => 1 | .inUse => 2 | .badField => 3 | .full => 4 | .empty => 5 | .duplicate => 6
  | .notFound => 7 | .wrongMode => 8 | .doorOpen => 9 | .tripped => 10 | .tableInvalid => 11 | .conflict => 12
  | .staleValue => 13 | .order => 14 | .check => 15 | .causePresent => 16

/-- A response frame: CODE + 0x80, the status byte, then the payload (R192). -/
def responseFrame (code : Byte) (status : Status) (payload : List Byte) : List Byte :=
  buildFrame (code + 0x80) (BitVec.ofNat 8 (statusCode status) :: payload)

/-- What the block that owns a request decides: the state after its event, the status, and the response payload, which
is read from the state at the end of the event (R192). -/
structure Verdict where
  state : State
  status : Status
  payload : State → List Byte

/-- A refusal that changes nothing (R193). -/
def refuse (s : State) (status : Status) : Verdict := { state := s, status := status, payload := fun _ => [] }

/-- A refusal with a payload (R192). -/
def refuseWith (s : State) (status : Status) (payload : List Byte) : Verdict :=
  { state := s, status := status, payload := fun _ => payload }

/-- An accepted request whose response carries what the state then shows. -/
def accept (s : State) (payload : State → List Byte) : Verdict := { state := s, status := .ok, payload := payload }

/-- An accepted request whose response carries given bytes. -/
def acceptWith (s : State) (payload : List Byte) : Verdict := accept s (fun _ => payload)

/-- An accepted request with an empty response payload. -/
def acceptBare (s : State) : Verdict := acceptWith s []

/-- The part answers (R192): the event of the request ends with the arbiter's evaluation, the response is sent and the
receiver stays off until its end (R191). -/
def Verdict.answer (v : Verdict) (code : Byte) : State :=
  let s := v.state.settle
  { s with
    link := { s.link with response := some (responseFrame code v.status (v.payload s)), rxOff := true } }

/-- A request reaches the link port. While the receiver is off it is lost, and a payload that no frame can carry is
none (R191). -/
def State.request? (s : State) (payload : List Byte) : Bool := !s.link.rxOff && decide (payload.length ≤ maxPayload)

/-- A request of a code, judged by its block (R191, R192). -/
def State.handle (s : State) (code : Byte) (payload : List Byte) (judge : State → Verdict) : State :=
  if s.request? payload then (judge s).answer code else s

end Sys2Proof.Machine
end

