-- ==== Sys2Proof/Machine/Operands.lean ====
section
/-! DEFINITION. The fields of requests and responses (R193, R194): entries, profiles and phase records as bytes, with the
range checks of R1, R2, R27, R42, R44, R51, R87, R112 and R146. A reader answers none where a field is out of range;
the length has been judged before (R193). -/

namespace Sys2Proof.Machine

/-- A number is within a range. -/
def within (lo hi n : Nat) : Bool := decide (lo ≤ n) && decide (n ≤ hi)

/-! ## Channel entries (01 1.1) -/

/-- The number of bytes of a channel entry. -/
def channelLength : Nat := 13

/-- A curve index, with 255 for NONE (R194): none where it names neither. -/
def readCurveIndex (b : Byte) : Option (Option Nat) :=
  if b = 255 then some none else if b.toNat ≤ 7 then some (some b.toNat) else none

/-- A curve index as a byte (R194). -/
def curveByte (c : Option Nat) : List Byte := u8 (c.getD 255)

/-- A channel entry with every field in range (R1). -/
def readChannel (l : List Byte) : Option ChannelEntry :=
  match l with
  | [en, sat, sc, role, curve, shift, cond, lh, ll, level, store, adv, stale] =>
    match readYesNo en, roleOfCode role.toNat, readCurveIndex curve, condOfCode cond.toNat, storeOfCode store.toNat,
        readYesNo adv with
    | some en, some role, some curve, some cond, some store, some adv =>
      if within 1 4 sat.toNat && within 0 15 sc.toNat && within 0 4 shift.toNat && within 1 7 level.toNat
          && within 1 15 stale.toNat then
        some
          { enabled := en
            satellite := sat.toNat
            satChannel := sc.toNat
            role := role
            curve := curve
            shift := shift.toNat
            cond := cond
            limit := s16 lh ll
            level := level.toNat
            store := store
            advanceValid := adv
            staleLimit := stale.toNat }
      else none
    | _, _, _, _, _, _ => none
  | _ => none

/-- A channel entry as bytes (R194). -/
def channelBytes (e : ChannelEntry) : List Byte :=
  yesNo e.enabled ++ u8 e.satellite ++ u8 e.satChannel ++ u8 (roleCode e.role) ++ curveByte e.curve ++ u8 e.shift
    ++ u8 (condCode e.cond) ++ i16 e.limit ++ u8 e.level ++ u8 (storeCode e.store) ++ yesNo e.advanceValid
    ++ u8 e.staleLimit

/-! ## Curves (01 1.2) -/

/-- The points of a curve, four bytes each; an x above 4095 is out of range (R2). -/
def readPoints : List Byte → Option (List (Nat × Int))
  | [] => some []
  | xh :: xl :: yh :: yl :: rest =>
    if be16 xh xl ≤ 4095 then (readPoints rest).map (fun pts => (be16 xh xl, s16 yh yl) :: pts) else none
  | _ => none

/-- A point as bytes (R194). -/
def pointBytes (p : Nat × Int) : List Byte := u16 p.1 ++ i16 p.2

/-! ## Poll list entries (02 2.2) -/

def pollLength : Nat := 8

/-- A poll list entry with every field in range (R27). -/
def readPoll (l : List Byte) : Option PollEntry :=
  match l with
  | [en, sat, mh, ml, ih, il, timeout, retry] =>
    match readYesNo en with
    | none => none
    | some en =>
      if within 1 4 sat.toNat && within 10 10000 (be16 ih il)
          && decide (timeout.toNat = 2 ∨ timeout.toNat = 5 ∨ timeout.toNat = 10 ∨ timeout.toNat = 20)
          && within 0 1 retry.toNat && !(en && decide (be16 mh ml = 0)) then
        some
          { enabled := en
            satellite := sat.toNat
            mask := BitVec.ofNat 16 (be16 mh ml)
            interval := be16 ih il
            timeout := timeout.toNat
            retry := retry.toNat }
      else none
  | _ => none

/-- A poll list entry as bytes (R194). -/
def pollBytes (e : PollEntry) : List Byte :=
  yesNo e.enabled ++ u8 e.satellite ++ u16 e.mask.toNat ++ u16 e.interval ++ u8 e.timeout ++ u8 e.retry

/-! ## Load entries (08 8.1) -/

def loadLength : Nat := 7

/-- A load entry with every field in range for its load (R146). -/
def readLoad (id : Nat) (l : List Byte) : Option LoadEntry :=
  match l with
  | [en, rh, rl, hh, hl, priority, shed] =>
    match readYesNo en, readYesNo shed with
    | some en, some shed =>
      if within 0 3000 (be16 rh rl) && within 0 3000 (be16 hh hl) && (decide (id = 0) || decide (be16 hh hl = 0))
          && within 1 7 priority.toNat then
        some
          { enabled := en
            rated := be16 rh rl
            half := be16 hh hl
            priority := priority.toNat
            sheddable := shed }
      else none
    | _, _ => none
  | _ => none

/-- A load entry as bytes (R194). -/
def loadBytes (e : LoadEntry) : List Byte :=
  yesNo e.enabled ++ u16 e.rated ++ u16 e.half ++ u8 e.priority ++ yesNo e.sheddable

/-! ## Profiles (03 3.4, 05 5.3, 06 6.2) -/

def machineLength : Nat := 14
def softenerLength : Nat := 19
def dosingLength : Nat := 17

/-- The ranges and cross-field conditions of the machine profile (R51). -/
def MachineProfile.inRange (p : MachineProfile) : Bool :=
  within 0 300 p.heaterSafe && within 0 300 p.overfill && decide (p.heaterSafe < p.overfill)
    && within 300 900 p.tripTemp && within 200 750 p.maxSetpoint && decide (p.maxSetpoint < p.tripTemp)
    && within 5 50 p.hysteresis && within 10 120 p.fillStall && within 30 600 p.drainTimeout
    && within 50 1000 p.strayLimit

/-- A machine profile in range (R51). -/
def readMachine (l : List Byte) : Option MachineProfile :=
  match l with
  | [a, b, c, d, e, f, g, h, hyst, stall, i, j, k, m] =>
    let p : MachineProfile :=
      { heaterSafe := be16 a b
        overfill := be16 c d
        tripTemp := be16 e f
        maxSetpoint := be16 g h
        hysteresis := hyst.toNat
        fillStall := stall.toNat
        drainTimeout := be16 i j
        strayLimit := be16 k m }
    if p.inRange then some p else none
  | _ => none

/-- The machine profile as bytes (R194). -/
def machineBytes (p : MachineProfile) : List Byte :=
  u16 p.heaterSafe ++ u16 p.overfill ++ u16 p.tripTemp ++ u16 p.maxSetpoint ++ u8 p.hysteresis ++ u8 p.fillStall
    ++ u16 p.drainTimeout ++ u16 p.strayLimit

/-- The ranges and the cross-field condition of the softener profile (R87). -/
def SoftenerProfile.inRange (p : SoftenerProfile) : Bool :=
  within 1000 60000 p.rated && decide (p.reserve ≤ p.rated) && within 0 500 p.hRes && within 0 2000 p.hFix
    && within 100 2000 p.k && within 100 2000 p.brineVolume && within 60 3600 p.soakTime
    && within 500 10000 p.rinseVolume && within 0 100 p.restorePercent && within 2 20 p.travelTimeout

/-- A softener profile in range (R87). -/
def readSoftener (l : List Byte) : Option SoftenerProfile :=
  match l with
  | [a, b, c, d, e, f, g, h, i, j, k, m, n, o, p, q, percent, auto, travel] =>
    match readYesNo auto with
    | none => none
    | some auto =>
      let x : SoftenerProfile :=
        { rated := be16 a b
          reserve := be16 c d
          hRes := be16 e f
          hFix := be16 g h
          k := be16 i j
          brineVolume := be16 k m
          soakTime := be16 n o
          rinseVolume := be16 p q
          restorePercent := percent.toNat
          auto := auto
          travelTimeout := travel.toNat }
      if x.inRange then some x else none
  | _ => none

/-- The softener profile as bytes (R194). -/
def softenerBytes (p : SoftenerProfile) : List Byte :=
  u16 p.rated ++ u16 p.reserve ++ u16 p.hRes ++ u16 p.hFix ++ u16 p.k ++ u16 p.brineVolume ++ u16 p.soakTime
    ++ u16 p.rinseVolume ++ u8 p.restorePercent ++ yesNo p.auto ++ u8 p.travelTimeout

/-- The ranges and cross-field conditions of a dosing profile (R112). -/
def DosingProfile.inRange (p : DosingProfile) : Bool :=
  within 100 200000 p.capacity && within 10 255 p.strokeVolume && within 200 2000 p.strokePeriod
    && within 0 600 p.dMin && within 0 600 p.dMax && decide (p.dMin ≤ p.dMax) && decide (p.lowMark ≤ p.capacity)

/-- A dosing profile in range (R112). -/
def readDosing (l : List Byte) : Option DosingProfile :=
  match l with
  | [a, b, c, d, stroke, e, f, g, h, i, j, k, m, n, o, hard, soil] =>
    match readCurveIndex hard, readCurveIndex soil with
    | some hard, some soil =>
      let x : DosingProfile :=
        { capacity := be32 a b c d
          strokeVolume := stroke.toNat
          strokePeriod := be16 e f
          dMin := be16 g h
          dMax := be16 i j
          lowMark := be32 k m n o
          hardCurve := hard
          soilCurve := soil }
      if x.inRange then some x else none
    | _, _ => none
  | _ => none

/-- A dosing profile as bytes (R194). -/
def dosingBytes (p : DosingProfile) : List Byte :=
  u32 p.capacity ++ u8 p.strokeVolume ++ u16 p.strokePeriod ++ u16 p.dMin ++ u16 p.dMax ++ u32 p.lowMark
    ++ curveByte p.hardCurve ++ curveByte p.soilCurve

/-! ## Phase records (11 11.2) -/

/-- The length of a phase record of each kind: WASH 36, DRAIN 8, DRY 11. -/
def recordLength (kind : Byte) : Option Nat :=
  if kind = 1 then some 36 else if kind = 2 then some 8 else if kind = 3 then some 11 else none

/-- A phase record's length matches the kind it names (R44, R193). -/
def recordLengthGood (l : List Byte) : Bool :=
  match l with
  | _ :: kind :: _ => decide (recordLength kind = some l.length)
  | _ => false

/-- The dose field: 0 NONE, 1 DET, 2 RINSE. -/
def readDose (b : Byte) : Option (Option Reservoir) :=
  if b = 0 then some none else if b = 1 then some (some .det) else if b = 2 then some (some .rinse) else none

/-- A phase test: with present 0 it is absent and its other bytes are not judged; any other present byte than 1 is
refused (R42, R193). -/
def readTest (present subject code th tl : Byte) : Option (Option PhaseTest) :=
  match readYesNo present with
  | none => none
  | some false => some none
  | some true =>
    match subjectOfCode subject.toNat, condOfCode code.toNat with
    | some x, some c => some (some { subject := x, cond := c, threshold := s16 th tl })
    | _, _ => none

/-- The extra-rinse test with its max repeats (R42). -/
def readExtra (present subject code th tl repeats : Byte) : Option (Option ExtraTest) :=
  match readTest present subject code th tl with
  | none => none
  | some none => some none
  | some (some t) => if repeats.toNat ≤ 3 then some (some { test := t, maxRepeats := repeats.toNat }) else none

/-- The setpoint as stored (R43). -/
def clampSetpoint (maxSetpoint sent : Nat) : Nat := if sent = 0 then 0 else min (max sent 200) maxSetpoint

/-- The fields of a WASH record as sent, in range (R42). -/
def readWash (l : List Byte) : Option WashFields :=
  match l with
  | [f1, f2, v1, v2, s1, s2, speed, h1, h2, t1, t2, m1, m2, dose, d1, d2, point,
      ep, es, ec, e1, e2, xp, xs, xc, x1, x2, xr, l1, l2, n1, n2] =>
    match readDose dose, readTest ep es ec e1 e2, readExtra xp xs xc x1 x2 xr with
    | some dose, some exit, some extra =>
      if within 1 300 (be16 f1 f2) && within 500 8000 (be16 v1 v2) && within 60 7200 (be16 h1 h2)
          && within 0 7200 (be16 t1 t2) && decide (be16 m1 m2 ≤ be16 t1 t2) && within 0 600 (be16 d1 d2)
          && within 0 1 point.toNat && within 0 300 (be16 l1 l2) && within 0 600 (be16 n1 n2) then
        some
          { fillTarget := be16 f1 f2
            fillCap := be16 v1 v2
            setpoint := be16 s1 s2
            speed := speed.toNat
            heatTimeout := be16 h1 h2
            holdTime := be16 t1 t2
            minHold := be16 m1 m2
            dose := dose
            dBase := be16 d1 d2
            dosePoint := if point = 0 then .atCirculate else .atSetpoint
            exitTest := exit
            extraTest := extra
            endLevel := be16 l1 l2
            minTime := be16 n1 n2 }
      else none
    | _, _, _ => none
  | _ => none

/-- The fields of a DRAIN record, in range (R44). -/
def readDrain (l : List Byte) : Option DrainFields :=
  match l with
  | [l1, l2, n1, n2] =>
    if within 0 300 (be16 l1 l2) && within 0 600 (be16 n1 n2) then
      some { endLevel := be16 l1 l2, minTime := be16 n1 n2 }
    else none
  | _ => none

/-- The fields of a DRY record, in range (R44). -/
def readDry (l : List Byte) : Option DryFields :=
  match l with
  | [c1, c2, o1, o2, v1, v2, fan] =>
    match readYesNo fan with
    | none => none
    | some fan =>
      if within 0 3600 (be16 c1 c2) && within 0 3600 (be16 v1 v2) && decide (-200 ≤ s16 o1 o2)
          && decide (s16 o1 o2 ≤ 1000) then
        some { condenseMax := be16 c1 c2, openTemp := s16 o1 o2, ventTime := be16 v1 v2, fan := fan }
      else none
  | _ => none

/-- The fields of a record's kind, as sent. -/
def readBody (kind : Byte) (l : List Byte) : Option PhaseBody :=
  if kind = 1 then (readWash l).map PhaseBody.wash
  else if kind = 2 then (readDrain l).map PhaseBody.drain
  else if kind = 3 then (readDry l).map PhaseBody.dry
  else none

/-- A phase record as sent, every field in range (R42, R44). -/
def readRecord (l : List Byte) : Option PhaseRecord :=
  match l with
  | tag :: kind :: set :: clear :: rest =>
    (readBody kind rest).map (fun b => { tag := tag.toNat, setMask := set, clearMask := clear, body := b })
  | _ => none

/-- The setpoint and pump speed clamped before a record is stored (R43). -/
def PhaseRecord.clamped (p : PhaseRecord) (maxSetpoint : Nat) : PhaseRecord :=
  match p.body with
  | .wash w =>
    { p with
      body := .wash { w with setpoint := clampSetpoint maxSetpoint w.setpoint, speed := clampNat 30 100 w.speed } }
  | _ => p

def doseByte : Option Reservoir → List Byte
  | none => [0]
  | some .det => [1]
  | some .rinse => [2]

/-- A phase test as five bytes; an absent test is stored as zeros (DESIGN CHOICE, log 17). -/
def testBytes : Option PhaseTest → List Byte
  | none => [0, 0, 0, 0, 0]
  | some t => [1] ++ u8 (subjectCode t.subject) ++ u8 (condCode t.cond) ++ i16 t.threshold

def extraBytes : Option ExtraTest → List Byte
  | none => [0, 0, 0, 0, 0, 0]
  | some x => testBytes (some x.test) ++ u8 x.maxRepeats

def pointByte : DosePoint → List Byte
  | .atCirculate => [0]
  | .atSetpoint => [1]

/-- The bytes of a record after its masks. -/
def bodyBytes : PhaseBody → List Byte
  | .wash w =>
    u16 w.fillTarget ++ u16 w.fillCap ++ u16 w.setpoint ++ u8 w.speed ++ u16 w.heatTimeout ++ u16 w.holdTime
      ++ u16 w.minHold ++ doseByte w.dose ++ u16 w.dBase ++ pointByte w.dosePoint ++ testBytes w.exitTest
      ++ extraBytes w.extraTest ++ u16 w.endLevel ++ u16 w.minTime
  | .drain d => u16 d.endLevel ++ u16 d.minTime
  | .dry d => u16 d.condenseMax ++ i16 d.openTemp ++ u16 d.ventTime ++ yesNo d.fan

/-- Kinds: 1 WASH, 2 DRAIN, 3 DRY (11 11.2). -/
def kindCode : PhaseBody → Nat
  | .wash _ => 1
  | .drain _ => 2
  | .dry _ => 3

/-- A phase record in the form of the PHASE_SUBMIT payload (11 11.2). -/
def recordBytes (p : PhaseRecord) : List Byte :=
  u8 p.tag ++ u8 (kindCode p.body) ++ [p.setMask, p.clearMask] ++ bodyBytes p.body

/-! ## Sets, notices and samples (R178, R194, R198, R22) -/

/-- The set of suspension reasons as one byte: DOOR, HOST, NO_WATER, MAINS, RESTORED from bit 0 (R178, R194). -/
def suspByte (x : SuspSet) : List Byte :=
  u8 (x.door.toNat + 2 * x.host.toNat + 4 * x.noWater.toNat + 8 * x.mains.toNat + 16 * x.restored.toNat)

/-- The softener's hold set as one byte: MAINS, RESTORED from bit 0. -/
def holdByte (x : HoldSet) : List Byte := u8 (x.mains.toNat + 2 * x.restored.toNat)

/-- A notice as its nine bytes (11 11.5). -/
def noticeBytes (n : Notice) : List Byte :=
  u8 (noticeCode n.kind) ++ u8 n.level ++ u16 n.tag.toNat ++ u8 n.subject ++ u32 n.value.toNat

/-- A stored sample: value, flags, time tag (01 1.9). -/
def sampleBytes (x : Sample) : List Byte := i16 x.value ++ [x.flags] ++ u16 x.tag.toNat

end Sys2Proof.Machine
end

