-- ==== Sys2Proof/Machine/Status.lean ====
section
/-! DEFINITION. What the host reads (R200, R201, R22, R172): the STATUS pages, a channel and its samples, and the trip
record, as the bytes of R194 (DESIGN CHOICE, log 17). -/

namespace Sys2Proof.Machine

/-- A timer in its steps of 0.1 s (R194). -/
def tenths (t : Nat) : Nat := t / Config.tenth

/-! ## STATUS pages (R200) -/

/-- The integrity latch: none, or table, bank and index (R174). -/
def integrityBytes (e : IntegrityError) : List Byte :=
  u8 (tableCode e.table) ++ optional (fun b => u8 (bankCode b)) e.bank ++ u8 e.index

/-- A satellite's presence and failure count. -/
def satBytes (x : Satellite) : List Byte := u8 (satPresenceCode x.presence) ++ u8 x.failures

/-- Page 0, part. The attention line reads 1 asserted and 0 released (R194, R199; DESIGN CHOICE, log 17). -/
def State.pagePart (s : State) : List Byte :=
  u8 (modeCode s.link.mode) ++ yesNo s.trip.latch ++ u8 (reasonCode s.trip.record.reason)
    ++ u8 (reasonCode s.trip.record.secondary) ++ optional u8 s.trip.record.source
    ++ optional integrityBytes s.trip.integrity ++ yesNo s.trip.more
    ++ u8 s.link.notices.length ++ yesNo s.link.overrun ++ u8 s.link.threshold ++ yesNo s.link.attn
    ++ u16 s.link.timeTag.toNat ++ u8 (resolutionCode s.link.resolution)
    ++ u8 (mainsCode s.arb.zc.presence) ++ u16 s.arb.budget ++ u16 s.totalWatts
    ++ (List.finRange 4).flatMap (fun i => satBytes s.bus.sats[i])

/-- The stage record, in the order of the table of R56. -/
def stageBytes (h : StageRecord) : List Byte :=
  u8 (stageCode h.stage) ++ yesNo (decide (h.runMark = .resumed)) ++ u16 (tenths h.stallTimer)
    ++ u32 (tenths h.heatTimer) ++ u32 (tenths h.holdTimer) ++ u32 (tenths h.drainTimer) ++ yesNo h.thermostat
    ++ u8 (capturedCode h.captured) ++ yesNo h.doseBegun ++ u8 h.repeats ++ yesNo h.cancelling

/-- The DRY record, in the order of the table of 07 7.3. -/
def dryBytes (d : DryRecord) : List Byte :=
  u16 (tenths d.condense) ++ u8 d.attempt ++ u8 (attemptCode d.attState) ++ u8 (tenths d.window) ++ u8 (tenths d.rest)
    ++ u16 (tenths d.vent) ++ u8 (openedByCode d.openedBy)

/-- The cycle totals (03 3.5). -/
def totalsBytes (t : Totals) : List Byte := u32 t.fillVolume ++ u16 t.extraRinses ++ u16 t.doses ++ u32 t.clock

/-- The debounced readings: 0 closed or engaged, 1 open or released (R130, R194). -/
def readingBytes (d : DoorUnit) : List Byte := yesNo (!d.closed) ++ yesNo (!d.latch)

/-- Page 1, cycle. The head tag is that of the oldest record, none for an empty queue (R45, R200). -/
def State.pageCycle (s : State) : List Byte :=
  u8 (engineCode s.eng.state) ++ suspByte s.eng.susp
    ++ optional u8 (s.headRecord.map PhaseRecord.tag)
    ++ optional stageBytes s.eng.head ++ optional dryBytes s.door.dry
    ++ u8 (doorCode s.door.state) ++ readingBytes s.door ++ optional (fun t => u8 (tenths t)) s.door.settle
    ++ totalsBytes s.eng.totals

/-- A column record (05 5.1). -/
def columnBytes (c : Column) : List Byte :=
  u8 (columnStateCode c.state) ++ u16 c.cap ++ yesNo c.due ++ yesNo c.saltReduced

/-- A selector move: purpose, target, timer, and whether it drives (R86). -/
def moveBytes (m : SelectorMove) : List Byte :=
  u8 (purposeCode m.purpose) ++ u8 (sideCode m.target) ++ u8 (tenths m.timer) ++ yesNo m.driving

/-- The regeneration record (05 5.6). -/
def regenBytes (r : Regen) : List Byte :=
  u8 (sideCode r.column) ++ u8 (regenStageCode r.stage) ++ yesNo r.flowing ++ u16 r.volume ++ u16 (tenths r.soakTimer)

/-- Page 2, softener. The progress of a path without a holder is held and reported as SELECTING (R110; DESIGN CHOICE,
log 43). -/
def State.pageSoftener (s : State) : List Byte :=
  columnBytes s.soft.colA ++ columnBytes s.soft.colB ++ u8 (sideCode s.soft.position)
    ++ optional moveBytes s.soft.move ++ u8 (holderCode s.soft.holder) ++ u8 (progressCode s.soft.progress)
    ++ u8 (routeCode s.soft.route) ++ yesNo s.soft.waiting ++ optional regenBytes s.soft.regen
    ++ holdByte s.soft.hold ++ u16 s.soft.vFill ++ u16 s.soft.u ++ u16 s.soft.stray

/-- The dose in flight (R128). -/
def doseBytes (d : Dose) : List Byte :=
  u8 (reservoirCode d.reservoir) ++ u8 d.tag ++ u16 d.dose ++ u8 d.total ++ u8 d.done ++ u8 (deliveryCode d.state)

/-- Page 3, dosing. -/
def State.pageDosing (s : State) : List Byte :=
  u32 s.dosing.det.estimate ++ yesNo s.dosing.det.lowSeen ++ u32 s.dosing.rinse.estimate
    ++ yesNo s.dosing.rinse.lowSeen ++ optional doseBytes s.dosing.dose
    ++ yesNo s.trip.faultedMachine ++ yesNo s.trip.faultedSoftener ++ yesNo s.trip.faultedDet
    ++ yesNo s.trip.faultedRinse

/-- A load's grant state: IDLE, PENDING with its wait cause, or GRANTED with its step (R149). -/
def State.grantBytes (s : State) (l : LoadId) : List Byte :=
  if s.requested l then
    match (s.load l).grant with
    | some g => u8 2 ++ u8 (stepCode g)
    | none => u8 1 ++ u8 (causeCode (s.load l).cause)
  else u8 0

/-- The owner of a load in RUN mode, by its place in the table of 08 8.2: 0 phase engine, 1 softener unit, 2 dosing
unit, 3 door unit; 4 is the arbiter and 5 the host. -/
def ownerCode : LoadId → Nat
  | .heater => 0 | .circPump => 0 | .drainPump => 0
  | .inletValve => 1 | .routeValve => 1 | .selectorValve => 1 | .brineValve => 1
  | .doseDet => 2 | .doseRinse => 2
  | .doorActuator => 3 | .fan => 3

/-- The owner of the request that stands, if any (R148, R154, R160). -/
def State.requestOwner (s : State) (l : LoadId) : Option Nat :=
  if l = .drainPump ∧ s.arb.flood = true then some 4
  else if (s.load l).own.isSome then some (ownerCode l)
  else if (s.load l).forced.isSome then some 5
  else none

/-- The argument of the request that stands: the owner's, else the host's (R148). -/
def State.argument (s : State) (l : LoadId) : Option Nat :=
  match (s.load l).own with
  | some a => some a
  | none => (s.load l).forced

/-- Page 4, loads. -/
def State.pageLoads (s : State) : List Byte :=
  allLoads.flatMap s.grantBytes ++ optional u8 (s.argument .circPump)
    ++ allLoads.flatMap (fun l => optional u8 (s.requestOwner l))

/-- The contents of a STATUS page; a page above 4 has none (R200). -/
def State.page (s : State) (n : Nat) : Option (List Byte) :=
  match n with
  | 0 => some s.pagePart
  | 1 => some s.pageCycle
  | 2 => some s.pageSoftener
  | 3 => some s.pageDosing
  | 4 => some s.pageLoads
  | _ => none

/-! ## Channels and samples (R22, R201) -/

/-- The unread count of a store (R20, R21). -/
def SampleStore.unread (t : SampleStore) (m : StoreMode) : Nat :=
  match m with
  | .none => 0
  | .latest => t.unreadMark.toNat
  | .paired => t.unreadMark.toNat
  | .ring16 => t.ring.length
  | .ring64 => t.ring.length

/-- What CHANNEL_READ returns (R201). The limit state reads 0 INACTIVE and 1 ACTIVE (R194; DESIGN CHOICE, log 17). -/
def State.channelReading (s : State) (i : Fin 32) : List Byte :=
  let e := s.chan.active[i].contents
  let r := s.chan.run[i]
  yesNo e.enabled ++ u8 e.satellite ++ u8 e.satChannel ++ u8 (roleCode e.role) ++ u8 (freshnessCode r.freshness)
    ++ i16 r.raw ++ i16 r.converted ++ i16 r.filtered ++ u8 r.misses ++ yesNo r.limitActive ++ u8 (storeCode e.store)
    ++ u8 (r.store.unread e.store)

/-- A read of a single place: the unread sample, whose mark the read clears (R20). -/
def SampleStore.readPlace (t : SampleStore) : SampleStore × List Byte :=
  if t.unreadMark then ({ t with unreadMark := false }, counted sampleBytes t.place.toList)
  else (t, counted sampleBytes [])

/-- A read of a ring of n places: up to 8 samples, the remaining unread count, the overrun mark, which the read clears,
and the pending mark (R22). -/
def SampleStore.readRing (t : SampleStore) (n : Nat) : SampleStore × List Byte :=
  let taken := t.ring.take 8
  let rest := t.ring.drop 8
  ({ t with ring := rest, readPos := (t.readPos + taken.length) % n, overrun := false },
    counted sampleBytes taken ++ u8 rest.length ++ yesNo t.overrun ++ yesNo t.waiting.isSome)

/-- A read of a channel's store (R22). For LATEST, PAIRED, NONE and a disabled channel only the counted list is sent: the
remaining count and the two marks are a ring's (DESIGN CHOICE, log 37). -/
def SampleStore.read (t : SampleStore) (e : ChannelEntry) : SampleStore × List Byte :=
  if e.enabled then
    match e.store with
    | .none => (t, counted sampleBytes [])
    | .latest => t.readPlace
    | .paired => t.readPlace
    | .ring16 => t.readRing 16
    | .ring64 => t.readRing 64
  else (t, counted sampleBytes [])

/-! ## The trip record (R172) -/

/-- What TRIP_READ returns (R172). -/
def State.tripReading (s : State) : List Byte :=
  let r := s.trip.record
  yesNo s.trip.latch ++ u8 (reasonCode r.reason) ++ u8 (reasonCode r.secondary) ++ optional u8 r.tag
    ++ optional (fun x => u8 (stageCode x)) r.stage ++ u16 r.timeTag.toNat ++ optional u8 r.source ++ u32 r.value.toNat
    ++ optional (fun t => u16 (min 65535 (tenths t))) s.trip.flowQuiet ++ yesNo s.trip.tableMark
    ++ yesNo s.causePresent

end Sys2Proof.Machine
end

