-- ==== Sys2Proof/Machine/Image.lean ====
section
/-! DEFINITION. The context image (10 10.4 to 10.6): the snapshot, the judgement of each CONTEXT_WRITE and of the whole
staging, and the restore. -/

namespace Sys2Proof.Machine

/-! ## The snapshot (R185, 10 10.5) -/

/-- A record of 16 bytes: the bytes given, then zeros. -/
def padRecord (l : List Byte) : List Byte := (l ++ List.replicate 16 0).take 16

/-- Reason codes of a snapshot: 1 MAINS, 2 REQUEST (10 10.5). -/
def reasonMains : Nat := 1
def reasonRequest : Nat := 2

/-- Record 0, header. -/
def State.headerRecord (s : State) (reason : Nat) : List Byte :=
  padRecord (u8 16 ++ u8 1 ++ u8 reason ++ u8 (modeCode s.link.mode) ++ u16 s.link.timeTag.toNat
    ++ u8 s.eng.queue.length)

/-- A queue slot that holds a record (records 1 to 8). -/
def slotRecord (p : PhaseRecord) : List Byte :=
  let b := recordBytes p
  padRecord ([1] ++ u8 p.tag ++ u8 (kindCode p.body) ++ u8 b.length ++ u16 (byteSum b) ++ [p.setMask, p.clearMask])

/-- The slot of a place in the queue; an empty slot is 16 bytes of 0. -/
def State.slot (s : State) (n : Nat) : List Byte :=
  match s.eng.queue[n]? with
  | some p => slotRecord p
  | none => padRecord []

/-- The phase record beside a slot, empty for an empty slot (R185). -/
def State.slotPhase (s : State) (n : Nat) : List Byte := ((s.eng.queue[n]?).map recordBytes).getD []

/-- The stage timer that record 9 carries. -/
def State.stageTimer (s : State) (h : StageRecord) : Nat :=
  match h.stage with
  | .fill => h.stallTimer
  | .circulate => h.heatTimer
  | .hold => h.holdTimer
  | .drain => h.drainTimer
  | .condense => (s.door.dry.map DryRecord.condense).getD 0
  | .opening => (s.door.dry.map DryRecord.rest).getD 0
  | .vent => (s.door.dry.map DryRecord.vent).getD 0

/-- A number of three bytes. -/
def u24 (n : Nat) : List Byte := [BitVec.ofNat 8 (n / 65536), BitVec.ofNat 8 (n / 256), BitVec.ofNat 8 n]

/-- The attempt state of an image: PUSHING has been voided to REQUESTED (10 10.5, R141). -/
def imageAttempt (d : DryRecord) : Nat :=
  match d.attState with
  | .pushing => attemptCode .requested
  | a => attemptCode a

/-- Record 9, running stage; V_fill and U stand in it whatever the stage. With stage none its head tag is 0, also where a
queue waits (R185; DESIGN CHOICE, log 62). -/
def State.stageRecord (s : State) : List Byte :=
  let tail := u16 s.soft.vFill ++ u16 s.soft.u
  match s.eng.head with
  | none => padRecord (List.replicate 7 0 ++ tail)
  | some h =>
    let marks :=
      (decide (h.runMark = .resumed)).toNat + 2 * h.thermostat.toNat + 4 * h.doseBegun.toNat + 8 * h.cancelling.toNat
        + 16 * capturedCode h.captured
    let dry :=
      match s.door.dry with
      | none => 0
      | some d => d.attempt + 4 * imageAttempt d + 16 * openedByCode d.openedBy
    padRecord (u8 (stageCode h.stage) ++ u8 marks ++ u8 h.repeats ++ u24 (tenths (s.stageTimer h)) ++ u8 dry ++ tail
      ++ u8 s.headTag)

/-- Records 10 and 11, a column. -/
def columnRecord (c : Column) : List Byte :=
  padRecord (u8 (columnStateCode c.state) ++ u8 (c.due.toNat + 2 * c.saltReduced.toNat) ++ u16 c.cap)

/-- The route as it stands. A pulse that has begun and whose valve is not granted has left it UNSET, whether or not the
softener has taken the report yet (R89, R183). -/
def State.imageRoute (s : State) : Route :=
  match s.soft.pulse with
  | some p => if decide (0 < p.timer) && !s.granted .routeValve then .unset else s.soft.route
  | none => s.soft.route

/-- Record 12, regeneration and accounting. -/
def State.accountRecord (s : State) : List Byte :=
  let regen :=
    match s.soft.regen with
    | none => [0, 0, 0, 0, 0, 0]
    | some r =>
      u8 (sideCode r.column + 1) ++ u8 (regenStageCode r.stage) ++ u16 r.volume ++ u16 (tenths r.soakTimer)
  padRecord (regen ++ u8 (sideCode s.soft.position) ++ u16 s.soft.rf ++ u16 s.soft.rl
    ++ u8 (s.soft.exhaustedMark.toNat + 2 * s.soft.flipTried.toNat) ++ u8 (routeCode s.imageRoute))

/-- Records 13 and 14, a reservoir. -/
def State.reservoirRecord (s : State) (r : Reservoir) : List Byte :=
  let x := s.reservoir r
  let dose :=
    match s.dosing.dose with
    | some d => if d.reservoir = r then some d else none
    | none => none
  padRecord (u32 x.estimate ++ u8 (x.lowSeen.toNat + 2 * dose.isSome.toNat) ++ u8 ((dose.map Dose.total).getD 0)
    ++ u8 ((dose.map Dose.done).getD 0))

/-- Record 15 without its check. -/
def State.totalsRecord (s : State) : List Byte :=
  u16 s.eng.totals.extraRinses ++ u16 s.eng.totals.doses ++ u32 s.eng.totals.clock ++ [s.chan.flags]
    ++ [0, 0, 0, 0, 0]

/-- Records 0 to 14. -/
def State.imageBody (s : State) (reason : Nat) : List (List Byte) :=
  [s.headerRecord reason] ++ (List.range 8).map s.slot
    ++ [s.stageRecord, columnRecord s.soft.colA, columnRecord s.soft.colB, s.accountRecord, s.reservoirRecord .det,
      s.reservoirRecord .rinse]

/-- The 16-bit sum of every byte of records 0 to 14 (10 10.5). -/
def imageSum (records : List (List Byte)) : Nat := byteSum records.flatten

/-- The image of the state as it stands (R185). -/
def State.image (s : State) (reason : Nat) : Image :=
  let body := s.imageBody reason
  { records := body ++ [s.totalsRecord ++ u16 (imageSum body)], phases := (List.range 8).map s.slotPhase }

/-- A snapshot replaces the image buffer (R185). -/
def State.snapshot (s : State) (reason : Nat) : State := { s with link.image := some (s.image reason) }

/-! ## Writing the image back (R187, R188) -/

/-- A byte of a record as a number. -/
def byteAt (r : List Byte) (i : Nat) : Nat := ((r[i]?).getD 0).toNat

/-- Two bytes of a record, high byte first. -/
def wordAt (r : List Byte) (i : Nat) : Nat := byteAt r i * 256 + byteAt r (i + 1)

/-- A bit of a byte of a record. -/
def bitAt (r : List Byte) (i bit : Nat) : Bool := ((r[i]?).getD 0).getLsbD bit

/-- A record of the staging. -/
def Staging.record (g : Staging) (n : Nat) : List Byte := (g.records[n]?).getD []

/-- The staging is discarded, and record 0 expected (R187). -/
def State.discardStaging (s : State) : State := { s with link.staging := .empty }

/-- Test 4 of R187. -/
def headerGood (r : List Byte) : Bool :=
  decide (byteAt r 0 = 16) && decide (byteAt r 1 = 1) && within 1 2 (byteAt r 2) && within 0 2 (byteAt r 3)
    && within 0 8 (byteAt r 6)

/-- Test 5 of R187: occupancy, and the stated length and sum of an occupied slot's phase record. -/
def slotChecks (r phase : List Byte) : Bool :=
  decide (byteAt r 0 = 0) ||
    (decide (byteAt r 0 = 1) && decide (phase.length = byteAt r 3) && decide (byteSum phase = wordAt r 4))

/-- Test 6 of R187 for an occupied slot. -/
def Staging.slotGood (g : Staging) (phase : List Byte) : Option PhaseRecord :=
  match recordLengthGood phase, readRecord phase with
  | true, some p =>
    if g.phases.any (fun q => decide (q.map PhaseRecord.tag = some p.tag)) || g.phases.any Option.isNone then none
    else some p
  | _, _ => none

/-- The occupied slots of the staging, in order. -/
def Staging.queue (g : Staging) : List PhaseRecord := g.phases.filterMap id

/-- A stage code is a stage of the kind of the head's record (R188). -/
def stageOfKind (b : PhaseBody) (st : Stage) : Bool :=
  match b, st with
  | .wash _, .fill => true
  | .wash _, .circulate => true
  | .wash _, .hold => true
  | .wash _, .drain => true
  | .drain _, .drain => true
  | .dry _, .condense => true
  | .dry _, .opening => true
  | .dry _, .vent => true
  | _, _ => false

/-- The stage timer of record 9, in 0.1 s, lies below its stage's limit in the head's record (R188). -/
def timerGood (b : PhaseBody) (st : Stage) (timer : Nat) : Bool :=
  match b, st with
  | .wash w, .circulate => decide (timer < 10 * w.heatTimeout)
  | .wash w, .hold => decide (timer < 10 * w.holdTime)
  | .dry d, .condense => decide (timer < 10 * d.condenseMax)
  | .dry d, .vent => decide (timer < 10 * d.ventTime)
  | .dry _, .opening => decide (timer < 10)
  | _, _ => true

/-- The most repeats that record 9 may carry (R188). -/
def mostRepeats : PhaseBody → Nat
  | .wash w => (w.extraTest.map ExtraTest.maxRepeats).getD 0
  | _ => 0

/-- The stage timer of record 9. -/
def imageTimer (r9 : List Byte) : Nat := byteAt r9 3 * 65536 + wordAt r9 4

/-- Record 9 against the queue (R188). The tag of slot 1 is that of its phase record, and the slot's own bytes 1, 2, 6 and 7
are not judged (DESIGN CHOICE, log 63). -/
def stageGood (queue : List PhaseRecord) (r9 : List Byte) : Bool :=
  match queue with
  | [] => decide (byteAt r9 0 = 0)
  | p :: _ =>
    decide (byteAt r9 0 = 0) ||
      (match stageOfCode (byteAt r9 0) with
       | none => false
       | some st =>
         stageOfKind p.body st && decide (byteAt r9 11 = p.tag) && timerGood p.body st (imageTimer r9)
           && decide (byteAt r9 2 ≤ mostRepeats p.body))

/-- The coded fields of record 9 (R188): the captured result, the attempt and the attempt state. -/
def stageCodesGood (r9 : List Byte) : Bool :=
  decide ((byteAt r9 1 / 16) % 4 ≤ 2) && decide (byteAt r9 6 % 4 ≤ 2) && decide ((byteAt r9 6 / 4) % 4 ≠ 2)

/-- A column in a REGEN state is named by record 12 with that stage, and record 12 names no other (R188). -/
def columnAgrees (side : Side) (r r12 : List Byte) : Bool :=
  let named := decide (byteAt r12 0 = sideCode side + 1)
  match columnStateOfCode (byteAt r 0) with
  | some .brine => named && decide (byteAt r12 1 = 1)
  | some .soak => named && decide (byteAt r12 1 = 2)
  | some .rinse => named && decide (byteAt r12 1 = 3)
  | some _ => !named
  | none => false

/-- The coded fields of record 12. -/
def accountGood (r12 : List Byte) : Bool :=
  within 0 2 (byteAt r12 0) && (decide (byteAt r12 0 = 0) == decide (byteAt r12 1 = 0)) && within 0 3 (byteAt r12 1)
    && within 0 1 (byteAt r12 6) && within 0 2 (byteAt r12 12)

/-- The dose flags of records 13 and 14: at most one, and only with a WASH head and a stage (R188). -/
def doseFlagsGood (queue : List PhaseRecord) (r9 r13 r14 : List Byte) : Bool :=
  let d := bitAt r13 4 1
  let r := bitAt r14 4 1
  !(d && r) &&
    (!(d || r) ||
      (decide (byteAt r9 0 ≠ 0) &&
        (match queue with
         | p :: _ => decide (kindCode p.body = 1)
         | [] => false)))

/-- The staging is consistent (R188, test 2). -/
def Staging.consistent (g : Staging) : Bool :=
  let r9 := g.record 9
  let r12 := g.record 12
  decide (byteAt (g.record 0) 6 = g.queue.length) && stageGood g.queue r9 && stageCodesGood r9
    && !(decide (byteAt (g.record 10) 0 = 1) && decide (byteAt (g.record 11) 0 = 1))
    && accountGood r12 && columnAgrees .a (g.record 10) r12 && columnAgrees .b (g.record 11) r12
    && doseFlagsGood g.queue r9 (g.record 13) (g.record 14)

/-! ## The restore (R189) -/

/-- The stage record that record 9 carries, its timers in the places of their stage (R189). A drain timer at or beyond
the drain timeout has been judged before (R74). A head marked cancelling in a stage other than DRAIN is loaded as it is, and
its stage runs on (DESIGN CHOICE, log 71). A stall timer above the fill stall time, and a drain timer above its ceiling, are
loaded as they are: R188 bounds neither (DESIGN CHOICE, log 76). -/
def imageStage (r9 : List Byte) (st : Stage) (drainTimeout : Nat) : StageRecord :=
  let t := imageTimer r9 * Config.tenth
  { stage := st
    runMark := if bitAt r9 1 0 then .resumed else .new
    stallTimer := if st = .fill then t else 0
    heatTimer := if st = .circulate then t else 0
    holdTimer := if st = .hold then t else 0
    drainTimer := if st = .drain then t else 0
    timeoutSpent := decide (st = .drain) && decide (drainTimeout * Config.second ≤ t)
    thermostat := bitAt r9 1 1
    captured := (capturedOfCode ((byteAt r9 1 / 16) % 4)).getD .none
    doseBegun := bitAt r9 1 2
    repeats := byteAt r9 2
    cancelling := bitAt r9 1 3 }

/-- The DRY record that record 9 carries (R189). -/
def imageDry (r9 : List Byte) (st : Stage) : DryRecord :=
  let t := imageTimer r9 * Config.tenth
  { condense := if st = .condense then t else 0
    attempt := byteAt r9 6 % 4
    attState :=
      (match (byteAt r9 6 / 4) % 4 with
       | 1 => .requested
       | 3 => .resting
       | _ => .none)
    window := 0
    rest := if st = .opening then t else 0
    vent := if st = .vent then t else 0
    openedBy := (openedByOfCode ((byteAt r9 6 / 16) % 4)).getD .none }

/-- The queue is loaded, its setpoints lowered to the maximum in effect (R52, R189; DESIGN CHOICE, log 21). The parity of the
machine profile is checked at every restore, also of a queue with no WASH record (R174; DESIGN CHOICE, log 81). -/
def State.loadQueue (s : State) (g : Staging) : State :=
  let s := s.useProfile .machine
  { s with eng.queue := g.queue.map (fun p => p.lowerSetpoint s.machine.maxSetpoint) }

/-- The running head is loaded, SUSPENDED by RESTORED, and by DOOR where the door of a WASH or DRAIN head is not LATCHED
(R134, R189). -/
def State.loadHead (s : State) (r9 : List Byte) (st : Stage) : State :=
  let s :=
    { s with
      eng.head := some (imageStage r9 st s.machine.drainTimeout)
      eng.state := .suspended
      eng.susp := { SuspSet.empty with restored := true } }
  match s.dryHead with
  | some _ => { s with door.dry := some (imageDry r9 st) }
  | none => if s.door.state = .latched then s else { s with eng.susp := s.eng.susp.put .door true }

/-- A column as its record carries it (R189). -/
def imageColumn (p : SoftenerProfile) (r : List Byte) : Column :=
  Column.judgeDue
    { state := (columnStateOfCode (byteAt r 0)).getD .offline
      cap := min (wordAt r 2) p.rated
      due := false
      saltReduced := bitAt r 1 1 } p.reserve

/-- The regeneration as record 12 carries it (R189). -/
def imageRegen (r12 : List Byte) : Option Regen :=
  match regenStageOfCode (byteAt r12 1) with
  | none => none
  | some st =>
    if byteAt r12 0 = 0 then none
    else
      some
        { column := if byteAt r12 0 = 1 then .a else .b
          stage := st
          flowing := false
          volume := wordAt r12 2
          soakTimer := wordAt r12 4 * Config.tenth }

/-- The softener is loaded, held by RESTORED (R189). -/
def State.loadSoftener (s : State) (g : Staging) : State :=
  let s := s.useProfile .softener
  let r12 := g.record 12
  { s with
    soft.colA := imageColumn s.softener (g.record 10)
    soft.colB := imageColumn s.softener (g.record 11)
    soft.regen := imageRegen r12
    soft.rf := wordAt r12 7
    soft.rl := wordAt r12 9
    soft.exhaustedMark := bitAt r12 11 0
    soft.flipTried := bitAt r12 11 1
    soft.route := (routeOfCode (byteAt r12 12)).getD .unset
    soft.tLast := none
    soft.vFill := wordAt (g.record 9) 7
    soft.u := wordAt (g.record 9) 9
    soft.hold := { mains := false, restored := true } }

/-- A reservoir is loaded, its estimate lowered to the capacity in effect (R128). -/
def State.loadReservoir (s : State) (r : Reservoir) (rec : List Byte) : State :=
  let s := s.useProfile (dosingProfileId r)
  let estimate := be32 ((rec[0]?).getD 0) ((rec[1]?).getD 0) ((rec[2]?).getD 0) ((rec[3]?).getD 0)
  s.setReservoir r
    { s.reservoir r with estimate := min estimate (s.dosingProfile r).capacity, lowSeen := bitAt rec 4 0 }

/-- The dose in flight that a reservoir's record carries, PAUSED with a dose of 0 (R128). -/
def State.loadDose (s : State) (r : Reservoir) (rec : List Byte) : State :=
  if bitAt rec 4 1 then
    { s with
      dosing.dose :=
        some
          { reservoir := r
            tag := s.headTag
            dose := 0
            total := byteAt rec 5
            done := byteAt rec 6
            state := .paused
            timer := 0 } }
  else s

/-- The totals and the program flags are loaded; the total fill volume becomes 0 (R189). The clock of a restored cycle
stands still until the cycle resumes (R53). -/
def State.loadTotals (s : State) (r15 : List Byte) : State :=
  { s with
    eng.totals :=
      { fillVolume := 0
        extraRinses := wordAt r15 0
        doses := wordAt r15 2
        clock := wordAt r15 4 * 65536 + wordAt r15 6
        part := 0
        held := s.underWay }
    chan.flags := (r15[8]?).getD 0 }

/-- MAINS joins the sets where mains is ABSENT at the restore (R189). -/
def State.loadMains (s : State) : State :=
  if s.arb.zc.presence = .absent then
    { s with
      soft.hold := { s.soft.hold with mains := true }
      eng.susp := if s.eng.state = .suspended then s.eng.susp.put .mains true else s.eng.susp }
  else s

/-- A misaligned service column calls for a SET move, in place of any move; else a WAITING move turns DRIVING
(R86, R189; DESIGN CHOICE, log 31). -/
def State.restoreMove (s : State) : State :=
  match s.serviceColumn with
  | some c =>
    if s.soft.position = c then s.wakeMove
    else State.createMove { s with soft.move := none } .set c
  | none => s.wakeMove

/-- SENSOR_LOST is judged where a running head has been loaded (R168). -/
def State.restoreSensors (s : State) (running : Bool) : State := if running then s.judgeSensorsNow else s

/-- An image is applied as one event (R189; DESIGN CHOICE, log 21). -/
def State.restore (s : State) (g : Staging) (r15 : List Byte) : State :=
  let stage := stageOfCode (byteAt (g.record 9) 0)
  let s := State.pollingStart { s with link.mode := .run, link.staging := .empty }
  let s := s.loadQueue g
  let s :=
    match stage with
    | some st => s.loadHead (g.record 9) st
    | none => s
  let s := s.loadSoftener g
  let s := (s.loadReservoir .det (g.record 13)).loadReservoir .rinse (g.record 14)
  let s := (s.loadDose .det (g.record 13)).loadDose .rinse (g.record 14)
  let s := (s.loadTotals r15).loadMains.restoreMove
  (s.judgeLeak.restoreSensors stage.isSome).markEval

end Sys2Proof.Machine
end

