-- ==== Sys2Proof/Machine/Timers.lean ====
section
/-! DEFINITION. When each timer runs, and its limit: shared by the events that a timer raises and by the idle step. -/

namespace Sys2Proof.Machine

/-- The stall timer runs: RUNNING in FILL with the inlet granted to the fill (R61). -/
def State.stallRuns (s : State) : Bool := s.runningIn .fill && s.inletTo .fill

/-- The heat timer runs: RUNNING in CIRCULATE with HEATER granted to the engine (R65). -/
def State.heatRuns (s : State) : Bool :=
  s.runningIn .circulate && (s.load .heater).own.isSome && s.granted .heater

/-- The stroke timer runs: STROKING, RUNNING in CIRCULATE or HOLD, the pump granted (R119). -/
def State.strokeRuns (s : State) (d : Dose) : Bool :=
  decide (d.state = .stroking) && (s.runningIn .circulate || s.runningIn .hold) && s.granted (pumpOf d.reservoir)

/-- The travel timer runs: a DRIVING move with SELECTOR_VALVE granted (R86). -/
def State.travelRuns (s : State) (m : SelectorMove) : Bool := m.driving && s.granted .selectorValve

/-- The pulse time counts while ROUTE_VALVE is granted to the softener (R89). -/
def State.pulseRuns (s : State) : Bool := (s.load .routeValve).own.isSome && s.granted .routeValve

/-- The soak timer runs: REGEN_SOAK with an empty hold set (R106). -/
def State.soakRuns (s : State) (r : Regen) : Bool := decide (r.stage = .soak) && s.soft.hold.isEmpty

/-- The rest timer runs: RUNNING in OPENING with the attempt RESTING (R140). -/
def State.restRuns (s : State) : Bool := s.runningIn .opening && decide (s.attemptState = .resting)

/-- The fill stall time in effect (R61). -/
def State.stallLimit (s : State) : Nat := s.machine.fillStall * Config.second

/-- The drain timeout in effect (R74). -/
def State.drainLimit (s : State) : Nat := s.machine.drainTimeout * Config.second

/-- The stroke period in effect (R119). -/
def State.strokeLimit (s : State) (r : Reservoir) : Nat := (s.dosingProfile r).strokePeriod * Config.msec

/-- The soak time in effect (R106). -/
def State.soakLimit (s : State) : Nat := s.softener.soakTime * Config.second

/-- The 1.0 s of a route pulse (R89) and of the rest between two attempts (R140). -/
def pulseLimit : Nat := Config.second
def restLimit : Nat := Config.second

/-- The 3.0 s of the settle timer (R135). -/
def settleLimit : Nat := 3 * Config.second

/-- The 1.5 s of an attempt window (R140). -/
def windowLimit : Nat := 15 * Config.tenth

/-- The 50 ms of a debounced input (R85, R130). -/
def debounceLimit : Nat := 50 * Config.msec

/-- The highest count of the drain timer, 65535 s (R56). -/
def drainCeiling : Nat := 65535 * Config.second

/-- When the next crossing is missed: 12.0 ms after the last accepted crossing, and in PRESENT each 10.0 ms after that
(R162). -/
def ZeroCross.missDue (z : ZeroCross) (now : Nat) : Bool :=
  match z.last with
  | none => false
  | some t =>
    match z.presence with
    | .present => decide (t + 12 * Config.msec + z.misses * (10 * Config.msec) ≤ now)
    | _ => decide (0 < z.run) && decide (t + 12 * Config.msec ≤ now)

end Sys2Proof.Machine
end

