-- ==== Sys2Proof/Machine/Clock.lean ====
section
/-! DEFINITION. The idle step (DESIGN CHOICE, log 1). With no command waiting, outstanding reports of the arbiter are raised
as commands; else the next of the events that have fallen due is raised, if it is due still; else 0.1 ms passes, and every
timer that runs counts it. Events that fall due together are taken in a free order (DESIGN CHOICE, log 3). -/

namespace Sys2Proof.Machine

/-! ## Time passes -/

/-- The stage timers of the head (R56). -/
def State.tickHead (s : State) (h : StageRecord) : StageRecord :=
  { h with
    stallTimer := h.stallTimer + s.stallRuns.toNat
    heatTimer := h.heatTimer + s.heatRuns.toNat
    holdTimer := h.holdTimer + (s.runningIn .hold).toNat
    drainTimer := min drainCeiling (h.drainTimer + (s.runningIn .drain).toNat) }

/-- The DRY timers (R136). -/
def State.tickDry (s : State) (d : DryRecord) : DryRecord :=
  { d with
    condense := d.condense + (s.runningIn .condense).toNat
    window := d.window + s.pushing.toNat
    rest := d.rest + s.restRuns.toNat
    vent := d.vent + (s.runningIn .vent).toNat }

/-- A pending change of an input: it counts while the level differs from the debounced reading (R130). -/
def tickPending (differs : Bool) (p : Option Nat) : Option Nat :=
  if differs then some ((p.getD 0) + 1) else none

/-- CSEL reads high with the selector at A (05 5.2). -/
def selectorLevel (side : Side) : Bool := decide (side = .a)

/-- The door unit's timers and pending changes (R85, R130, R135). -/
def State.tickDoor (s : State) : DoorUnit :=
  let d := s.door
  { d with
    settle := d.settle.map (· + 1)
    dry := d.dry.map s.tickDry
    closedPending := tickPending (d.inputs.doorClosed != d.closed) d.closedPending
    latchPending := tickPending (d.inputs.latchEngaged != d.latch) d.latchPending
    selectorPending := tickPending (d.inputs.selectorHigh != selectorLevel s.soft.position) d.selectorPending }

/-- The softener's timers (R86, R89, R106). -/
def State.tickSoftener (s : State) : SoftenerUnit :=
  { s.soft with
    move := s.soft.move.map (fun m => { m with timer := m.timer + (s.travelRuns m).toNat })
    pulse := s.soft.pulse.map (fun p => { p with timer := p.timer + s.pulseRuns.toNat })
    regen := s.soft.regen.map (fun r => { r with soakTimer := r.soakTimer + (s.soakRuns r).toNat }) }

/-- Every timer that runs counts one step. -/
def State.advance (s : State) : State :=
  { s with
    now := s.now + 1
    eng.head := s.eng.head.map s.tickHead
    eng.totals := { s.eng.totals with part := s.eng.totals.part + s.clockRuns.toNat }
    door := s.tickDoor
    soft := s.tickSoftener
    dosing.dose := s.dosing.dose.map (fun d => { d with timer := d.timer + (s.strokeRuns d).toNat })
    bus.tx := s.bus.tx.map (fun t => { t with timer := t.timer + t.waiting.toNat })
    bus.byteTimer := s.bus.byteTimer + (!s.bus.heard.isEmpty).toNat
    trip.flowQuiet := s.trip.flowQuiet.map (fun t => t + s.trip.latch.toNat)
    link.tagPart := s.link.tagPart + 1
    link.byteTimer := s.link.byteTimer + (!s.link.heard.isEmpty).toNat }

/-- The profiles whose fields limit a timer that runs now (R61, R74, R106, R119). -/
def State.limitProfiles (s : State) : List ProfileId :=
  let draining := s.runningIn .drain && decide (s.eng.head.map StageRecord.timeoutSpent = some false)
  (if s.stallRuns || draining then [.machine] else [])
    ++ (match s.soft.regen with
        | none => []
        | some r => if s.soakRuns r then [.softener] else [])
    ++ (match s.dosing.dose with
        | none => []
        | some d => if s.strokeRuns d then [dosingProfileId d.reservoir] else [])

/-- Each limit is used whenever its timer counts, and its profile is checked with it (R119, R174; DESIGN CHOICE,
log 47). -/
def State.useLimits (s : State) : State := s.limitProfiles.foldl State.useProfile s

/-! ## What falls due -/

/-- A command where its condition holds. -/
def dueIf (b : Bool) (c : Instr) : List Instr := if b then [c] else []

/-- Events of the head's stage timers. A minimum time of 0 is reached at the first step of time (R73; DESIGN CHOICE,
log 1). -/
def State.dueStage (s : State) : List Instr :=
  match s.eng.head with
  | none => []
  | some h =>
    dueIf (s.stallRuns && decide (s.stallLimit ≤ h.stallTimer)) .fillStalled
      ++ (match s.washHead with
          | none => []
          | some w =>
            dueIf (s.heatRuns && decide (w.heatTimeout * Config.second ≤ h.heatTimer)) .setpointMissed
              ++ dueIf (s.runningIn .hold && decide (h.holdTimer = max 1 (w.minHold * Config.second))) .minimumHoldElapsed
              ++ dueIf (s.runningIn .hold && decide (w.holdTime * Config.second ≤ h.holdTimer)) .holdTimeExpiry)
      ++ (match s.drainHead with
          | none => []
          | some d =>
            dueIf (s.runningIn .drain && decide (h.drainTimer = max 1 (d.minTime * Config.second)))
              .drainMinimumTimeReached
              ++ dueIf (s.runningIn .drain && !h.timeoutSpent && decide (s.drainLimit ≤ h.drainTimer)) .drainTimeout)

/-- Events of the DRY timers. -/
def State.dueDry (s : State) : List Instr :=
  match s.door.dry, s.dryHead with
  | some d, some f =>
    dueIf (s.runningIn .condense && decide (f.condenseMax * Config.second ≤ d.condense)) .condenseTimeout
      ++ dueIf (s.pushing && s.door.closed && decide (windowLimit ≤ d.window)) .attemptWindowExpiry
      ++ dueIf (s.restRuns && decide (restLimit ≤ d.rest)) .restTimerExpiry
      ++ dueIf (s.runningIn .vent && decide (f.ventTime * Config.second ≤ d.vent)) .ventTimeExpiry
  | _, _ => []

/-- Events of the door switches, the settle timer and the selector switch. -/
def State.dueDoor (s : State) : List Instr :=
  let held := fun (p : Option Nat) => decide (debounceLimit ≤ p.getD 0)
  dueIf (held s.door.closedPending) (.doorSwitchDebounced .closed s.door.inputs.doorClosed)
    ++ dueIf (held s.door.latchPending) (.doorSwitchDebounced .latch s.door.inputs.latchEngaged)
    ++ dueIf (held s.door.selectorPending)
      (.selectorPositionChange (if s.door.inputs.selectorHigh then .a else .b))
    ++ dueIf (decide (settleLimit ≤ s.door.settle.getD 0)) .settleTimerExpiry

/-- Events of the softener's timers and of the stroke timer. -/
def State.dueWater (s : State) : List Instr :=
  (match s.soft.move with
   | none => []
   | some m => dueIf (s.travelRuns m && decide (m.limit * Config.second ≤ m.timer)) .selectorTravelTimeout)
    ++ (match s.soft.pulse with
        | none => []
        | some p => dueIf (s.pulseRuns && decide (pulseLimit ≤ p.timer)) .routePulseEnd)
    ++ (match s.soft.regen with
        | none => []
        | some r => dueIf (s.soakRuns r && decide (s.soakLimit ≤ r.soakTimer)) .soakTimeExpiry)
    ++ (match s.dosing.dose with
        | none => []
        | some d => dueIf (s.strokeRuns d && decide (s.strokeLimit d.reservoir ≤ d.timer)) .strokeComplete)

/-- Events of the sump bus (R30, R32). -/
def State.dueBus (s : State) : List Instr :=
  (List.finRange 16).flatMap (fun i =>
      dueIf
        (s.polling && s.bus.poll[i].enabled &&
          (match s.bus.run[i].due with
           | none => false
           | some t => decide (t ≤ s.now)))
        (.pollDue i))
    ++ (match s.bus.tx with
        | none => []
        | some t => dueIf (t.waiting && decide (t.timeout * Config.msec ≤ t.timer)) .sumpResponseTimeout)

/-- Too long a time since the last byte of a frame that has started, on either line (R25, R191). -/
def State.dueByte (s : State) : List Instr :=
  dueIf (!s.link.heard.isEmpty && decide (byteLimit < s.link.byteTimer)) (.linkByteTimeout s.link.heard)
    ++ dueIf (!s.bus.heard.isEmpty && decide (sumpByteLimit < s.bus.byteTimer)) (.sumpByteGap s.bus.heard)

/-- Every event that is due now. -/
def State.dueEvents (s : State) : List Instr :=
  dueIf (decide (resolutionPeriod s.link.resolution ≤ s.link.tagPart)) .timeTagTick
    ++ dueIf (s.clockRuns && decide (Config.second ≤ s.eng.totals.part)) .cycleClockTick
    ++ dueIf (s.arb.zc.missDue s.now) .zeroCrossMissed
    ++ s.dueBus ++ s.dueStage ++ s.dueDry ++ s.dueDoor ++ s.dueWater ++ s.dueByte

/-- The reports of the arbiter that a block has still to take (R163, R164). -/
def State.dueReports (s : State) : List Instr :=
  s.arb.reports.map Instr.grantReport
    ++ dueIf s.arb.mainsReports.lossEngine .mainsLossEngine ++ dueIf s.arb.mainsReports.lossSoftener .mainsLossSoftener
    ++ dueIf s.arb.mainsReports.lossSnapshot .mainsLossSnapshot
    ++ dueIf s.arb.mainsReports.backEngine .mainsBackEngine ++ dueIf s.arb.mainsReports.backSoftener .mainsBackSoftener

/-- Reports join the queue, two or more in a free order (DESIGN CHOICE, log 3). -/
def State.raise (s : State) (l : List Instr) : State :=
  match l with
  | [] => s
  | [c] => { s with pending := s.pending ++ [c] }
  | l => { s.draw with pending := s.pending ++ freelyOrdered (Config.dueOrder s.draws) l }

/-- Events that fall due together are noted, two or more in a free order (DESIGN CHOICE, log 3). -/
def State.fallDue (s : State) (l : List Instr) : State :=
  match l with
  | [] => { s with due := [] }
  | [c] => { s with due := [c] }
  | l => { s.draw with due := freelyOrdered (Config.dueOrder s.draws) l }

/-- The next of the events noted joins the queue, if it is due still: an event taken before it may have ended its stage
or stopped its timer (R120, R121; DESIGN CHOICE, log 3). -/
def State.raiseNext (s : State) (c : Instr) (rest : List Instr) : State :=
  { s with due := rest, pending := if c ∈ s.dueEvents then s.pending ++ [c] else s.pending }

/-- 0.1 ms passes. -/
def State.timePasses (s : State) : State :=
  let s := s.advance.useLimits.settle
  s.fallDue s.dueEvents

/-- The step on an empty queue (DESIGN CHOICE, log 1). -/
def State.idle (s : State) : State :=
  if s.dueReports.isEmpty then
    match s.due with
    | [] => s.timePasses
    | c :: rest => s.raiseNext c rest
  else s.raise s.dueReports

end Sys2Proof.Machine
end

