-- ==== Sys2Proof/Machine/Resets.lean ====
section
/-! DEFINITION. The two resets, block by block, and the two commands that make them (R23, R39, R55, R110, R129, R145,
R165, R177, R190, R203, R204). -/

namespace Sys2Proof.Machine

/-! ## Power-on -/

/-- The side that CSEL reads (05 5.2). -/
def sideOfLevel (high : Bool) : Side := if high then .a else .b

/-- The door unit after either reset, its readings taken from the inputs (R145). -/
def doorAtReset (pins : InputPins) : DoorUnit where
  inputs := pins
  closed := pins.doorClosed
  latch := pins.latchEngaged
  closedPending := none
  latchPending := none
  selectorPending := none
  state := formDoor pins.doorClosed pins.latchEngaged .open false
  settle := none
  dry := none

/-- The state after a power-on with the given input levels: every block at its power-on values. The clock and the draw
counter of the model, and the commands that wait, go on. -/
def State.powerOn (s : State) (pins : InputPins) : State :=
  { State.reset with
    soft := { State.reset.soft with position := sideOfLevel pins.selectorHigh }
    door := doorAtReset pins
    now := s.now
    draws := s.draws
    pending := s.pending }

/-! ## Soft reset -/

/-- The channel unit keeps its tables (R23). -/
def ChannelUnit.softReset (c : ChannelUnit) : ChannelUnit :=
  { c with run := Vector.replicate 32 .blank, flags := 0 }

/-- The bus controller keeps the poll list (R39). -/
def BusUnit.softReset (b : BusUnit) : BusUnit :=
  { b with
    run := Vector.replicate 16 .blank
    tx := none
    sats := Vector.replicate 4 .blank
    sent := []
    heard := []
    byteTimer := 0 }

/-- The engine keeps its profile (R55). -/
def EngineUnit.softReset (e : EngineUnit) : EngineUnit :=
  { e with queue := [], state := .idle, head := none, susp := .empty, totals := .zero }

/-- A column in a REGEN stage becomes STANDBY_EXHAUSTED (R110). -/
def Column.softReset (c : Column) : Column :=
  match c.state with
  | .brine => { c with state := .exhausted }
  | .soak => { c with state := .exhausted }
  | .rinse => { c with state := .exhausted }
  | _ => c

/-- The softener keeps its columns, residues, per-fill accounting and profile (R110). -/
def SoftenerUnit.softReset (t : SoftenerUnit) (position : Side) : SoftenerUnit :=
  { t with
    colA := t.colA.softReset
    colB := t.colB.softReset
    position := position
    move := none
    route := if t.pulse.isSome then .unset else t.route
    holder := .none
    progress := .selecting
    waiting := false
    pulse := none
    tLast := none
    stray := 0
    fallback := false
    regen := none
    hold := .empty
    saltLow := false }

/-- The dosing unit keeps its estimates, low-seen flags and profiles (R129). -/
def DosingUnit.softReset (d : DosingUnit) : DosingUnit :=
  { d with det := { d.det with lowTold := false }, rinse := { d.rinse with lowTold := false }, dose := none }

/-- The arbiter keeps its tables, B and the zero-cross watch; every request ends and no owner is told (R165). -/
def ArbiterUnit.softReset (a : ArbiterUnit) : ArbiterUnit :=
  { a with
    loads := Vector.replicate 11 .idle
    flood := false
    reports := []
    evalDue := false
    mainsReports := .none }

/-- The trip unit keeps the latch, its record, the table mark and the lost role (R177). -/
def TripUnit.softReset (t : TripUnit) : TripUnit :=
  { t with
    flowQuiet := if t.latch then some 0 else none
    leakTold := false
    integrity := none
    more := false
    faultedMachine := false
    faultedSoftener := false
    faultedDet := false
    faultedRinse := false }

/-- The link port keeps the threshold, the time tag with its resolution, and the image buffer (R190, R204). -/
def LinkUnit.softReset (l : LinkUnit) : LinkUnit :=
  { l with
    mode := .standby
    notices := []
    overrun := false
    attn := false
    heard := []
    byteTimer := 0
    rxOff := false
    response := none
    resetPending := false
    staging := .empty }

/-- A SET move toward the service column where the position is not its side (R110). -/
def State.resetMove (s : State) : State :=
  match s.serviceColumn with
  | some c => if s.soft.position = c then s else s.createMove .set c
  | none => s

/-- A soft reset across every block as one event (R203). The SET move of R110 is created after the notice queue is emptied, so
what a damaged softener profile posts at it stands queued (R204; DESIGN CHOICE, log 72). -/
def State.softReset (s : State) (pins : InputPins) : State :=
  State.resetMove
    { s with
      chan := s.chan.softReset
      bus := s.bus.softReset
      eng := s.eng.softReset
      soft := s.soft.softReset (sideOfLevel pins.selectorHigh)
      dosing := s.dosing.softReset
      door := doorAtReset pins
      arb := s.arb.softReset
      trip := s.trip.softReset
      link := s.link.softReset }

/-! ## The two commands -/

/-- SOFT_RESET (R203): at the last stop bit of the RESET response (DESIGN CHOICE, log 30). -/
def execSoftReset (pins : InputPins) (s : State) : Host.Outcome State Fault Refusal :=
  .next (s.softReset pins).settle

/-- POWER_ON (R204): supply or NRST. -/
def execPowerOn (pins : InputPins) (s : State) : Host.Outcome State Fault Refusal := .next (s.powerOn pins)

end Sys2Proof.Machine
end

