-- ==== Sys2Proof/Machine/Events.lean ====
section
/-! DEFINITION. The commands that are events of the part's own: its lines, its timers, its switches, the arbiter's
reports and the mains. A command that names the expiry of a timer says that the timer has reached its limit: it acts
where that timer runs, and else finds its stage ended and has no effect (DESIGN CHOICE, log 2). -/

namespace Sys2Proof.Machine

/-! ## The appliance link and the time tag -/

/-- LINK_FRAME_DISCARDED: no response, no change of state, no notice (R191). -/
def execLinkFrameDiscarded (_bytes : List Byte) (s : State) : Host.Outcome State Fault Refusal := .next s

/-- LINK_BYTE_TIMEOUT: the partial frame is discarded and hunting resumes (R191). -/
def execLinkByteTimeout (_bytes : List Byte) (s : State) : Host.Outcome State Fault Refusal :=
  .next { s with link.heard := [], link.byteTimer := 0 }

/-- RESPONSE_END: the receiver hunts again (R191). The end of the response to RESET is the soft reset itself (R203). -/
def execResponseEnd (s : State) : Host.Outcome State Fault Refusal :=
  .next (if s.link.resetPending then s else { s with link.rxOff := false, link.response := none })

/-- The time tag rises by 1 and a new period starts (R202). -/
def State.tagTick (s : State) : State := { s with link.timeTag := s.link.timeTag + 1, link.tagPart := 0 }

/-- TIME_TAG_TICK (R202). -/
def execTimeTagTick (s : State) : Host.Outcome State Fault Refusal := .next s.tagTick

/-! ## The sump bus -/

/-- POLL_DUE (R30, R31). -/
def execPollDue (i : Fin 16) (s : State) : Host.Outcome State Fault Refusal := .next (s.pollDue i)

/-- POLL_FRAME_END (R25, R32). -/
def execPollFrameEnd (s : State) : Host.Outcome State Fault Refusal := .next s.pollSent

/-- SUMP_FRAME_END (R26, R33 to R35, R37, R38). -/
def execSumpFrameEnd (frame : List Byte) (s : State) : Host.Outcome State Fault Refusal := .next (s.sumpFrame frame).settle

/-- SUMP_RESPONSE_TIMEOUT (R32, R34, R35, R37). -/
def execSumpResponseTimeout (s : State) : Host.Outcome State Fault Refusal := .next s.sumpTimeout.settle

/-- SUMP_BYTE_GAP: the partial frame is discarded and the attempt goes on (R25). -/
def execSumpByteGap (_bytes : List Byte) (s : State) : Host.Outcome State Fault Refusal := .next s.clearHeard

/-- SUMP_LATE_BYTES: discarded, with no change of state and no notice (R38). -/
def execSumpLateBytes (_bytes : List Byte) (s : State) : Host.Outcome State Fault Refusal := .next s

/-! ## The stage timers of a WASH or DRAIN head -/

/-- The fill stalls (R61). -/
def State.fillStall (s : State) : State :=
  if s.stallRuns then
    let s := s.useProfile .machine
    let s := s.withHead (fun h => { h with stallTimer := s.stallLimit })
    (s.post .fillStalled 3 s.headTag s.soft.vFill).addReason .noWater
  else s

/-- FILL_STALLED (R61). -/
def execFillStalled (s : State) : Host.Outcome State Fault Refusal := .next s.fillStall.settle

/-- The heat timer reaches the heat timeout (R66). -/
def State.setpointMiss (s : State) : State :=
  match s.washHead with
  | none => s
  | some w =>
    if s.heatRuns then
      let s := s.withHead (fun h => { h with heatTimer := w.heatTimeout * Config.second })
      (s.post .setpointMissed 3 s.headTag (s.roleValue .tubTemp)).enterHold w
        ((s.eng.head.map StageRecord.thermostat).getD false)
    else s

/-- SETPOINT_MISSED (R66). -/
def execSetpointMissed (s : State) : Host.Outcome State Fault Refusal := .next s.setpointMiss.settle

/-- The hold timer reaches the minimum hold; the exit test waits for the next update (R68, R70). -/
def State.minimumHold (s : State) : State :=
  match s.washHead with
  | none => s
  | some w =>
    if s.runningIn .hold then
      s.withHead (fun h => { h with holdTimer := max h.holdTimer (w.minHold * Config.second) })
    else s

/-- MINIMUM_HOLD_ELAPSED (R68). -/
def execMinimumHoldElapsed (s : State) : Host.Outcome State Fault Refusal := .next s.minimumHold

/-- The hold timer reaches the hold time: HOLD ends (R68, R71). -/
def State.holdExpiry (s : State) : State :=
  match s.washHead with
  | none => s
  | some w =>
    if s.runningIn .hold then
      (s.withHead (fun h => { h with holdTimer := w.holdTime * Config.second })).endHold w
    else s

/-- HOLD_TIME_EXPIRY (R68). -/
def execHoldTimeExpiry (s : State) : Host.Outcome State Fault Refusal := .next s.holdExpiry.settle

/-- The drain timer reaches the drain minimum time (R73). -/
def State.drainMinimum (s : State) : State :=
  match s.drainHead with
  | none => s
  | some d =>
    if s.runningIn .drain then
      (s.withHead (fun h => { h with drainTimer := max h.drainTimer (d.minTime * Config.second) })).judgeDrain
    else s

/-- DRAIN_MINIMUM_TIME_REACHED (R73). -/
def execDrainMinimumTimeReached (s : State) : Host.Outcome State Fault Refusal := .next s.drainMinimum.settle

/-- The drain timer reaches the drain timeout, once in each drain (R74). -/
def State.drainExpiry (s : State) : State :=
  match s.eng.head, s.drainHead with
  | some h, some d =>
    if s.runningIn .drain && !h.timeoutSpent then
      let s := s.useProfile .machine
      (s.withHead (fun h =>
        { h with drainTimer := max h.drainTimer s.drainLimit, timeoutSpent := true })).drainTimeoutJudge d
    else s
  | _, _ => s

/-- DRAIN_TIMEOUT (R74). -/
def execDrainTimeout (s : State) : Host.Outcome State Fault Refusal := .next s.drainExpiry.settle

/-- The cycle clock rises by 1, saturating (R53). -/
def State.clockTick (s : State) : State :=
  if s.clockRuns then
    { s with eng.totals := { s.eng.totals with clock := min 4294967295 (s.eng.totals.clock + 1), part := 0 } }
  else s

/-- CYCLE_CLOCK_TICK (R53). -/
def execCycleClockTick (s : State) : Host.Outcome State Fault Refusal := .next s.clockTick

/-! ## The dosing unit -/

/-- The stroke timer reaches the stroke period (R119). -/
def State.strokeExpiry (s : State) : State :=
  match s.dosing.dose with
  | none => s
  | some d => if s.strokeRuns d then s.strokeDone d else s

/-- STROKE_COMPLETE (R119). -/
def execStrokeComplete (s : State) : Host.Outcome State Fault Refusal := .next s.strokeExpiry.settle

/-! ## The softener unit -/

/-- The selector switch as CSEL shows it from a debounced change on. -/
def DoorUnit.setSelector (d : DoorUnit) (side : Side) : DoorUnit :=
  { d with selectorPending := none, inputs := { d.inputs with selectorHigh := selectorLevel side } }

/-- A debounced reading of the selector switch; a reading that is the position already changes nothing (R85). -/
def State.selectorReading (s : State) (side : Side) : State :=
  let s := { s with door := s.door.setSelector side }
  if s.soft.position = side then s else s.positionChange side

/-- SELECTOR_POSITION_CHANGE (R85, R86, R91). -/
def execSelectorPositionChange (side : Side) (s : State) : Host.Outcome State Fault Refusal :=
  .next (s.selectorReading side).settle

/-- The travel timer reaches the travel timeout (R86). -/
def State.travelExpiry (s : State) : State :=
  match s.soft.move with
  | none => s
  | some m => if s.travelRuns m then s.travelTimeout m else s

/-- SELECTOR_TRAVEL_TIMEOUT (R86). -/
def execSelectorTravelTimeout (s : State) : Host.Outcome State Fault Refusal := .next s.travelExpiry.settle

/-- The pulse time reaches 1.0 s (R89). -/
def State.pulseExpiry (s : State) : State :=
  match s.soft.pulse with
  | none => s
  | some p => if s.pulseRuns then s.pulseEnd p else s

/-- ROUTE_PULSE_END (R89, R92). -/
def execRoutePulseEnd (s : State) : Host.Outcome State Fault Refusal := .next s.pulseExpiry.settle

/-- The soak timer reaches the soak time (R106). -/
def State.soakExpiry (s : State) : State :=
  match s.soft.regen with
  | none => s
  | some r =>
    if s.soakRuns r then
      let s := s.useProfile .softener
      s.soakEnd { r with soakTimer := s.soakLimit }
    else s

/-- SOAK_TIME_EXPIRY (R106). -/
def execSoakTimeExpiry (s : State) : Host.Outcome State Fault Refusal := .next s.soakExpiry.settle

/-! ## The door unit -/

/-- DOOR_SWITCH_DEBOUNCED (R130 to R135, R138 to R142). -/
def execDoorSwitchDebounced (sw : DoorSwitch) (level : Bool) (s : State) : Host.Outcome State Fault Refusal :=
  .next (s.doorChange sw level).settle

/-- The settle timer reaches 3.0 s (R135). -/
def State.settleExpiry (s : State) : State :=
  if s.door.settle.isSome then State.removeReason { s with door.settle := none } .door else s

/-- SETTLE_TIMER_EXPIRY (R135). -/
def execSettleTimerExpiry (s : State) : Host.Outcome State Fault Refusal := .next s.settleExpiry.settle

/-- The condense timer reaches the condense maximum time (R137). -/
def State.condenseExpiry (s : State) : State :=
  match s.dryHead with
  | none => s
  | some f =>
    if s.runningIn .condense then
      (s.withDry (fun d => { d with condense := f.condenseMax * Config.second })).enterOpening
    else s

/-- CONDENSE_TIMEOUT (R137). -/
def execCondenseTimeout (s : State) : Host.Outcome State Fault Refusal := .next s.condenseExpiry.settle

/-- The window timer reaches 1.5 s with the door closed (R140). -/
def State.windowExpiry (s : State) : State :=
  match s.dryHead, s.door.dry with
  | some f, some d => if s.pushing && s.door.closed then finishIf (s.attemptFailed f d) else s
  | _, _ => s

/-- ATTEMPT_WINDOW_EXPIRY (R140). -/
def execAttemptWindowExpiry (s : State) : Host.Outcome State Fault Refusal := .next s.windowExpiry.settle

/-- The rest timer reaches 1.0 s: the second attempt is requested, and the rest timer reads 0 in it (R140; DESIGN CHOICE,
log 57). -/
def State.restExpiry (s : State) : State :=
  if s.restRuns then
    (s.withDry (fun d => { d with attempt := 2, attState := .requested, rest := 0 })).request .doorActuator 0
  else s

/-- REST_TIMER_EXPIRY (R140). -/
def execRestTimerExpiry (s : State) : Host.Outcome State Fault Refusal := .next s.restExpiry.settle

/-- The vent timer reaches the vent time: the phase completes (R142). -/
def State.ventExpiry (s : State) : State := if s.runningIn .vent then finishIf (s, true) else s

/-- VENT_TIME_EXPIRY (R142). -/
def execVentTimeExpiry (s : State) : Host.Outcome State Fault Refusal := .next s.ventExpiry.settle

/-! ## The arbiter and the mains -/

/-- An outstanding report reaches the owner of a load (R149, R163; DESIGN CHOICE, log 10). -/
def State.takeReport (s : State) (l : LoadId) : State :=
  if s.arb.reports.contains l then
    State.ownerReport { s with arb.reports := s.arb.reports.erase l } l
  else s

/-- GRANT_REPORT (R149). -/
def execGrantReport (l : LoadId) (s : State) : Host.Outcome State Fault Refusal := .next (s.takeReport l).settle

/-- ZERO_CROSS_PULSE (R162, R164). -/
def execZeroCrossPulse (s : State) : Host.Outcome State Fault Refusal := .next s.zeroCross.settle

/-- ZERO_CROSS_MISSED (R162, R163). -/
def execZeroCrossMissed (s : State) : Host.Outcome State Fault Refusal := .next s.missCrossing.settle

/-- MAINS_LOSS_ENGINE: MAINS joins the suspension set of a cycle under way (R183). -/
def execMainsLossEngine (s : State) : Host.Outcome State Fault Refusal :=
  .next (State.addReason { s with arb.mainsReports := { s.arb.mainsReports with lossEngine := false } } .mains).settle

/-- MAINS_LOSS_SOFTENER: MAINS joins the hold set (R108, R183). -/
def execMainsLossSoftener (s : State) : Host.Outcome State Fault Refusal :=
  .next
    (State.setHold { s with arb.mainsReports := { s.arb.mainsReports with lossSoftener := false } }
      { s.soft.hold with mains := true }).settle

/-- MAINS_LOSS_SNAPSHOT: the snapshot with reason MAINS (R183, R185). -/
def execMainsLossSnapshot (s : State) : Host.Outcome State Fault Refusal :=
  .next (State.snapshot { s with arb.mainsReports := { s.arb.mainsReports with lossSnapshot := false } } reasonMains)

/-- MAINS_BACK_ENGINE: MAINS leaves the suspension set (R184). -/
def execMainsBackEngine (s : State) : Host.Outcome State Fault Refusal :=
  .next (State.removeReason { s with arb.mainsReports := { s.arb.mainsReports with backEngine := false } } .mains).settle

/-- MAINS_BACK_SOFTENER: MAINS leaves the hold set (R184). -/
def execMainsBackSoftener (s : State) : Host.Outcome State Fault Refusal :=
  .next
    (State.setHold { s with arb.mainsReports := { s.arb.mainsReports with backSoftener := false } }
      { s.soft.hold with mains := false }).settle

end Sys2Proof.Machine
end

