-- ==== Sys2Proof/Machine/Tables.lean ====
section
/-! DEFINITION. The requests on tables and profiles: TBL_WRITE, TBL_READ, BANK_SWAP, PROFILE_WRITE, PROFILE_READ (R1, R2,
R27, R28, R51, R87, R112, R146, R174, R176, R195). A payload begins with its selector; a selector that is not the row's
is refused with BAD_FIELD (R194; DESIGN CHOICE, log 19). -/

namespace Sys2Proof.Machine

/-- An index of a table of n entries. -/
def indexOf (n : Nat) (b : Byte) : Option (Fin n) := if h : b.toNat < n then some ⟨b.toNat, h⟩ else none

/-- A bank selector: 0 ACTIVE, 1 SHADOW (R194). -/
def readBank (b : Byte) : Option Bank := bankOfCode b.toNat

/-- A parity check at a TBL_READ: a failed check is an integrity error (R174). -/
def State.checkEntry (s : State) (sound : Bool) (t : TableId) (bank : Bank) (index : Nat) : State :=
  if sound then s else s.integrityError t (some bank) index

/-! ## Channel table (R1) -/

/-- The SHADOW entry is replaced as a whole, with its parity (R1, 9.5). -/
def State.writeChannel (s : State) (i : Fin 32) (e : ChannelEntry) : State :=
  { s with chan.shadow := upd s.chan.shadow i { contents := e, sound := true } }

def judgeWriteChannel (payload : List Byte) (s : State) : Verdict :=
  match payload with
  | table :: index :: fields =>
    if table = 0 ∧ fields.length = channelLength then
      match indexOf 32 index, readChannel fields with
      | some i, some e => acceptBare (s.writeChannel i e)
      | _, _ => refuse s .badField
    else refuse s .badField
  | _ => refuse s .badField

/-- TBL_WRITE_CHANNEL (R1). -/
def execTblWriteChannel (payload : List Byte) (s : State) : Host.Outcome State Fault Refusal :=
  .next (s.handle 0x01 payload (judgeWriteChannel payload))

/-- A bank of the channel table. -/
def State.channelBank (s : State) : Bank → Vector (Stored ChannelEntry) 32
  | .active => s.chan.active
  | .shadow => s.chan.shadow

def judgeReadChannel (payload : List Byte) (s : State) : Verdict :=
  match payload with
  | [table, bank, index] =>
    if table = 0 then
      match readBank bank, indexOf 32 index with
      | some b, some i =>
        let e := (s.channelBank b)[i]
        acceptWith (s.checkEntry e.sound .channel b i.val) (channelBytes e.contents ++ yesNo e.sound)
      | _, _ => refuse s .badField
    else refuse s .badField
  | _ => refuse s .badField

/-- TBL_READ_CHANNEL (R1, R174). -/
def execTblReadChannel (payload : List Byte) (s : State) : Host.Outcome State Fault Refusal :=
  .next (s.handle 0x02 payload (judgeReadChannel payload))

/-! ## Curve table (R2) -/

/-- The SHADOW curve is replaced with exactly the points given, and judged (R2). -/
def State.writeCurve (s : State) (i : Fin 8) (pts : List (Nat × Int)) : State :=
  { s with chan.curvesShadow := upd s.chan.curvesShadow i { contents := Curve.judge pts, sound := true } }

def judgeWriteCurve (payload : List Byte) (s : State) : Verdict :=
  match payload with
  | table :: index :: count :: points =>
    if table = 1 ∧ points.length = 4 * count.toNat ∧ count.toNat ≤ 8 then
      match indexOf 8 index, readPoints points with
      | some i, some pts => acceptBare (s.writeCurve i pts)
      | _, _ => refuse s .badField
    else refuse s .badField
  | _ => refuse s .badField

/-- TBL_WRITE_CURVE (R2). -/
def execTblWriteCurve (payload : List Byte) (s : State) : Host.Outcome State Fault Refusal :=
  .next (s.handle 0x01 payload (judgeWriteCurve payload))

/-- A bank of the curve table. -/
def State.curveBank (s : State) : Bank → Vector (Stored Curve) 8
  | .active => s.chan.curves
  | .shadow => s.chan.curvesShadow

/-- TBL_READ of a curve: its points, the validity mark, then the parity mark. The rules name the two marks apart and fix no
order between them (R2, R174, R194; DESIGN CHOICE, log 75). -/
def judgeReadCurve (payload : List Byte) (s : State) : Verdict :=
  match payload with
  | [table, bank, index] =>
    if table = 1 then
      match readBank bank, indexOf 8 index with
      | some b, some i =>
        let c := (s.curveBank b)[i]
        acceptWith (s.checkEntry c.sound .curve b i.val)
          (counted pointBytes c.contents.points ++ yesNo c.contents.valid ++ yesNo c.sound)
      | _, _ => refuse s .badField
    else refuse s .badField
  | _ => refuse s .badField

/-- TBL_READ_CURVE (R2, R174). -/
def execTblReadCurve (payload : List Byte) (s : State) : Host.Outcome State Fault Refusal :=
  .next (s.handle 0x02 payload (judgeReadCurve payload))

/-! ## Poll list (R27, R28) -/

def judgeWritePollList (payload : List Byte) (s : State) : Verdict :=
  match payload with
  | table :: index :: fields =>
    if table = 3 ∧ fields.length = pollLength then
      if s.polling || s.bus.tx.isSome then refuse s .inUse
      else
        match indexOf 16 index, readPoll fields with
        | some i, some e => acceptBare (s.writePoll i e)
        | _, _ => refuse s .badField
    else refuse s .badField
  | _ => refuse s .badField

/-- TBL_WRITE_POLL_LIST (R27). -/
def execTblWritePollList (payload : List Byte) (s : State) : Host.Outcome State Fault Refusal :=
  .next (s.handle 0x01 payload (judgeWritePollList payload))

def judgeReadPollList (payload : List Byte) (s : State) : Verdict :=
  match payload with
  | [table, index] =>
    if table = 3 then
      match indexOf 16 index with
      | some i =>
        acceptWith s
          (pollBytes s.bus.poll[i] ++ u8 (outcomeCode s.bus.run[i].outcome) ++ yesNo s.bus.run[i].inDueSet)
      | none => refuse s .badField
    else refuse s .badField
  | _ => refuse s .badField

/-- TBL_READ_POLL_LIST (R28). -/
def execTblReadPollList (payload : List Byte) (s : State) : Host.Outcome State Fault Refusal :=
  .next (s.handle 0x02 payload (judgeReadPollList payload))

/-! ## Load table (R146) -/

/-- The SHADOW entry is replaced as a whole, with its parity (R146, 9.5). -/
def State.writeLoad (s : State) (i : Fin 11) (e : LoadEntry) : State :=
  { s with arb.shadow := upd s.arb.shadow i { contents := e, sound := true } }

def judgeWriteLoad (payload : List Byte) (s : State) : Verdict :=
  match payload with
  | table :: index :: fields =>
    if table = 2 ∧ fields.length = loadLength then
      match indexOf 11 index, readLoad index.toNat fields with
      | some i, some e => acceptBare (s.writeLoad i e)
      | _, _ => refuse s .badField
    else refuse s .badField
  | _ => refuse s .badField

/-- TBL_WRITE_LOAD (R146). -/
def execTblWriteLoad (payload : List Byte) (s : State) : Host.Outcome State Fault Refusal :=
  .next (s.handle 0x01 payload (judgeWriteLoad payload))

/-- A bank of the load table. -/
def State.loadBank (s : State) : Bank → Vector (Stored LoadEntry) 11
  | .active => s.arb.active
  | .shadow => s.arb.shadow

def judgeReadLoad (payload : List Byte) (s : State) : Verdict :=
  match payload with
  | [table, bank, index] =>
    if table = 2 then
      match readBank bank, indexOf 11 index with
      | some b, some i =>
        let e := (s.loadBank b)[i]
        acceptWith (s.checkEntry e.sound .load b i.val) (loadBytes e.contents ++ yesNo e.sound)
      | _, _ => refuse s .badField
    else refuse s .badField
  | _ => refuse s .badField

/-- TBL_READ_LOAD (R146, R174). -/
def execTblReadLoad (payload : List Byte) (s : State) : Host.Outcome State Fault Refusal :=
  .next (s.handle 0x02 payload (judgeReadLoad payload))

/-! ## Bank swap (R195) -/

/-- A set mask: bit 0 channels, bit 1 curves, bit 2 loads; not 0, and no other bit (R195). -/
def readMask (b : Byte) : Option SwapMask :=
  if 1 ≤ b.toNat ∧ b.toNat ≤ 7 then
    some { channels := b.getLsbD 0, curves := b.getLsbD 1, loads := b.getLsbD 2 }
  else none

/-- The first failure of a swap, in the order of R195. -/
def State.swapFailure (s : State) (m : SwapMask) : Option (Status × List Byte) :=
  let v := s.governingChannels m
  let chans := m.channels || m.curves
  match (if chans then offending v (s.governingCurves m) else none) with
  | some i => some (.tableInvalid, u8 (tableCode .channel) ++ u8 i.val)
  | none =>
    if chans && decide (s.link.mode = .run) && !bindsForRun v then some (.wrongMode, [])
    else
      match (if m.loads then loadFailure s.arb.shadow else none) with
      | some id => some (.tableInvalid, u8 (tableCode .load) ++ u8 id)
      | none => none

def judgeBankSwap (payload : List Byte) (s : State) : Verdict :=
  match payload with
  | [b] =>
    match readMask b with
    | none => refuse s .badField
    | some m =>
      match s.swapFailure m with
      | some (st, bytes) => refuseWith s st bytes
      | none => acceptWith (s.swap m) [b]
  | _ => refuse s .badField

/-- BANK_SWAP (R195). -/
def execBankSwap (payload : List Byte) (s : State) : Host.Outcome State Fault Refusal :=
  .next (s.handle 0x03 payload (judgeBankSwap payload))

/-! ## Profiles -/

/-- An accepted write of a profile ends its faulted mark, and clears the integrity latch where it records that profile
(R174, R176). -/
def State.profileWritten (s : State) (p : ProfileId) : State :=
  let s := s.setFaulted p false
  match s.trip.integrity with
  | some e => if e.table = .profile ∧ e.index = profileCode p then s.clearIntegrity else s
  | none => s

/-- A PROFILE_READ checks the parity (R174): the first failed check marks the profile faulted (R176). -/
def State.checkProfile (s : State) (p : ProfileId) : State :=
  if s.profileSound p then s
  else if s.faulted p then s.integrityError .profile none (profileCode p)
  else s.useProfile p

/-- The machine profile is replaced, and the queued setpoints lowered to the new maximum (R51, R52). -/
def State.writeMachine (s : State) (p : MachineProfile) : State :=
  (State.profileWritten { s with eng.profile := { contents := p, sound := true } } .machine).profileChanged .machine

def judgeWriteMachine (payload : List Byte) (s : State) : Verdict :=
  match payload with
  | sel :: fields =>
    if sel = 0 ∧ fields.length = machineLength then
      if s.eng.state ≠ .idle then refuse s .inUse
      else
        match readMachine fields with
        | some p => acceptBare (s.writeMachine p)
        | none => refuse s .badField
    else refuse s .badField
  | _ => refuse s .badField

/-- PROFILE_WRITE_MACHINE (R51, R52). -/
def execProfileWriteMachine (payload : List Byte) (s : State) : Host.Outcome State Fault Refusal :=
  .next (s.handle 0x04 payload (judgeWriteMachine payload))

/-- The answer carries the parity mark, then the faulted mark (R174, R176; DESIGN CHOICE, log 73). -/
def judgeReadMachine (payload : List Byte) (s : State) : Verdict :=
  match payload with
  | [sel] =>
    if sel = 0 then
      accept (s.checkProfile .machine) (fun t =>
        machineBytes s.eng.profile.contents ++ yesNo s.eng.profile.sound ++ yesNo (t.faulted .machine))
    else refuse s .badField
  | _ => refuse s .badField

/-- PROFILE_READ_MACHINE (R51, R176). -/
def execProfileReadMachine (payload : List Byte) (s : State) : Host.Outcome State Fault Refusal :=
  .next (s.handle 0x05 payload (judgeReadMachine payload))

/-- The softener profile is replaced, the due flags are judged and the automatic start check is made (R87, R104). -/
def State.writeSoftener (s : State) (p : SoftenerProfile) : State :=
  ((State.profileWritten { s with soft.profile := { contents := p, sound := true } } .softener).profileChanged
    .softener).autoCheck

def judgeWriteSoftener (payload : List Byte) (s : State) : Verdict :=
  match payload with
  | sel :: fields =>
    if sel = 1 ∧ fields.length = softenerLength then
      if s.soft.holder ≠ .none ∨ s.soft.regen.isSome = true then refuse s .inUse
      else
        match readSoftener fields with
        | some p => acceptBare (s.writeSoftener p)
        | none => refuse s .badField
    else refuse s .badField
  | _ => refuse s .badField

/-- PROFILE_WRITE_SOFTENER (R87). -/
def execProfileWriteSoftener (payload : List Byte) (s : State) : Host.Outcome State Fault Refusal :=
  .next (s.handle 0x04 payload (judgeWriteSoftener payload))

/-- The marks in the order of the other profiles (log 73). -/
def judgeReadSoftener (payload : List Byte) (s : State) : Verdict :=
  match payload with
  | [sel] =>
    if sel = 1 then
      accept (s.checkProfile .softener) (fun t =>
        softenerBytes s.soft.profile.contents ++ yesNo s.soft.profile.sound ++ yesNo (t.faulted .softener))
    else refuse s .badField
  | _ => refuse s .badField

/-- PROFILE_READ_SOFTENER (R87, R176). -/
def execProfileReadSoftener (payload : List Byte) (s : State) : Host.Outcome State Fault Refusal :=
  .next (s.handle 0x05 payload (judgeReadSoftener payload))

/-- The reservoir that a profile selector names: 2 DET, 3 RINSE (R194). -/
def reservoirOfSelector (b : Byte) : Option Reservoir :=
  if b = 2 then some .det else if b = 3 then some .rinse else none

/-- A dosing profile is replaced, and the estimate lowered to the new capacity (R112, R113). -/
def State.writeDosing (s : State) (r : Reservoir) (p : DosingProfile) : State :=
  (State.profileWritten (s.setReservoir r { s.reservoir r with profile := { contents := p, sound := true } })
    (dosingProfileId r)).profileChanged (dosingProfileId r)

def judgeWriteDosing (payload : List Byte) (s : State) : Verdict :=
  match payload with
  | sel :: fields =>
    match reservoirOfSelector sel with
    | some r =>
      if fields.length = dosingLength then
        if s.dosing.dose.isSome then refuse s .inUse
        else
          match readDosing fields with
          | some p => acceptBare (s.writeDosing r p)
          | none => refuse s .badField
      else refuse s .badField
    | none => refuse s .badField
  | _ => refuse s .badField

/-- PROFILE_WRITE_DOSING (R112). -/
def execProfileWriteDosing (payload : List Byte) (s : State) : Host.Outcome State Fault Refusal :=
  .next (s.handle 0x04 payload (judgeWriteDosing payload))

/-- The marks in the order of the other profiles (log 73). -/
def judgeReadDosing (payload : List Byte) (s : State) : Verdict :=
  match payload with
  | [sel] =>
    match reservoirOfSelector sel with
    | some r =>
      let x := (s.reservoir r).profile
      accept (s.checkProfile (dosingProfileId r)) (fun t =>
        dosingBytes x.contents ++ yesNo x.sound ++ yesNo (t.faulted (dosingProfileId r)))
    | none => refuse s .badField
  | _ => refuse s .badField

/-- PROFILE_READ_DOSING (R112, R176). -/
def execProfileReadDosing (payload : List Byte) (s : State) : Host.Outcome State Fault Refusal :=
  .next (s.handle 0x05 payload (judgeReadDosing payload))

end Sys2Proof.Machine
end

