-- ==== Sys2Proof/Machine/Cycle.lean ====
section
/-! DEFINITION. The requests on the part mode, the phase queue and the cycle: SET_MODE, PHASE_SUBMIT, PHASE_WITHDRAW,
CYCLE_START, CYCLE_CANCEL, PAUSE, RESUME, FLAGS (R19, R41 to R49, R80, R144, R179, R182, R196). -/

namespace Sys2Proof.Machine

/-! ## SET_MODE (R196) -/

/-- Every forced request is released (R161). -/
def State.releaseForced (s : State) : State :=
  allLoads.foldl (fun t l => t.setLoad l { t.load l with forced := none }) s

/-- Out of RUN: a regeneration is aborted, a DRIVING move waits, a route pulse is abandoned, a TRIPPED engine becomes IDLE
(R161, R196; DESIGN CHOICE, log 14). -/
def State.leaveRun (s : State) : State :=
  let s := (s.postAll s.abortNotice).abortRegen.parkMove.dropPulse
  { s with eng.state := .idle }

/-- Into STANDBY: polling stops and a FLOOD request ends (R161, R196). -/
def State.enterStandby (s : State) : State := { s.pollingStop with arb.flood := false }

/-- Into RUN: TRIPPED with the latch set, a WAITING move drives, and the automatic start check is made (R196). -/
def State.enterRun (s : State) : State :=
  (State.wakeMove (if s.trip.latch then { s with eng.state := .tripped } else s)).autoCheck

/-- An accepted change of mode as one event (R196). -/
def State.changeMode (s : State) (m : Mode) : State :=
  let old := s.link.mode
  let s := { s with link.mode := m, link.staging := .empty }
  let s := if old = .service then s.releaseForced else s
  let s := if old = .run then s.leaveRun else s
  let s := if m = .standby then s.enterStandby else s
  let s := if old = .standby then s.pollingStart.judgeLeak else s
  let s := if m ≠ .standby then s.renewFlood else s
  let s := if m = .run then s.enterRun else s
  s.markEval

/-- The refusal of a change, if any (R196). -/
def State.modeRefusal (s : State) (m : Mode) : Option Status :=
  if s.link.mode = .run then (if s.eng.state = .idle ∨ s.eng.state = .tripped then none else some .busy)
  else if m = .run then (if s.tablesReady then none else some .wrongMode)
  else none

def judgeSetMode (payload : List Byte) (s : State) : Verdict :=
  match payload with
  | [b] =>
    match modeOfCode b.toNat with
    | none => refuse s .badField
    | some m =>
      if m = s.link.mode then acceptWith s [b]
      else
        match s.modeRefusal m with
        | some st => refuse s st
        | none => accept (s.changeMode m) (fun t => u8 (modeCode t.link.mode))
  | _ => refuse s .badField

/-- SET_MODE (R196). -/
def execSetMode (payload : List Byte) (s : State) : Host.Outcome State Fault Refusal :=
  .next (s.handle 0x06 payload (judgeSetMode payload))

/-! ## The queue (R41 to R46) -/

/-- The head of the queue is marked cancelling (R41, R49). -/
def State.cancelling (s : State) : Bool := (s.eng.head.map StageRecord.cancelling).getD false

/-- The length of a submitted record against the kind it names; a kind that is none of the three is left to the field
test (R41, R44, R193; DESIGN CHOICE, log 17). -/
def submitLengthGood (l : List Byte) : Bool :=
  match l with
  | _ :: kind :: _ =>
    match recordLength kind with
    | some n => decide (l.length = n)
    | none => true
  | _ => false

/-- The maximum setpoint is used at the submission of a WASH record, one with a setpoint of 0 too (R43, R174; DESIGN
CHOICE, log 54). -/
def State.useMaximum (s : State) (p : PhaseRecord) : State :=
  match p.body with
  | .wash _ => s.useProfile .machine
  | _ => s

/-- An accepted record joins the tail, clamped (R41, R43); a partial staging is discarded (R187). -/
def State.submit (s : State) (p : PhaseRecord) : State :=
  let s := s.useMaximum p
  { s with eng.queue := s.eng.queue ++ [p.clamped s.machine.maxSetpoint], link.staging := .empty }

/-- The setpoint and pump speed as stored, for a WASH record; the items of another record are left out, and no presence
byte stands before those of a WASH record (R41; DESIGN CHOICE, log 40). -/
def storedClamps : Option PhaseRecord → List Byte
  | some p =>
    match p.body with
    | .wash w => u16 w.setpoint ++ u8 w.speed
    | _ => []
  | none => []

def judgePhaseSubmit (payload : List Byte) (s : State) : Verdict :=
  if !submitLengthGood payload then refuse s .badField
  else if s.trip.latch then refuse s .tripped
  else if s.cancelling then refuse s .busy
  else if 8 ≤ s.eng.queue.length then refuse s .full
  else
    match readRecord payload with
    | none => refuse s .badField
    | some p =>
      if s.eng.queue.any (fun q => decide (q.tag = p.tag)) then refuse s .duplicate
      else
        accept (s.submit p) (fun t =>
          u8 s.eng.queue.length ++ u8 t.eng.queue.length ++ storedClamps t.eng.queue.getLast?)

/-- PHASE_SUBMIT (R41). -/
def execPhaseSubmit (payload : List Byte) (s : State) : Host.Outcome State Fault Refusal :=
  .next (s.handle 0x10 payload (judgePhaseSubmit payload))

/-- The record of a tag leaves the queue (R45, R46). -/
def State.withdrawRecord (s : State) (tag : Nat) : State :=
  { s with eng.queue := s.eng.queue.filter (fun p => decide (p.tag ≠ tag)) }

def judgePhaseWithdraw (payload : List Byte) (s : State) : Verdict :=
  match payload with
  | [b] =>
    if s.eng.queue.any (fun p => decide (p.tag = b.toNat)) then
      if s.underWay && decide (s.headRecord.map PhaseRecord.tag = some b.toNat) then refuse s .inUse
      else accept (s.withdrawRecord b.toNat) (fun t => u8 t.eng.queue.length)
    else refuse s .notFound
  | _ => refuse s .badField

/-- PHASE_WITHDRAW (R46). -/
def execPhaseWithdraw (payload : List Byte) (s : State) : Host.Outcome State Fault Refusal :=
  .next (s.handle 0x11 payload (judgePhaseWithdraw payload))

/-! ## The cycle (R47 to R49) -/

/-- A cycle starts: the first stage, then the judgement of SENSOR_LOST (R48, R168; DESIGN CHOICE, log 41). -/
def State.startCycle (s : State) : State :=
  let s := { s with eng.totals := .zero, eng.susp := .empty, eng.state := .running }
  State.judgeSensorsNow (finishIf s.startHead)

def judgeCycleStart (payload : List Byte) (s : State) : Verdict :=
  if payload ≠ [] then refuse s .badField
  else if s.link.mode ≠ .run then refuse s .wrongMode
  else if s.trip.latch then refuse s .tripped
  else if s.eng.state ≠ .idle then refuse s .busy
  else if s.eng.queue = [] then refuse s .empty
  else if s.door.state ≠ .latched then refuse s .doorOpen
  else acceptWith s.startCycle (u8 s.headTag)

/-- CYCLE_START (R47, R48). -/
def execCycleStart (payload : List Byte) (s : State) : Host.Outcome State Fault Refusal :=
  .next (s.handle 0x12 payload (judgeCycleStart payload))

/-- The cancel of a WASH head in FILL, CIRCULATE or HOLD: the stage moves to DRAIN. A restored dose under a FILL is
abandoned too, also while the engine stays SUSPENDED (R80, R123; DESIGN CHOICE, log 45). -/
def State.cancelStage (s : State) (h : StageRecord) : State :=
  match h.stage with
  | .fill => (s.fillGiveBack).abandonDose.enterDrain
  | .circulate => (s.abandonDose).enterDrain
  | .hold => (s.abandonDose).enterDrain
  | _ => s

/-- An accepted cancel (R49, R80, R144, R182). -/
def State.cancelCycle (s : State) (h : StageRecord) : State :=
  let s :=
    { s with
      eng.queue := s.eng.queue.take 1
      eng.head := some { h with cancelling := true }
      eng.susp := s.eng.susp.clearHost }
  match s.dryHead with
  | some _ => (s.dropDry).cancelEnd
  | none => (s.cancelStage h).returnIfFree

def judgeCycleCancel (payload : List Byte) (s : State) : Verdict :=
  if payload ≠ [] then refuse s .badField
  else if s.eng.state = .tripped then refuse s .tripped
  else
    match s.eng.head with
    | some h => if s.underWay then acceptBare (s.cancelCycle h) else refuse s .notFound
    | none => refuse s .notFound

/-- CYCLE_CANCEL (R49). -/
def execCycleCancel (payload : List Byte) (s : State) : Host.Outcome State Fault Refusal :=
  .next (s.handle 0x13 payload (judgeCycleCancel payload))

/-! ## PAUSE, RESUME and FLAGS (R179, R19) -/

def judgePause (payload : List Byte) (s : State) : Verdict :=
  if payload ≠ [] then refuse s .badField
  else if s.trip.latch then refuse s .tripped
  else if s.underWay then accept (s.addReason .host) (fun t => suspByte t.eng.susp)
  else refuse s .notFound

/-- PAUSE (R179). -/
def execPause (payload : List Byte) (s : State) : Host.Outcome State Fault Refusal :=
  .next (s.handle 0x14 payload (judgePause payload))

/-- HOST, NO_WATER and RESTORED leave the suspension set (R179). -/
def State.resumeEngine (s : State) : State := State.returnIfFree { s with eng.susp := s.eng.susp.clearHost }

/-- RESTORED leaves the hold set (R179). -/
def State.resumeSoftener (s : State) : State := s.setHold { s.soft.hold with restored := false }

/-- A RESUME returns a fill to RUNNING, or a stage whose end enters the next fill, and ends the hold of the softener, so
that both may request the path (R90). -/
def State.resumeOrderOpen (s : State) : Bool :=
  decide (s.eng.state = .suspended) && s.eng.susp.clearHost.isEmpty
    && (decide (s.eng.head.map StageRecord.stage = some .fill) || s.resumeEngine.runningIn .fill)
    && !s.soft.hold.isEmpty && ({ s.soft.hold with restored := false } : HoldSet).isEmpty

/-- HOST, NO_WATER and RESTORED leave the suspension set, and RESTORED the hold set (R179). Where a fill and a
regeneration may both request the path, either is taken first (R90; DESIGN CHOICE, log 56). -/
def State.resume (s : State) : State :=
  if s.resumeOrderOpen then
    (if Config.resumeRegenFirst s.draws then s.draw.resumeSoftener.resumeEngine else s.draw.resumeEngine.resumeSoftener)
  else s.resumeEngine.resumeSoftener

def judgeResume (payload : List Byte) (s : State) : Verdict :=
  if payload ≠ [] then refuse s .badField
  else accept s.resume (fun t => suspByte t.eng.susp ++ holdByte t.soft.hold)

/-- RESUME (R179). -/
def execResume (payload : List Byte) (s : State) : Host.Outcome State Fault Refusal :=
  .next (s.handle 0x15 payload (judgeResume payload))

def judgeFlags (payload : List Byte) (s : State) : Verdict :=
  match payload with
  | [set, clear, toggle] =>
    accept (s.flagsUpdate (applyFlagMasks s.chan.flags set clear toggle)) (fun t => [t.chan.flags])
  | _ => refuse s .badField

/-- FLAGS (R19). -/
def execFlags (payload : List Byte) (s : State) : Host.Outcome State Fault Refusal :=
  .next (s.handle 0x16 payload (judgeFlags payload))

end Sys2Proof.Machine
end

