-- ==== Sys2Proof/Machine/Control.lean ====
section
/-! DEFINITION. The requests on the budget, forced loads, columns, regeneration and reservoirs: BUDGET, LOAD_FORCE,
COLUMN_SET, REGEN_START, RESERVOIR_ADJUST (R84, R104, R126, R150, R160). -/

namespace Sys2Proof.Machine

/-! ## BUDGET (R150) -/

/-- B is set, lowered to 4000 W, and an evaluation is due (R150). -/
def State.setBudget (s : State) (b : Nat) : State := State.markEval { s with arb.budget := min b 4000 }

def judgeBudget (payload : List Byte) (s : State) : Verdict :=
  match payload with
  | [hi, lo] => accept (s.setBudget (be16 hi lo)) (fun t => u16 t.arb.budget ++ u16 t.totalWatts)
  | _ => refuse s .badField

/-- BUDGET (R150). -/
def execBudget (payload : List Byte) (s : State) : Host.Outcome State Fault Refusal :=
  .next (s.handle 0x20 payload (judgeBudget payload))

/-! ## LOAD_FORCE (R160) -/

/-- The argument of a forced request: a speed clamped to 30 to 100, a route, a side, or nothing (R160; DESIGN CHOICE, log 17). -/
def forceArgument (l : LoadId) (arg : Byte) : Option Nat :=
  match l with
  | .circPump => some (clampNat 30 100 arg.toNat)
  | .routeValve => if arg.toNat = 1 ∨ arg.toNat = 2 then some arg.toNat else none
  | .selectorValve => if arg.toNat ≤ 1 then some arg.toNat else none
  | _ => some 0

/-- The host's request of a load is made or released (R160). -/
def State.force (s : State) (l : LoadId) (arg : Option Nat) : State :=
  (s.setLoad l { s.load l with forced := arg }).markEval

/-- LOAD_FORCE with the given action: 1 ON, 0 OFF (R160). -/
def judgeForce (on : Bool) (payload : List Byte) (s : State) : Verdict :=
  match payload with
  | [id, action, arg] =>
    if s.link.mode ≠ .service then refuse s .wrongMode
    else
      match loadOfId id.toNat with
      | none => refuse s .badField
      | some l =>
        match forceArgument l arg with
        | none => refuse s .badField
        | some a =>
          if readYesNo action = some on then
            accept (s.force l (if on then some a else none)) (fun t => t.grantBytes l)
          else refuse s .badField
  | _ => refuse s .badField

/-- LOAD_FORCE_ON (R160). -/
def execLoadForceOn (payload : List Byte) (s : State) : Host.Outcome State Fault Refusal :=
  .next (s.handle 0x21 payload (judgeForce true payload))

/-- LOAD_FORCE_OFF (R160). -/
def execLoadForceOff (payload : List Byte) (s : State) : Host.Outcome State Fault Refusal :=
  .next (s.handle 0x21 payload (judgeForce false payload))

/-! ## COLUMN_SET and REGEN_START (R84, R104) -/

/-- The states that COLUMN_SET may write (R84). -/
def settableState (n : Nat) : Option ColumnState :=
  match columnStateOfCode n with
  | some .brine => none
  | some .soak => none
  | some .rinse => none
  | x => x

/-- The column is written, C lowered to the rated capacity, the due flag judged and the salt-reduced flag cleared
(R84). -/
def State.writeColumn (s : State) (c : Side) (st : ColumnState) (cap : Nat) : State :=
  let s := s.useProfile .softener
  s.setColumn c
    (Column.judgeDue { state := st, cap := min cap s.softener.rated, due := false, saltReduced := false }
      s.softener.reserve)

/-- A SET move where a column put in SERVICE is not the selector's side, also where it stood in SERVICE before (R84, R86;
DESIGN CHOICE, log 42). -/
def State.alignColumn (s : State) (c : Side) (st : ColumnState) : State :=
  if st = .service ∧ s.soft.position ≠ c then s.createMove .set c else s

/-- An accepted COLUMN_SET as one event (R84). -/
def State.columnSet (s : State) (c : Side) (st : ColumnState) (cap : Nat) : State :=
  ((s.writeColumn c st cap).alignColumn c st).autoCheck

def judgeColumnSet (payload : List Byte) (s : State) : Verdict :=
  match payload with
  | [col, st, hi, lo] =>
    if s.link.mode = .service then refuse s .wrongMode
    else
      match sideOfCode col.toNat, settableState st.toNat with
      | some c, some st =>
        if s.eng.state ≠ .idle then refuse s .busy
        else if s.soft.regen.isSome ∨ s.soft.move.isSome = true then refuse s .busy
        else if st = .service ∧ (s.column (otherSide c)).state = .service then refuse s .conflict
        else
          accept (s.columnSet c st (be16 hi lo)) (fun t => columnBytes t.soft.colA ++ columnBytes t.soft.colB)
      | _, _ => refuse s .badField
  | _ => refuse s .badField

/-- COLUMN_SET (R84). -/
def execColumnSet (payload : List Byte) (s : State) : Host.Outcome State Fault Refusal :=
  .next (s.handle 0x22 payload (judgeColumnSet payload))

def judgeRegenStart (payload : List Byte) (s : State) : Verdict :=
  match payload with
  | [col] =>
    if s.link.mode ≠ .run then refuse s .wrongMode
    else
      match sideOfCode col.toNat with
      | none => refuse s .badField
      | some c =>
        if s.trip.latch then refuse s .tripped
        else if !s.soft.hold.isEmpty || s.soft.regen.isSome then refuse s .busy
        else if (s.column c).state ≠ .exhausted then refuse s .conflict
        else acceptBare (s.startRegen c)
  | _ => refuse s .badField

/-- REGEN_START (R104). -/
def execRegenStart (payload : List Byte) (s : State) : Host.Outcome State Fault Refusal :=
  .next (s.handle 0x23 payload (judgeRegenStart payload))

/-! ## RESERVOIR_ADJUST (R126) -/

/-- The estimate is set, lowered to the capacity, and the low-seen flag cleared (R126). -/
def State.adjust (s : State) (r : Reservoir) (new : Nat) : State :=
  let s := s.useProfile (dosingProfileId r)
  s.setReservoir r { s.reservoir r with estimate := min new (s.dosingProfile r).capacity, lowSeen := false }

def judgeReservoirAdjust (payload : List Byte) (s : State) : Verdict :=
  match payload with
  | [res, a, b, c, d, e, f, g, h] =>
    match reservoirOfCode res.toNat with
    | none => refuse s .badField
    | some r =>
      if (s.reservoir r).estimate = be32 a b c d then
        accept (s.adjust r (be32 e f g h)) (fun t => u32 (t.reservoir r).estimate)
      else refuseWith s .staleValue (u32 (s.reservoir r).estimate)
  | _ => refuse s .badField

/-- RESERVOIR_ADJUST (R126). -/
def execReservoirAdjust (payload : List Byte) (s : State) : Host.Outcome State Fault Refusal :=
  .next (s.handle 0x24 payload (judgeReservoirAdjust payload))

end Sys2Proof.Machine
end

