-- ==== Sys2Proof/Machine/Reading.lean ====
section
/-! DEFINITION. The requests that read the part, and those of the context image, the trip unit and the link port: STATUS,
CHANNEL_READ, SAMPLES_READ, NOTICE_READ, CONTEXT_SNAP, CONTEXT_READ, CONTEXT_WRITE, TRIP_READ, TRIP_CLEAR, SYNC, RESET
(R22, R172, R173, R185 to R188, R198 to R203). -/

namespace Sys2Proof.Machine

/-! ## STATUS (R200) -/

def judgeStatusRead (payload : List Byte) (s : State) : Verdict :=
  match payload with
  | [form, n] =>
    if form = 0 then
      match s.page n.toNat with
      | some bytes => acceptWith s bytes
      | none => refuse s .badField
    else refuse s .badField
  | _ => refuse s .badField

/-- STATUS_READ (R200). -/
def execStatusRead (payload : List Byte) (s : State) : Host.Outcome State Fault Refusal :=
  .next (s.handle 0x30 payload (judgeStatusRead payload))

/-- The attention threshold is set and the line judged (R199, R200). -/
def State.setThreshold (s : State) (n : Nat) : State :=
  { s with link := LinkUnit.judgeAttn { s.link with threshold := n } }

def judgeStatusWrite (payload : List Byte) (s : State) : Verdict :=
  match payload with
  | [form, n] =>
    if form = 1 ∧ n.toNat ≤ 7 then
      accept (s.setThreshold n.toNat) (fun t => u8 t.link.threshold ++ yesNo t.link.attn)
    else refuse s .badField
  | _ => refuse s .badField

/-- STATUS_WRITE (R200). -/
def execStatusWrite (payload : List Byte) (s : State) : Host.Outcome State Fault Refusal :=
  .next (s.handle 0x30 payload (judgeStatusWrite payload))

/-! ## Channels, samples and notices (R201, R22, R198) -/

def judgeChannelRead (payload : List Byte) (s : State) : Verdict :=
  match payload with
  | [b] =>
    match indexOf 32 b with
    | some i => acceptWith s (s.channelReading i)
    | none => refuse s .badField
  | _ => refuse s .badField

/-- CHANNEL_READ (R201). -/
def execChannelRead (payload : List Byte) (s : State) : Host.Outcome State Fault Refusal :=
  .next (s.handle 0x31 payload (judgeChannelRead payload))

/-- What SAMPLES_READ takes from a channel (R22). -/
def State.readSamples (s : State) (i : Fin 32) : SampleStore × List Byte :=
  s.chan.run[i].store.read s.chan.active[i].contents

def judgeSamplesRead (payload : List Byte) (s : State) : Verdict :=
  match payload with
  | [b] =>
    match indexOf 32 b with
    | some i =>
      let r := s.readSamples i
      acceptWith (s.withRun i (fun run => { run with store := r.1 })) r.2
    | none => refuse s .badField
  | _ => refuse s .badField

/-- SAMPLES_READ (R22). -/
def execSamplesRead (payload : List Byte) (s : State) : Host.Outcome State Fault Refusal :=
  .next (s.handle 0x32 payload (judgeSamplesRead payload))

/-- Up to four notices leave the head of the queue, the overrun flag is cleared, and the line is judged (R198, R199). -/
def State.takeNotices (s : State) : State :=
  { s with link := LinkUnit.judgeAttn { s.link with notices := s.link.notices.drop 4, overrun := false } }

def judgeNoticeRead (payload : List Byte) (s : State) : Verdict :=
  if payload ≠ [] then refuse s .badField
  else
    acceptWith s.takeNotices
      (counted noticeBytes (s.link.notices.take 4) ++ u8 (s.link.notices.drop 4).length ++ yesNo s.link.overrun)

/-- NOTICE_READ (R198). -/
def execNoticeRead (payload : List Byte) (s : State) : Host.Outcome State Fault Refusal :=
  .next (s.handle 0x33 payload (judgeNoticeRead payload))

/-! ## The context image (R185 to R188) -/

def judgeContextSnap (payload : List Byte) (s : State) : Verdict :=
  if payload ≠ [] then refuse s .badField
  else if s.trip.latch then refuse s .tripped
  else if s.eng.state = .running then refuse s .busy
  else acceptWith (s.snapshot reasonRequest) (u16 (imageSum (s.imageBody reasonRequest)))

/-- CONTEXT_SNAP (R185). -/
def execContextSnap (payload : List Byte) (s : State) : Host.Outcome State Fault Refusal :=
  .next (s.handle 0x40 payload (judgeContextSnap payload))

/-- A record of the image, with the phase record of an occupied slot (R186). -/
def Image.reading (m : Image) (n : Nat) : List Byte :=
  (m.records[n]?).getD [] ++ (if 1 ≤ n ∧ n ≤ 8 then (m.phases[n - 1]?).getD [] else [])

def judgeContextRead (payload : List Byte) (s : State) : Verdict :=
  match payload with
  | [b] =>
    if 15 < b.toNat then refuse s .badField
    else
      match s.link.image with
      | none => refuse s .empty
      | some m => acceptWith s (m.reading b.toNat)
  | _ => refuse s .badField

/-- CONTEXT_READ (R186). -/
def execContextRead (payload : List Byte) (s : State) : Host.Outcome State Fault Refusal :=
  .next (s.handle 0x41 payload (judgeContextRead payload))

/-- A refusal of CONTEXT_WRITE discards the staging (R187, R188). -/
def refuseStaging (s : State) (st : Status) : Verdict := refuseWith s.discardStaging st []

/-- A record joins the staging (R187). -/
def State.stage (s : State) (body : List Byte) (phases : List (Option PhaseRecord)) : State :=
  { s with
    link.staging := { records := s.link.staging.records ++ [body], phases := s.link.staging.phases ++ phases } }

/-- The length of a CONTEXT_WRITE: a phase record follows an occupied slot only; its own length is judged by test 5
(R187, R193; DESIGN CHOICE, log 20). -/
def contextLengthGood (n : Nat) (body phase : List Byte) : Bool :=
  decide (body.length = 16) && (phase.isEmpty || (within 1 8 n && decide (byteAt body 0 ≠ 0)))

/-- Record 15 judged on the whole staging (R188). -/
def State.judgeLast (s : State) (body : List Byte) : Verdict :=
  let g := s.link.staging
  if imageSum g.records ≠ wordAt body 14 then refuseStaging s .check
  else if !g.consistent then refuseStaging s .badField
  else if s.trip.latch then refuseStaging s .tripped
  else if !s.tablesReady then refuseStaging s .wrongMode
  else acceptBare (s.restore g body)

/-- A slot judged by tests 5 and 6 (R187). -/
def State.judgeSlot (s : State) (body phase : List Byte) : Verdict :=
  if !slotChecks body phase then refuseStaging s .check
  else if byteAt body 0 = 0 then acceptBare (s.stage body [none])
  else
    match s.link.staging.slotGood phase with
    | some p => acceptBare (s.stage body [some p])
    | none => refuseStaging s .badField

/-- A record judged by the tests of R187 in order. -/
def State.judgeRecord (s : State) (n : Nat) (body phase : List Byte) : Verdict :=
  if s.link.mode ≠ .standby then refuseStaging s .wrongMode
  else if s.eng.queue ≠ [] then refuseStaging s .busy
  else if n ≠ 0 ∧ n ≠ s.link.staging.records.length then refuseStaging s .order
  else if n = 0 then
    (if headerGood body then acceptBare (s.discardStaging.stage body []) else refuseStaging s .order)
  else if n ≤ 8 then s.judgeSlot body phase
  else if n < 15 then acceptBare (s.stage body [])
  else s.judgeLast body

def judgeContextWrite (payload : List Byte) (s : State) : Verdict :=
  match payload with
  | b :: rest =>
    let body := rest.take 16
    let phase := rest.drop 16
    if contextLengthGood b.toNat body phase then s.judgeRecord b.toNat body phase else refuseStaging s .badField
  | [] => refuseStaging s .badField

/-- CONTEXT_WRITE (R187 to R189). -/
def execContextWrite (payload : List Byte) (s : State) : Host.Outcome State Fault Refusal :=
  .next (s.handle 0x42 payload (judgeContextWrite payload))

/-! ## The trip unit (R172, R173) -/

def judgeTripRead (payload : List Byte) (s : State) : Verdict :=
  if payload ≠ [] then refuse s .badField else acceptWith s s.tripReading

/-- TRIP_READ (R172). -/
def execTripRead (payload : List Byte) (s : State) : Host.Outcome State Fault Refusal :=
  .next (s.handle 0x48 payload (judgeTripRead payload))

/-- The machine profile is checked where the first reason's condition uses it, before the condition is judged, and what the
check finds stands although the request is refused (R173, R174, R176; DESIGN CHOICE, log 68). -/
def State.useForClear (s : State) : State :=
  if s.trip.latch && s.trip.record.reason.usesMachine then s.useProfile .machine else s

def judgeTripClear (payload : List Byte) (s : State) : Verdict :=
  if payload ≠ [] then refuse s .badField
  else
    let s := s.useForClear
    if s.causePresent then refuseWith s .causePresent (u8 (reasonCode s.trip.record.reason))
    else acceptBare s.tripClear

/-- TRIP_CLEAR (R173). -/
def execTripClear (payload : List Byte) (s : State) : Host.Outcome State Fault Refusal :=
  .next (s.handle 0x49 payload (judgeTripClear payload))

/-! ## SYNC and RESET (R202, R203) -/

/-- The resolution is set and the tag starts at 0 with a new period (R202). -/
def State.sync (s : State) (r : Resolution) : State :=
  { s with link.resolution := r, link.timeTag := 0, link.tagPart := 0 }

def judgeSync (payload : List Byte) (s : State) : Verdict :=
  match payload with
  | [b] =>
    match resolutionOfCode b.toNat with
    | some r => acceptWith (s.sync r) (u16 s.link.timeTag.toNat)
    | none => refuse s .badField
  | _ => refuse s .badField

/-- SYNC (R202). -/
def execSync (payload : List Byte) (s : State) : Host.Outcome State Fault Refusal :=
  .next (s.handle 0x50 payload (judgeSync payload))

def judgeReset (payload : List Byte) (s : State) : Verdict :=
  if payload ≠ [] then refuse s .badField else acceptBare { s with link.resetPending := true }

/-- RESET (R203): the part answers OK; the soft reset follows at the end of that response. -/
def execReset (payload : List Byte) (s : State) : Host.Outcome State Fault Refusal :=
  .next (s.handle 0x51 payload (judgeReset payload))

end Sys2Proof.Machine
end

