-- ==== Sys2Proof/Machine/Dispatch.lean ====
section
/-! DEFINITION. The meaning of each command: one arm per row of spec/opcode_table.json. -/

namespace Sys2Proof.Machine

def exec (i : Instr) (s : State) : Host.Outcome State Fault Refusal :=
  match i with
  | .tblWriteChannel payload => Sys2Proof.Machine.execTblWriteChannel payload s
  | .tblReadChannel payload => Sys2Proof.Machine.execTblReadChannel payload s
  | .tblWriteCurve payload => Sys2Proof.Machine.execTblWriteCurve payload s
  | .tblReadCurve payload => Sys2Proof.Machine.execTblReadCurve payload s
  | .tblWritePollList payload => Sys2Proof.Machine.execTblWritePollList payload s
  | .tblReadPollList payload => Sys2Proof.Machine.execTblReadPollList payload s
  | .tblWriteLoad payload => Sys2Proof.Machine.execTblWriteLoad payload s
  | .tblReadLoad payload => Sys2Proof.Machine.execTblReadLoad payload s
  | .bankSwap payload => Sys2Proof.Machine.execBankSwap payload s
  | .profileWriteMachine payload => Sys2Proof.Machine.execProfileWriteMachine payload s
  | .profileReadMachine payload => Sys2Proof.Machine.execProfileReadMachine payload s
  | .profileWriteSoftener payload => Sys2Proof.Machine.execProfileWriteSoftener payload s
  | .profileReadSoftener payload => Sys2Proof.Machine.execProfileReadSoftener payload s
  | .profileWriteDosing payload => Sys2Proof.Machine.execProfileWriteDosing payload s
  | .profileReadDosing payload => Sys2Proof.Machine.execProfileReadDosing payload s
  | .setMode payload => Sys2Proof.Machine.execSetMode payload s
  | .phaseSubmit payload => Sys2Proof.Machine.execPhaseSubmit payload s
  | .phaseWithdraw payload => Sys2Proof.Machine.execPhaseWithdraw payload s
  | .cycleStart payload => Sys2Proof.Machine.execCycleStart payload s
  | .cycleCancel payload => Sys2Proof.Machine.execCycleCancel payload s
  | .pause payload => Sys2Proof.Machine.execPause payload s
  | .resume payload => Sys2Proof.Machine.execResume payload s
  | .flags payload => Sys2Proof.Machine.execFlags payload s
  | .budget payload => Sys2Proof.Machine.execBudget payload s
  | .loadForceOn payload => Sys2Proof.Machine.execLoadForceOn payload s
  | .loadForceOff payload => Sys2Proof.Machine.execLoadForceOff payload s
  | .columnSet payload => Sys2Proof.Machine.execColumnSet payload s
  | .regenStart payload => Sys2Proof.Machine.execRegenStart payload s
  | .reservoirAdjust payload => Sys2Proof.Machine.execReservoirAdjust payload s
  | .statusRead payload => Sys2Proof.Machine.execStatusRead payload s
  | .statusWrite payload => Sys2Proof.Machine.execStatusWrite payload s
  | .channelRead payload => Sys2Proof.Machine.execChannelRead payload s
  | .samplesRead payload => Sys2Proof.Machine.execSamplesRead payload s
  | .noticeRead payload => Sys2Proof.Machine.execNoticeRead payload s
  | .contextSnap payload => Sys2Proof.Machine.execContextSnap payload s
  | .contextRead payload => Sys2Proof.Machine.execContextRead payload s
  | .contextWrite payload => Sys2Proof.Machine.execContextWrite payload s
  | .tripRead payload => Sys2Proof.Machine.execTripRead payload s
  | .tripClear payload => Sys2Proof.Machine.execTripClear payload s
  | .sync payload => Sys2Proof.Machine.execSync payload s
  | .reset payload => Sys2Proof.Machine.execReset payload s
  | .softReset pins => Sys2Proof.Machine.execSoftReset pins s
  | .powerOn pins => Sys2Proof.Machine.execPowerOn pins s
  | .linkFrameDiscarded bytes => Sys2Proof.Machine.execLinkFrameDiscarded bytes s
  | .linkByteTimeout bytes => Sys2Proof.Machine.execLinkByteTimeout bytes s
  | .timeTagTick => Sys2Proof.Machine.execTimeTagTick s
  | .pollDue index => Sys2Proof.Machine.execPollDue index s
  | .sumpFrameEnd frame => Sys2Proof.Machine.execSumpFrameEnd frame s
  | .sumpResponseTimeout => Sys2Proof.Machine.execSumpResponseTimeout s
  | .sumpByteGap bytes => Sys2Proof.Machine.execSumpByteGap bytes s
  | .sumpLateBytes bytes => Sys2Proof.Machine.execSumpLateBytes bytes s
  | .fillStalled => Sys2Proof.Machine.execFillStalled s
  | .setpointMissed => Sys2Proof.Machine.execSetpointMissed s
  | .minimumHoldElapsed => Sys2Proof.Machine.execMinimumHoldElapsed s
  | .holdTimeExpiry => Sys2Proof.Machine.execHoldTimeExpiry s
  | .drainMinimumTimeReached => Sys2Proof.Machine.execDrainMinimumTimeReached s
  | .drainTimeout => Sys2Proof.Machine.execDrainTimeout s
  | .cycleClockTick => Sys2Proof.Machine.execCycleClockTick s
  | .strokeComplete => Sys2Proof.Machine.execStrokeComplete s
  | .selectorPositionChange side => Sys2Proof.Machine.execSelectorPositionChange side s
  | .selectorTravelTimeout => Sys2Proof.Machine.execSelectorTravelTimeout s
  | .routePulseEnd => Sys2Proof.Machine.execRoutePulseEnd s
  | .soakTimeExpiry => Sys2Proof.Machine.execSoakTimeExpiry s
  | .doorSwitchDebounced switch level => Sys2Proof.Machine.execDoorSwitchDebounced switch level s
  | .settleTimerExpiry => Sys2Proof.Machine.execSettleTimerExpiry s
  | .condenseTimeout => Sys2Proof.Machine.execCondenseTimeout s
  | .attemptWindowExpiry => Sys2Proof.Machine.execAttemptWindowExpiry s
  | .restTimerExpiry => Sys2Proof.Machine.execRestTimerExpiry s
  | .ventTimeExpiry => Sys2Proof.Machine.execVentTimeExpiry s
  | .grantReport load => Sys2Proof.Machine.execGrantReport load s
  | .zeroCrossPulse => Sys2Proof.Machine.execZeroCrossPulse s
  | .zeroCrossMissed => Sys2Proof.Machine.execZeroCrossMissed s
  | .mainsLossEngine => Sys2Proof.Machine.execMainsLossEngine s
  | .mainsLossSoftener => Sys2Proof.Machine.execMainsLossSoftener s
  | .mainsLossSnapshot => Sys2Proof.Machine.execMainsLossSnapshot s
  | .mainsBackEngine => Sys2Proof.Machine.execMainsBackEngine s
  | .mainsBackSoftener => Sys2Proof.Machine.execMainsBackSoftener s
  | .pollFrameEnd => Sys2Proof.Machine.execPollFrameEnd s
  | .responseEnd => Sys2Proof.Machine.execResponseEnd s

end Sys2Proof.Machine
end

