-- ==== Sys2Proof/Machine/Pins.lean ====
section
/-! DEFINITION. The output pins as the state drives them (00_scope pin list, 08 8.1, R86, R89, R149, R199). The bits of
the two serial lines are below the model's commands (DESIGN CHOICE, log 6). -/

namespace Sys2Proof.Machine

/-- A load drive LD0 to LD10 is on for as long as the grant lasts; at HALF it is on in alternate half-cycles (R149; which
of the two conducts is a DESIGN CHOICE, log 50). -/
def State.drivePin (s : State) (l : LoadId) : Bool :=
  s.granted l && (decide ((s.load l).grant ≠ some .half) || s.arb.zc.phase)

/-- The speed that the pump drive is given while CIRC_PUMP is granted (R64, R160). -/
def State.pumpSpeed (s : State) : Option Nat := if s.granted .circPump then s.argument .circPump else none

/-- RTDIR: high for TUB, from the request's argument (R89). -/
def State.rtdirPin (s : State) : Bool := decide (s.argument .routeValve = some (routeCode .tub))

/-- SELDIR: the direction of travel, from the request's argument; high toward A, as CSEL reads (R86; DESIGN CHOICE, log 17). -/
def State.seldirPin (s : State) : Bool := decide (s.argument .selectorValve = some (sideCode .a))

/-- ATTN, active low: low while a notice calls the host (R199). -/
def State.attnPin (s : State) : Bool := !s.link.attn

/-- HDIR: the driver of the appliance link is enabled while a response is sent (11, introduction). -/
def State.hdirPin (s : State) : Bool := s.link.response.isSome

/-- SDIR: the driver of the sump bus is enabled while a poll frame is sent (02 2.1). -/
def State.sdirPin (s : State) : Bool :=
  match s.bus.tx with
  | some t => !t.waiting
  | none => false

end Sys2Proof.Machine
end

