-- ==== Sys2Proof/Safety.lean ====
section
/-! DEFINITION. What the spec promises of every state that the part reaches: the mains budget (R149), the interlock of
mains and trip (R149, R170), the bounds of the queues (R45, R197) and the columns (R83). -/

namespace Sys2Proof.Machine

/-- The watts of the granted loads stay within the budget in effect (R149). -/
def State.budgetKept (s : State) : Prop := s.totalWatts ≤ s.arb.budget

/-- No load is granted unless mains is PRESENT (R149, R151). -/
def State.mainsKept (s : State) : Prop :=
  s.arb.zc.presence ≠ .present → ∀ l : LoadId, (s.load l).grant = none

/-- The arbiter's own request of DRAIN_PUMP stands only under a FLOOD trip (R154). -/
def State.floodKept (s : State) : Prop :=
  s.arb.flood = true → s.trip.latch = true ∧ s.trip.record.reason = .flood

/-- While the latch is set, no load is granted except DRAIN_PUMP under a FLOOD trip (R170). -/
def State.tripGrantsKept (s : State) : Prop :=
  s.trip.latch = true → ∀ l : LoadId, (s.load l).grant ≠ none → l = .drainPump ∧ s.arb.flood = true

/-- While the latch is set, the engine is TRIPPED in RUN mode and IDLE outside it, and the queue is empty (R54, R170). -/
def State.tripEngineKept (s : State) : Prop :=
  s.trip.latch = true →
    s.eng.queue = [] ∧ s.eng.state = (if s.link.mode = .run then .tripped else .idle)

/-- The notice queue never holds more than 32 notices (R197). -/
def State.noticesKept (s : State) : Prop := s.link.notices.length ≤ 32

/-- The phase queue holds at most 8 records, and their tags are distinct (R45). -/
def State.queueKept (s : State) : Prop :=
  s.eng.queue.length ≤ 8 ∧ (s.eng.queue.map PhaseRecord.tag).Nodup

/-- At most one column is in SERVICE (R83). -/
def State.serviceKept (s : State) : Prop := ¬(s.soft.colA.state = .service ∧ s.soft.colB.state = .service)

/-- The staging of the context image: its queue slots have distinct tags and there are at most 8 (R187). -/
def State.stagingKept (s : State) : Prop :=
  (s.link.staging.queue.map PhaseRecord.tag).Nodup ∧ s.link.staging.phases.length ≤ s.link.staging.records.length - 1
    ∧ s.link.staging.phases.length ≤ 8

/-- No event ends with an evaluation still due (R148, R155). -/
def State.settled (s : State) : Prop := s.arb.evalDue = false

/-! ## The terms of the statements -/

/-- The response of a request joins the state at the end of its event: the frame is sent and the receiver is off
(R191, R192). -/
def State.respond (s : State) (code : Byte) (status : Status) (payload : List Byte) : State :=
  { s with link := { s.link with response := some (responseFrame code status payload), rxOff := true } }

/-- The part is between two events and hears the host: the receiver hunts and no evaluation is due (R148, R191). -/
def State.ready (s : State) : Prop := s.link.rxOff = false ∧ s.settled

/-- The next use of the profile finds no new damage: its parity matches, or it is marked faulted already (R176). -/
def State.inEffect (s : State) (p : ProfileId) : Prop := s.faulted p = true ∨ s.profileSound p = true

/-- The bus of `u` is that of `s` after a transaction of entry `e` has ended with outcome `o` (R31, R32): the lowest index of
the due set is taken, its next due time set and its first frame sent; with nobody due, or polling stopped, the bus is free. -/
def State.busFreed (s u : State) (e : Fin 16) (o : PollOutcome) : Prop :=
  let run := s.bus.run.set e { s.bus.run[e] with outcome := o }
  u.bus.heard = [] ∧
  ((s.link.mode = .standby ∨ ∀ i : Fin 16, run[i].inDueSet = false) →
    u.bus.tx = none ∧ u.bus.run = run ∧ u.bus.sent = s.bus.sent) ∧
  (∀ i : Fin 16, s.link.mode ≠ .standby → run[i].inDueSet = true → (∀ j : Fin 16, j < i → run[j].inDueSet = false) →
    let p := s.bus.poll[i]
    u.bus.tx =
      some
        { entry := i, satellite := p.satellite, mask := p.mask, timeout := p.timeout, retry := p.retry, second := false
          belongs := true, waiting := false, timer := 0 } ∧
    u.bus.run = run.set i { run[i] with inDueSet := false, due := some (s.now + p.interval * 10) } ∧
    u.bus.sent = pollFrame p.satellite p.mask)

/-- A safe run of n steps: every step has a next state, and that state keeps the promises on grants. -/
def safeRun : Nat → State → Prop
  | 0, s => s.budgetKept ∧ s.mainsKept
  | n + 1, s =>
    (s.budgetKept ∧ s.mainsKept) ∧
      match step s with
      | .next t => safeRun n t
      | _ => False

end Sys2Proof.Machine
end

