-- ==== Sys2Proof/Machine/Frames.lean ====
section
/-! DEFINITION. From the bytes of a frame to the command of its row, and back (R191, R194). A request's row is named by
its code and, for TBL, PROFILE, LOAD_FORCE and STATUS requests, by its selector or action. -/

namespace Sys2Proof.Machine

/-- The first byte of a payload, 0 for an empty one. -/
def selector (p : List Byte) : Nat := ((p[0]?).getD 0).toNat

/-- TBL_WRITE rows by the table; a table that is none of the four goes to the channel row, which refuses it. -/
def tblWriteOf (p : List Byte) : Instr :=
  if selector p = 1 then .tblWriteCurve p
  else if selector p = 2 then .tblWriteLoad p
  else if selector p = 3 then .tblWritePollList p
  else .tblWriteChannel p

/-- TBL_READ rows by the table. -/
def tblReadOf (p : List Byte) : Instr :=
  if selector p = 1 then .tblReadCurve p
  else if selector p = 2 then .tblReadLoad p
  else if selector p = 3 then .tblReadPollList p
  else .tblReadChannel p

/-- PROFILE_WRITE rows by the profile. -/
def profileWriteOf (p : List Byte) : Instr :=
  if selector p = 0 then .profileWriteMachine p
  else if selector p = 1 then .profileWriteSoftener p
  else .profileWriteDosing p

/-- PROFILE_READ rows by the profile. -/
def profileReadOf (p : List Byte) : Instr :=
  if selector p = 0 then .profileReadMachine p
  else if selector p = 1 then .profileReadSoftener p
  else .profileReadDosing p

/-- LOAD_FORCE rows by the action. -/
def loadForceOf (p : List Byte) : Instr := if (p[1]?).getD 0 = 0 then .loadForceOff p else .loadForceOn p

/-- STATUS rows by the form. -/
def statusOf (p : List Byte) : Instr := if selector p = 1 then .statusWrite p else .statusRead p

/-- The row of a request code and its payload (11 11.2). -/
def requestOf (code : Byte) (p : List Byte) : Option Instr :=
  match code.toNat with
  | 0x01 => some (tblWriteOf p)
  | 0x02 => some (tblReadOf p)
  | 0x03 => some (.bankSwap p)
  | 0x04 => some (profileWriteOf p)
  | 0x05 => some (profileReadOf p)
  | 0x06 => some (.setMode p)
  | 0x10 => some (.phaseSubmit p)
  | 0x11 => some (.phaseWithdraw p)
  | 0x12 => some (.cycleStart p)
  | 0x13 => some (.cycleCancel p)
  | 0x14 => some (.pause p)
  | 0x15 => some (.resume p)
  | 0x16 => some (.flags p)
  | 0x20 => some (.budget p)
  | 0x21 => some (loadForceOf p)
  | 0x22 => some (.columnSet p)
  | 0x23 => some (.regenStart p)
  | 0x24 => some (.reservoirAdjust p)
  | 0x30 => some (statusOf p)
  | 0x31 => some (.channelRead p)
  | 0x32 => some (.samplesRead p)
  | 0x33 => some (.noticeRead p)
  | 0x40 => some (.contextSnap p)
  | 0x41 => some (.contextRead p)
  | 0x42 => some (.contextWrite p)
  | 0x48 => some (.tripRead p)
  | 0x49 => some (.tripClear p)
  | 0x50 => some (.sync p)
  | 0x51 => some (.reset p)
  | _ => none

/-- A complete frame as the command it makes: a request, or a frame that is discarded (R191). -/
def commandOfFrame (bytes : List Byte) : Instr :=
  match parseFrame bytes with
  | some (code, p) => (requestOf code p).getD (.linkFrameDiscarded bytes)
  | none => .linkFrameDiscarded bytes

/-- The request code of a row, with its payload; none for an event. -/
def codeOf : Instr → Option (Byte × List Byte)
  | .tblWriteChannel p => some (0x01, p)
  | .tblReadChannel p => some (0x02, p)
  | .tblWriteCurve p => some (0x01, p)
  | .tblReadCurve p => some (0x02, p)
  | .tblWritePollList p => some (0x01, p)
  | .tblReadPollList p => some (0x02, p)
  | .tblWriteLoad p => some (0x01, p)
  | .tblReadLoad p => some (0x02, p)
  | .bankSwap p => some (0x03, p)
  | .profileWriteMachine p => some (0x04, p)
  | .profileReadMachine p => some (0x05, p)
  | .profileWriteSoftener p => some (0x04, p)
  | .profileReadSoftener p => some (0x05, p)
  | .profileWriteDosing p => some (0x04, p)
  | .profileReadDosing p => some (0x05, p)
  | .setMode p => some (0x06, p)
  | .phaseSubmit p => some (0x10, p)
  | .phaseWithdraw p => some (0x11, p)
  | .cycleStart p => some (0x12, p)
  | .cycleCancel p => some (0x13, p)
  | .pause p => some (0x14, p)
  | .resume p => some (0x15, p)
  | .flags p => some (0x16, p)
  | .budget p => some (0x20, p)
  | .loadForceOn p => some (0x21, p)
  | .loadForceOff p => some (0x21, p)
  | .columnSet p => some (0x22, p)
  | .regenStart p => some (0x23, p)
  | .reservoirAdjust p => some (0x24, p)
  | .statusRead p => some (0x30, p)
  | .statusWrite p => some (0x30, p)
  | .channelRead p => some (0x31, p)
  | .samplesRead p => some (0x32, p)
  | .noticeRead p => some (0x33, p)
  | .contextSnap p => some (0x40, p)
  | .contextRead p => some (0x41, p)
  | .contextWrite p => some (0x42, p)
  | .tripRead p => some (0x48, p)
  | .tripClear p => some (0x49, p)
  | .sync p => some (0x50, p)
  | .reset p => some (0x51, p)
  | .softReset _ => none
  | .powerOn _ => none
  | .linkFrameDiscarded _ => none
  | .linkByteTimeout _ => none
  | .timeTagTick => none
  | .pollDue _ => none
  | .sumpFrameEnd _ => none
  | .sumpResponseTimeout => none
  | .sumpByteGap _ => none
  | .sumpLateBytes _ => none
  | .fillStalled => none
  | .setpointMissed => none
  | .minimumHoldElapsed => none
  | .holdTimeExpiry => none
  | .drainMinimumTimeReached => none
  | .drainTimeout => none
  | .cycleClockTick => none
  | .strokeComplete => none
  | .selectorPositionChange _ => none
  | .selectorTravelTimeout => none
  | .routePulseEnd => none
  | .soakTimeExpiry => none
  | .doorSwitchDebounced _ _ => none
  | .settleTimerExpiry => none
  | .condenseTimeout => none
  | .attemptWindowExpiry => none
  | .restTimerExpiry => none
  | .ventTimeExpiry => none
  | .grantReport _ => none
  | .zeroCrossPulse => none
  | .zeroCrossMissed => none
  | .mainsLossEngine => none
  | .mainsLossSoftener => none
  | .mainsLossSnapshot => none
  | .mainsBackEngine => none
  | .mainsBackSoftener => none
  | .pollFrameEnd => none
  | .responseEnd => none

/-! ## The receiver (R191) -/

/-- The bytes from SOF on end a frame: a LEN of 0 or above 60, or LEN bytes and the two CRC bytes (R191). -/
def frameEnds (bytes : List Byte) : Bool :=
  match bytes with
  | _ :: len :: rest => decide (len.toNat = 0) || decide (60 < len.toNat) || decide (rest.length = len.toNat + 2)
  | _ => false

/-- One byte at the receiver of the link port (R191). -/
def receive : List Byte → Byte → List Byte × Option (List Byte) := assemble 0x5A frameEnds

/-- The frames that end within the bytes given to a receiver (R191). -/
def framesIn (heard : List Byte) : List Byte → List (List Byte)
  | [] => []
  | b :: rest => (receive heard b).2.toList ++ framesIn (receive heard b).1 rest

/-- The receiver is off from the end of a request to the end of its response: while a request waits to be judged, and
while the response is under way (R191). -/
def State.receiverOff (s : State) : Bool := s.link.rxOff || s.pending.any (fun c => (codeOf c).isSome)

/-- The next byte of a frame comes too late: the part heard so far is discarded, and a LINK_BYTE_TIMEOUT that waits for
it is void (R191). -/
def State.dropLate (s : State) : State :=
  if s.link.heard.isEmpty || decide (s.link.byteTimer ≤ byteLimit) then s
  else
    { s with
      link.heard := []
      pending := s.pending.filter (fun c => decide (c ≠ .linkByteTimeout s.link.heard)) }

/-- The host sends one byte: lost while the receiver is off, else taken by it; a frame that ends joins the queue as the
command it makes (R191; DESIGN CHOICE, log 49). -/
def State.hear (s : State) (b : Byte) : State :=
  if s.receiverOff then s
  else
    let s := s.dropLate
    let r := receive s.link.heard b
    { s with
      link.heard := r.1
      link.byteTimer := 0
      pending := s.pending ++ (r.2.map commandOfFrame).toList }

/-- The bytes of a request on the line. -/
def frameOf (c : Instr) : Option (List Byte) := (codeOf c).map (fun x => buildFrame x.1 x.2)

end Sys2Proof.Machine
end

