-- ==== Sys2Proof/WellFormed.lean ====
section
/-! DEFINITION. Well-formed commands: the payload of a request fits one frame and its selector names the row
(R191, R194); the bytes of an event are bytes that can make that event (R25, R191). -/

namespace Sys2Proof

open Machine

/-- The payload fits one frame (R191). -/
def fits (p : List Byte) : Bool := decide (p.length ≤ maxPayload)

/-- The row that the frame of a request reaches is the row itself: the selector or action is the row's own. -/
def ownRow (c : Instr) : Bool :=
  match codeOf c with
  | some (code, p) => decide (requestOf code p = some c)
  | none => false

/-- A request is well-formed. -/
def requestFormed (c : Instr) (p : List Byte) : Bool := fits p && ownRow c

/-- A hunting receiver makes no request of the bytes: they are discarded (R191). -/
def discarded (bytes : List Byte) : Bool := (framesIn [] bytes).all (fun f => !isRequest f)

/-- Bytes of a frame that has started and is not complete: SOF first, no frame ended (R191). -/
def partialFrame (bytes : List Byte) : Bool := decide (bytes.head? = some 0x5A) && (framesIn [] bytes).isEmpty

/-- Bytes of a sump frame that has started and is not complete: SYNC first, no frame ended (R25). -/
def partialSump (bytes : List Byte) : Bool := decide (bytes.head? = some 0xC3) && (sumpFramesIn [] bytes).isEmpty

/-- Well-formed commands. -/
def WellFormed (c : Instr) : Bool :=
  match codeOf c with
  | some (_, p) => requestFormed c p
  | none =>
    match c with
    | .linkFrameDiscarded bytes => discarded bytes
    | .linkByteTimeout bytes => partialFrame bytes
    | .sumpFrameEnd frame => endsReception frame
    | .sumpByteGap bytes => partialSump bytes
    | _ => true

end Sys2Proof
end

