-- ==== Sys2Proof/Certificates/Slice0/Obligations.lean ====
section
/-! DEFINITION. The statements for the provers. A statement on a request begins from a state that is `ready` (between two
events, receiver hunting), and gives the response. `u.settle` is the end of the event (R148) after the request's or the
event's own effect `u`; what it leaves alone is a statement of its own (`EvaluationFrame`).
Where a clause rests on a choice of the model and not on a rule, its docstring names the log entry. Three choices run
through many statements: an event given as a command is the arrival of its timer at the limit, with no effect where the
timer does not run (log 2); parity is a mark of an entry (log 5); and the bytes of fields that the spec does not lay out
are those of log 17. -/

open Sys2Proof Sys2Proof.Machine

/-! ## The machine as a whole -/

/-- One step runs the command at the front of the queue on the state with the queue's rest. -/
def Obligations.StepRunsFrontCommand : Prop :=
  ∀ (c : Instr) (rest : List Instr) (s : State), s.pending = c :: rest → step s = exec c { s with pending := rest }

/-- On an empty queue (the model's choice, logs 1 and 3): reports of the arbiter that wait become commands; else the next of
the events that have fallen due becomes a command, or is dropped where it is due no longer; else 0.1 ms passes, and the
events then due are noted, in some order. With the profiles in effect nothing but the clock, the running timers and the
events noted changes. When an event is due: its timer runs and stands at its limit (a few of them, written out). -/
def Obligations.IdleStepPassesTime : Prop :=
  (∀ s : State, s.pending = [] →
    ∃ t : State, step s = .next t ∧
      (s.dueReports ≠ [] → t.pending.Perm s.dueReports ∧ { t with pending := [], draws := s.draws } = s) ∧
      (∀ c rest, s.dueReports = [] → s.due = c :: rest →
        t = { s with due := rest, pending := if c ∈ s.dueEvents then [c] else [] }) ∧
      (s.dueReports = [] → s.due = [] →
        t.now = s.now + 1 ∧ t.pending = [] ∧ t.due.Perm t.dueEvents ∧
        (s.settled → (∀ p, s.inEffect p) →
          { t with due := [], draws := s.draws } = s.advance ∧
          t.arb.loads = s.arb.loads ∧ t.eng.queue = s.eng.queue ∧ t.eng.state = s.eng.state ∧ t.chan = s.chan
            ∧ t.link.notices = s.link.notices))) ∧
  (∀ s : State,
    (Instr.timeTagTick ∈ s.dueEvents ↔ resolutionPeriod s.link.resolution ≤ s.link.tagPart) ∧
    (∀ h w, s.eng.head = some h → s.washHead = some w →
      (Instr.setpointMissed ∈ s.dueEvents ↔ s.heatRuns = true ∧ w.heatTimeout * 10000 ≤ h.heatTimer) ∧
      (Instr.holdTimeExpiry ∈ s.dueEvents ↔ s.runningIn .hold = true ∧ w.holdTime * 10000 ≤ h.holdTimer) ∧
      (Instr.drainMinimumTimeReached ∈ s.dueEvents ↔
        s.runningIn .drain = true ∧ h.drainTimer = max 1 (w.minTime * 10000))) ∧
    (∀ d, s.dosing.dose = some d →
      (Instr.strokeComplete ∈ s.dueEvents ↔
        s.strokeRuns d = true ∧ (s.dosingProfile d.reservoir).strokePeriod * 10 ≤ d.timer)) ∧
    (∀ p, s.soft.pulse = some p → (Instr.routePulseEnd ∈ s.dueEvents ↔ s.pulseRuns = true ∧ 10000 ≤ p.timer)) ∧
    (Instr.settleTimerExpiry ∈ s.dueEvents ↔ ∃ x, s.door.settle = some x ∧ 30000 ≤ x) ∧
    (∀ i : Fin 16, Instr.pollDue i ∈ s.dueEvents ↔
      s.polling = true ∧ s.bus.poll[i].enabled = true ∧ ∃ x, s.bus.run[i].due = some x ∧ x ≤ s.now) ∧
    (Instr.linkByteTimeout s.link.heard ∈ s.dueEvents ↔ s.link.heard ≠ [] ∧ 50 < s.link.byteTimer) ∧
    (Instr.sumpByteGap s.bus.heard ∈ s.dueEvents ↔ s.bus.heard ≠ [] ∧ 10 < s.bus.byteTimer) ∧
    (Instr.cycleClockTick ∈ s.dueEvents ↔
      s.underWay = true ∧ s.eng.totals.held = false ∧ 10000 ≤ s.eng.totals.part))

/-- No command stops the block: each has a next state, which leaves the waiting commands and the clock alone.
That POWER_ON and SOFT_RESET keep the commands that wait is the model's choice (log 22), and the clock is the model's own
(log 1). -/
def Obligations.CommandsKeepQueueAndClock : Prop :=
  ∀ (c : Instr) (s : State), ∃ t : State, exec c s = .next t ∧ t.pending = s.pending ∧ t.now = s.now

/-- What a power-on leaves (R23, R39, R55, R110, R129, R145, R165, R177, R190, R204), block by block, with the numbers of
those tables written out.
The model's choices in it: the parity marks (log 5), the empty output of the sump line (log 6), the parts of a second and of
a period, the time of the last loss, the reports not taken and the cause of an idle load (log 35), the progress of a path that nobody
holds (log 43), the half-cycle (log 50), and the commands that wait (log 22). -/
def Obligations.PowerOnValues : Prop :=
  ∀ (pins : InputPins) (s : State), ∃ t : State, exec (.powerOn pins) s = .next t ∧
    t.chan = State.reset.chan ∧ t.bus = State.reset.bus ∧ t.eng = State.reset.eng ∧ t.dosing = State.reset.dosing ∧
    t.arb = State.reset.arb ∧ t.trip = State.reset.trip ∧ t.link = State.reset.link ∧
    t.soft = { State.reset.soft with position := if pins.selectorHigh then .a else .b } ∧
    t.door = { State.reset.door with
      inputs := pins
      closed := pins.doorClosed
      latch := pins.latchEngaged
      state :=
        if pins.doorClosed then (if pins.latchEngaged then .latched else .closedUnlatched) else .open } ∧
    t.pending = s.pending ∧
    (∀ i : Fin 32, t.chan.active[i].contents.enabled = false ∧ t.chan.shadow[i].contents.enabled = false ∧
      t.chan.run[i].freshness = .noData ∧ t.chan.run[i].misses = 0 ∧ t.chan.run[i].store.ring = []) ∧
    (∀ i : Fin 8, t.chan.curves[i].contents = { points := [], valid := false }) ∧ t.chan.flags = 0 ∧
    (∀ i : Fin 16, t.bus.poll[i] =
        { enabled := false, satellite := 0, mask := 0, interval := 0, timeout := 0, retry := 0 } ∧
      t.bus.run[i] = { due := none, inDueSet := false, outcome := .none }) ∧
    (∀ i : Fin 4, t.bus.sats[i] = { presence := .unknown, failures := 0 }) ∧ t.bus.tx = none ∧
    t.eng.state = .idle ∧ t.eng.queue = [] ∧ t.eng.totals.clock = 0 ∧
    t.eng.profile.contents =
      { heaterSafe := 40, overfill := 180, tripTemp := 850, maxSetpoint := 750, hysteresis := 20, fillStall := 30
        drainTimeout := 180, strayLimit := 200 } ∧
    (∀ c, t.column c = { state := .offline, cap := 0, due := false, saltReduced := false }) ∧
    t.soft.route = .unset ∧ t.soft.holder = .none ∧ t.soft.regen = none ∧ t.soft.tLast = none ∧ t.soft.stray = 0 ∧
    t.soft.profile.contents =
      { rated := 6000, reserve := 1200, hRes := 50, hFix := 450, k := 480, brineVolume := 600, soakTime := 600
        rinseVolume := 3000, restorePercent := 40, auto := true, travelTimeout := 8 } ∧
    (∀ r, (t.reservoir r).estimate = 0 ∧ (t.reservoir r).lowSeen = false ∧
      (t.reservoir r).profile.contents =
        { capacity := 100000, strokeVolume := 45, strokePeriod := 500, dMin := 100, dMax := 400, lowMark := 10000
          hardCurve := none, soilCurve := none }) ∧
    t.arb.budget = 0 ∧ t.arb.zc.presence = .unknown ∧
    (∀ l, (t.load l).own = none ∧ (t.load l).forced = none ∧ (t.load l).grant = none ∧
      (t.loadEntry l).contents.enabled = false) ∧
    t.trip.latch = false ∧ t.trip.record.reason = .none ∧ t.trip.integrity = none ∧
    t.link.mode = .standby ∧ t.link.notices = [] ∧ t.link.threshold = 2 ∧ t.link.attn = false ∧ t.link.timeTag = 0 ∧
    t.link.resolution = .ms100 ∧ t.link.image = none

/-- The reset state keeps every promise that the invariants below carry on.
The levels of the switch inputs in `State.reset` are the model's choice (log 4). -/
def Obligations.ResetKeepsPromises : Prop :=
  State.reset.budgetKept ∧ State.reset.mainsKept ∧ State.reset.floodKept ∧ State.reset.tripGrantsKept ∧
    State.reset.tripEngineKept ∧ State.reset.noticesKept ∧ State.reset.queueKept ∧ State.reset.stagingKept ∧
    State.reset.serviceKept ∧ State.reset.ready

/-- G stays within B, and no load is granted without mains, through every step (R149, R151). -/
def Obligations.StepKeepsBudgetAndMains : Prop :=
  ∀ s t : State, s.budgetKept → s.mainsKept → s.settled → step s = .next t →
    t.budgetKept ∧ t.mainsKept ∧ t.settled

/-- While the latch is set only DRAIN_PUMP under FLOOD is granted, the queue is empty, and the engine is TRIPPED in RUN
mode and IDLE outside it, through every step (R54, R154, R170). -/
def Obligations.StepKeepsTripLocks : Prop :=
  ∀ s t : State, s.floodKept → s.tripGrantsKept → s.tripEngineKept → s.settled → step s = .next t →
    t.floodKept ∧ t.tripGrantsKept ∧ t.tripEngineKept ∧ t.settled

/-- The notice queue never holds more than 32 notices (R197).
The phase queue holds at most 8 records with distinct tags (R45); the staging keeps what a restore needs for it.
At most one column is in SERVICE (R83). -/
def Obligations.StepKeepsQueuesAndColumns : Prop :=
  (∀ s t : State, s.noticesKept → step s = .next t → t.noticesKept) ∧
  (∀ s t : State, s.queueKept → s.stagingKept → step s = .next t → t.queueKept ∧ t.stagingKept) ∧
  (∀ s t : State, s.serviceKept → step s = .next t → t.serviceKept)

/-- What the end of an event leaves alone: the channel unit, the bus, the tables, the budget, the zero-cross watch, the
position and hold set of the softener with its capacities and accounting, the reservoirs, the door's readings and state,
the mode, the time tag, the image, the staging, the forced requests, the queue of commands and the clock.
Where no trip sets the latch in it, it leaves more: the path's holder, its progress, the columns, the selector's move and the
regeneration; a dose that is not there; every owner's request but those of INLET_VALVE (which follows BRINE_VALVE) and of
the dose pumps (which an empty reservoir releases); and with the machine profile in effect the whole engine but the stall
timer. -/
def Obligations.EvaluationFrame : Prop :=
  ∀ s : State,
    (s.settle.chan = s.chan ∧ s.settle.bus = s.bus ∧ s.settle.arb.active = s.arb.active ∧
    s.settle.arb.shadow = s.arb.shadow ∧ s.settle.arb.budget = s.arb.budget ∧ s.settle.arb.zc = s.arb.zc ∧
    (∀ l, (s.settle.load l).forced = (s.load l).forced) ∧
    s.settle.soft.position = s.soft.position ∧ s.settle.soft.hold = s.soft.hold ∧
    s.settle.soft.vFill = s.soft.vFill ∧ s.settle.soft.u = s.soft.u ∧
    (∀ c, (s.settle.column c).cap = (s.column c).cap ∧ (s.settle.column c).due = (s.column c).due) ∧
    s.settle.soft.profile = s.soft.profile ∧ s.settle.eng.profile = s.eng.profile ∧
    s.settle.dosing.det = s.dosing.det ∧ s.settle.dosing.rinse = s.dosing.rinse ∧
    s.settle.door.inputs = s.door.inputs ∧ s.settle.door.state = s.door.state ∧
    s.settle.link.mode = s.link.mode ∧ s.settle.link.timeTag = s.link.timeTag ∧
    s.settle.link.threshold = s.link.threshold ∧ s.settle.link.image = s.link.image ∧
    s.settle.link.staging = s.link.staging ∧ s.settle.pending = s.pending ∧ s.settle.now = s.now) ∧
    (s.settle.trip.latch = s.trip.latch →
      s.settle.soft.holder = s.soft.holder ∧ s.settle.soft.progress = s.soft.progress ∧
      s.settle.soft.waiting = s.soft.waiting ∧ s.settle.soft.move = s.soft.move ∧ s.settle.soft.regen = s.soft.regen ∧
      (∀ c, s.settle.column c = s.column c) ∧ (s.dosing.dose = none → s.settle.dosing.dose = none) ∧
      (∀ l, l ≠ .inletValve → l ≠ .doseDet → l ≠ .doseRinse → (s.settle.load l).own = (s.load l).own) ∧
      (s.inEffect .machine →
        ∃ n, s.settle.eng = { s.eng with head := s.eng.head.map (fun h => { h with stallTimer := n }) }))

/-- The end of an event with an evaluation due (R148 to R152, R154 to R156), where the arbiter's own request of DRAIN_PUMP
stands only under a FLOOD trip (`StepKeepsTripLocks`): none is due any more, G is within B,
nothing is granted without mains, and with the latch set nothing but DRAIN_PUMP under FLOOD; each granted load is
requested and available; HEATER has CIRC_PUMP granted and a FRESH level at or above heater-safe; INLET_VALVE has a holder
of the path that is SET, and on TUB the door LATCHED and DRAIN_PUMP not granted; a requested load that is not granted
waits UNAVAILABLE, for its INTERLOCK, or for the BUDGET (R149).
The grant pass (R157, R158): where every grant may stand, the one load that waits, its interlock holding and its watts in the
room, is granted in full, and no other grant but HEATER's changes. At its turn a candidate whose interlock holds is granted
in full if its watts fit, HEATER at HALF if only those fit, else after preemption of sheddable loads of strictly higher
priority number, each with LOAD_SHED, where they make the room, and else not at all. HEATER at HALF goes to FULL where the
difference fits (R159).
One evaluation within an event (R148, R149, R168, R169): the grants of loads no longer requested end, the passes are made,
DRAIN_PUMP and INLET_VALVE take the TABLE trip where they are requested and damaged, the first grant in SERVICE judges
SENSOR_LOST, and the owner of every load whose grant has changed takes its report, as the grant stands; a further evaluation
follows where one is due. So an evaluation with a damaged DRAIN_PUMP or INLET_VALVE requested, or the first grant in SERVICE
with a role lost, sets the latch.
The model's choices: the order of the reports (log 34), of the trips (log 60) and of the two roles (log 59), and reports that
wait after eight evaluations (log 10); DRAIN_PUMP or INLET_VALVE whose interlock comes to hold after its turn waits for the
BUDGET (log 77); HEATER does not preempt CIRC_PUMP, its own interlock (log 11), and a HEATER that falls with a preempted
CIRC_PUMP has no LOAD_SHED of its own (log 58). -/
def Obligations.EvaluationPlacesGrants : Prop :=
  (∀ s : State, s.arb.evalDue = true → s.floodKept →
    s.settle.settled ∧ s.settle.budgetKept ∧ s.settle.mainsKept ∧
    (s.settle.trip.latch = true → ∀ l, (s.settle.load l).grant ≠ none → l = .drainPump ∧ s.settle.arb.flood = true) ∧
    (∀ l, s.settle.isGranted l = true → s.settle.requested l = true ∧ s.settle.available l = true) ∧
    (s.settle.isGranted .heater = true →
      s.settle.isGranted .circPump = true ∧ s.settle.fresh .tubLevel = true ∧
        (s.settle.machine.heaterSafe : Int) ≤ s.settle.roleValue .tubLevel) ∧
    (s.settle.isGranted .inletValve = true →
      s.settle.soft.holder ≠ .none ∧ s.settle.soft.progress = .set ∧
        (s.settle.soft.route = .tub →
          s.settle.door.state = .latched ∧ s.settle.isGranted .drainPump = false)) ∧
    (∀ l, s.settle.requested l = true → s.settle.isGranted l = false →
      (s.settle.load l).cause =
        (if s.settle.available l = false then .unavailable
          else if s.settle.interlock l = false then .interlock else .budget))) ∧
  (∀ (s : State) (l : LoadId), s.inEffect .machine → s.budgetKept →
      (∀ k, s.isGranted k = true → s.requested k = true ∧ s.available k = true ∧ s.interlock k = true) →
      (∀ k, s.candidate k = true ↔ k = l) → s.interlock l = true → (s.loadEntry l).contents.rated ≤ s.room →
      (s.passes.load l).grant = some .full ∧
        ∀ k, k ≠ l → k ≠ .heater → (s.passes.load k).grant = (s.load k).grant) ∧
  (∀ (s : State) (l : LoadId), s.candidate l = true → s.interlock l = true →
      ((s.loadEntry l).contents.rated ≤ s.room → s.turn l = s.setGrant l (some .full)) ∧
      (s.room < (s.loadEntry l).contents.rated →
        (l = .heater → (s.loadEntry l).contents.half ≤ s.room → s.turn l = s.setGrant l (some .half)) ∧
        ((l = .heater → s.room < (s.loadEntry l).contents.half) →
          (s.canShed l (s.loadEntry l).contents.rated = false →
            (l = .heater → s.canShed l (s.loadEntry l).contents.half = false) → s.turn l = s) ∧
          (∀ need grant, s.budgetKept → s.canShed l need = true →
            (need = (s.loadEntry l).contents.rated ∧ grant = .full ∨
              l = .heater ∧ s.canShed l (s.loadEntry l).contents.rated = false ∧ need = (s.loadEntry l).contents.half ∧
                grant = .half) →
            ∃ (t : State) (ks : List LoadId), s.turn l = t.setGrant l (some grant) ∧ need ≤ t.room ∧ ks ≠ [] ∧
              (∀ k ∈ ks, s.isGranted k = true ∧ (s.loadEntry k).contents.sheddable = true ∧
                s.priority l < s.priority k ∧ (t.load k).grant = none) ∧
              (∀ k, k ∉ ks → (k = .heater → .circPump ∉ ks) → t.load k = s.load k) ∧
              t.link =
                (ks.map (fun k => s.notice .loadShed 6 (loadIndex k).val (loadIndex l).val)).foldl LinkUnit.post
                  s.link)))) ∧
  (∀ s : State, (s.load .heater).grant = some .half →
      (s.loadEntry .heater).contents.rated + s.totalWatts ≤ s.arb.budget + (s.loadEntry .heater).contents.half →
      s.upgrade = s.setGrant .heater (some .full)) ∧
  (∀ (s : State) (n : Nat),
      s.settle = s.settleFor 8 ∧ (s.arb.evalDue = false → s.settle = s ∧ s.settleFor n = s) ∧
      (s.arb.evalDue = true → s.settleFor (n + 1) = s.round.settleFor n)) ∧
  (∀ s : State,
      let b := s.dropReleased
      let a := b.passes
      let changed := allLoads.filter (fun l => decide ((a.load l).grant ≠ (b.load l).grant))
      let c := (a.tableTrip .drainPump).tableTrip .inletValve
      { b with arb.loads := s.arb.loads } = s ∧
      (∀ l, b.load l = if s.requested l = true then s.load l else { s.load l with grant := none }) ∧
      (s.link.mode = .service ∧ (∀ l, b.isGranted l = false) ∧ (∃ l, c.isGranted l = true) →
        s.round = changed.foldl State.ownerReport c.judgeSensorsNow) ∧
      (s.link.mode ≠ .service ∨ (∃ l, b.isGranted l = true) ∨ (∀ l, c.isGranted l = false) →
        s.round = changed.foldl State.ownerReport c) ∧
      (∀ l, s.tableTrip l =
        if s.requested l = true ∧ (s.loadEntry l).sound = false then
          s.tripCause { reason := .table, source := some (loadIndex l).val, value := 0, lost := none }
        else s) ∧
      (let lost := fun (r : Role) (x : State) =>
        if x.roleFreshness r = .stale ∨ x.roleFreshness r = .faulted then
          x.tripCause { reason := .sensorLost, source := x.roleSource r, value := x.roleValue r, lost := some r }
        else x
       s.judgeSensorsNow = lost .tubLevel (lost .tubTemp s))) ∧
  (∀ (s : State) (l : LoadId), s.arb.evalDue = true → s.link.mode ≠ .standby → s.trip.latch = false →
      s.requested l = true → (s.loadEntry l).sound = false →
      (l = .drainPump ∨ l = .inletValve ∧ ¬(s.requested .drainPump = true ∧ (s.loadEntry .drainPump).sound = false)) →
      s.settle.trip.latch = true ∧ s.settle.trip.tableMark = true ∧ s.settle.trip.record.reason = .table ∧
        s.settle.trip.record.source = some (loadIndex l).val) ∧
  (∀ (s : State) (r : Role), s.arb.evalDue = true → s.link.mode = .service → s.trip.latch = false →
      (∀ l, s.isGranted l = true → s.requested l = false) → (∃ l, s.dropReleased.passes.isGranted l = true) →
      (∀ l, l = .drainPump ∨ l = .inletValve → s.requested l = true → (s.loadEntry l).sound = true) →
      (s.roleFreshness r = .stale ∨ s.roleFreshness r = .faulted) →
      (r = .tubTemp ∨ r = .tubLevel ∧ s.roleFreshness .tubTemp ≠ .stale ∧ s.roleFreshness .tubTemp ≠ .faulted) →
      s.settle.trip.latch = true ∧ s.settle.trip.record.reason = .sensorLost ∧ s.settle.trip.lostRole = some r ∧
        s.settle.trip.record.source = s.roleSource r)

/-- A posting (R197): it joins a queue below 32; at 32 a notice of level 1 or 2 takes the place of the newest one of the
highest level, if that is above its own, and any other is dropped; both set the overrun flag. The line is judged on the
queue as it then stands (R199). -/
def Obligations.PostingRule : Prop :=
  ∀ (l : LinkUnit) (n : Notice),
    (l.notices.length < 32 → (l.post n).notices = l.notices ++ [n] ∧ (l.post n).overrun = l.overrun) ∧
    (32 ≤ l.notices.length → (l.post n).overrun = true ∧
      ((∃ (a b : List Notice) (m : Notice), n.level ≤ 2 ∧ l.notices = a ++ m :: b ∧ n.level < m.level ∧
          (∀ x ∈ l.notices, x.level ≤ m.level) ∧ (∀ x ∈ b, x.level < m.level) ∧
          (l.post n).notices = a ++ b ++ [n])
        ∨ ((2 < n.level ∨ ∀ x ∈ l.notices, x.level ≤ n.level) ∧ (l.post n).notices = l.notices))) ∧
    ((l.post n).attn = true ↔ ∃ x ∈ (l.post n).notices, x.level ≤ l.threshold)

/-! ## Frames, records and the image -/

/-- A request's frame is read back as the request (R191, R192): no byte of the code or the payload is dropped.
Every frame that is a request names one well-formed command, whose frame it is; every other complete frame is
discarded (R191).
The receiver (R191): noise without SOF before a request's frame is dropped and the request taken; a LEN of 0 or above 60 ends
the frame at once; a byte that comes while the receiver is off is lost; one that comes more than 5 ms after the byte before
it finds the partial frame discarded, with no LINK_BYTE_TIMEOUT left for it.
Which row a frame with an unknown selector goes to is the model's choice (log 19), and so is the form in which the bytes
reach the receiver (log 49). -/
def Obligations.FramesAndRequestsAgree : Prop :=
  (∀ (c : Instr) (bytes : List Byte), WellFormed c = true → frameOf c = some bytes →
      bytes.length ≤ 64 ∧ isRequest bytes = true ∧ commandOfFrame bytes = c) ∧
  (∀ bytes : List Byte,
      (isRequest bytes = true →
        WellFormed (commandOfFrame bytes) = true ∧ frameOf (commandOfFrame bytes) = some bytes) ∧
      (isRequest bytes = false → commandOfFrame bytes = .linkFrameDiscarded bytes)) ∧
  (∀ (s : State) (noise frame : List Byte), s.receiverOff = false → s.link.heard = [] → (0x5A : Byte) ∉ noise →
      isRequest frame = true →
      (noise ++ frame).foldl State.hear s =
        { s with link.byteTimer := 0, pending := s.pending ++ [commandOfFrame frame] }) ∧
  (∀ (s : State) (len : Byte), s.receiverOff = false → s.link.heard = [] → (len.toNat = 0 ∨ 60 < len.toNat) →
      [0x5A, len].foldl State.hear s =
        { s with link.byteTimer := 0, pending := s.pending ++ [.linkFrameDiscarded [0x5A, len]] }) ∧
  (∀ (s : State) (b : Byte), s.receiverOff = true → s.hear b = s) ∧
  (∀ (s : State) (b : Byte), s.receiverOff = false → s.link.heard ≠ [] → 50 < s.link.byteTimer →
      s.hear b =
        { s with
          link.heard := if b = 0x5A then [b] else []
          link.byteTimer := 0
          pending := s.pending.filter (fun c => decide (c ≠ .linkByteTimeout s.link.heard)) })

/-- A phase record that passes the field tests is written and read back as itself (R41, R42, R44, R185).
Table entries and profiles in range are written and read back as themselves (R1, R27, R51, R87, R112, R146,
R194). -/
def Obligations.RecordsAndEntriesReadBack : Prop :=
  (∀ (payload : List Byte) (p : PhaseRecord), readRecord payload = some p →
      readRecord (recordBytes p) = some p ∧ recordLengthGood (recordBytes p) = true) ∧
  ((∀ l e, readChannel l = some e → readChannel (channelBytes e) = some e) ∧
    (∀ l e, readPoll l = some e → readPoll (pollBytes e) = some e) ∧
    (∀ id l e, readLoad id l = some e → readLoad id (loadBytes e) = some e) ∧
    (∀ l pts, readPoints l = some pts → readPoints (pts.flatMap pointBytes) = some pts) ∧
    (∀ p : MachineProfile, p.inRange = true → readMachine (machineBytes p) = some p) ∧
    (∀ p : SoftenerProfile, p.inRange = true → readSoftener (softenerBytes p) = some p) ∧
    (∀ l p, readDosing l = some p → readDosing (dosingBytes p) = some p))

/-- An image has 16 records of 16 bytes, and bytes 14 and 15 of the last hold the sum of the others, which never wraps
(R185, 10 10.5). Each record carries its part of the state in the layout of 10.5: the header; the queue slots with their phase
records, head first; the running stage with its timer, V_fill and U; the two columns; the regeneration and the accounting;
the reservoirs with the dose in flight; the totals and the flags. Bytes that the layout does not list are 0. A number takes the
width of its field; `ContextWriteStagesAndRestores` reads the same bytes back.
That the head tag is 0 with stage none, also where a queue waits, is the model's choice (log 62), and so is what an attempt's
timers hold once it has ended (log 57). -/
def Obligations.ImageHasSixteenRecords : Prop :=
  ∀ (s : State) (reason : Nat),
    (s.image reason).records.length = 16 ∧ (∀ r ∈ (s.image reason).records, r.length = 16) ∧
    (s.image reason).phases.length = 8 ∧ imageSum (s.imageBody reason) ≤ 61200 ∧
    wordAt (((s.image reason).records[15]?).getD []) 14 = imageSum (s.imageBody reason) ∧
    (let r := fun (k : Nat) => ((s.image reason).records[k]?).getD []
      let zero := fun (k : Nat) (bytes : List Nat) => ∀ b ∈ bytes, byteAt (r k) b = 0
      (byteAt (r 0) 0 = 16 ∧ byteAt (r 0) 1 = 1 ∧ byteAt (r 0) 2 = reason % 256 ∧ byteAt (r 0) 3 = modeCode s.link.mode ∧
        wordAt (r 0) 4 = s.link.timeTag.toNat ∧ byteAt (r 0) 6 = s.eng.queue.length % 256 ∧
        zero 0 [7, 8, 9, 10, 11, 12, 13, 14, 15]) ∧
      (∀ n < 8,
        (s.eng.queue[n]? = none → r (n + 1) = List.replicate 16 0 ∧ (s.image reason).phases[n]? = some []) ∧
        (∀ p, s.eng.queue[n]? = some p →
          byteAt (r (n + 1)) 0 = 1 ∧ byteAt (r (n + 1)) 1 = p.tag % 256 ∧ byteAt (r (n + 1)) 2 = kindCode p.body ∧
          byteAt (r (n + 1)) 3 = (recordBytes p).length ∧ wordAt (r (n + 1)) 4 = byteSum (recordBytes p) ∧
          byteAt (r (n + 1)) 6 = p.setMask.toNat ∧ byteAt (r (n + 1)) 7 = p.clearMask.toNat ∧
          zero (n + 1) [8, 9, 10, 11, 12, 13, 14, 15] ∧ (s.image reason).phases[n]? = some (recordBytes p))) ∧
      (wordAt (r 9) 7 = s.soft.vFill % 65536 ∧ wordAt (r 9) 9 = s.soft.u % 65536 ∧ zero 9 [12, 13, 14, 15] ∧
        (s.eng.head = none → zero 9 [0, 1, 2, 3, 4, 5, 6, 11]) ∧
        (∀ h, s.eng.head = some h →
          byteAt (r 9) 0 = stageCode h.stage ∧ (bitAt (r 9) 1 0 = true ↔ h.runMark = .resumed) ∧
          bitAt (r 9) 1 1 = h.thermostat ∧ bitAt (r 9) 1 2 = h.doseBegun ∧ bitAt (r 9) 1 3 = h.cancelling ∧
          byteAt (r 9) 1 / 16 = capturedCode h.captured ∧ byteAt (r 9) 2 = h.repeats % 256 ∧
          (byteAt (r 9) 3 * 65536 + wordAt (r 9) 4) =
            (match h.stage with
              | .fill => h.stallTimer
              | .circulate => h.heatTimer
              | .hold => h.holdTimer
              | .drain => h.drainTimer
              | .condense => (s.door.dry.map DryRecord.condense).getD 0
              | .opening => (s.door.dry.map DryRecord.rest).getD 0
              | .vent => (s.door.dry.map DryRecord.vent).getD 0) / 1000 % 16777216 ∧
          (s.door.dry = none → byteAt (r 9) 6 = 0) ∧
          (∀ d, s.door.dry = some d → d.attempt ≤ 3 →
            byteAt (r 9) 6 % 4 = d.attempt ∧
            byteAt (r 9) 6 / 4 % 4 =
              (match d.attState with
                | .none => 0
                | .requested => 1
                | .pushing => 1
                | .resting => 3) ∧
            byteAt (r 9) 6 / 16 = openedByCode d.openedBy) ∧
          byteAt (r 9) 11 = ((s.eng.queue.head?).map PhaseRecord.tag).getD 0 % 256)) ∧
      (∀ k c, (k = 10 ∧ c = s.soft.colA ∨ k = 11 ∧ c = s.soft.colB) →
        byteAt (r k) 0 = columnStateCode c.state ∧ bitAt (r k) 1 0 = c.due ∧ bitAt (r k) 1 1 = c.saltReduced ∧
        wordAt (r k) 2 = c.cap % 65536 ∧ zero k [4, 5, 6, 7, 8, 9, 10, 11, 12, 13, 14, 15]) ∧
      ((s.soft.regen = none → zero 12 [0, 1, 2, 3, 4, 5]) ∧
        (∀ g, s.soft.regen = some g →
          byteAt (r 12) 0 = (if g.column = .a then 1 else 2) ∧ byteAt (r 12) 1 = regenStageCode g.stage ∧
          wordAt (r 12) 2 = g.volume % 65536 ∧ wordAt (r 12) 4 = g.soakTimer / 1000 % 65536) ∧
        byteAt (r 12) 6 = sideCode s.soft.position ∧ wordAt (r 12) 7 = s.soft.rf % 65536 ∧
        wordAt (r 12) 9 = s.soft.rl % 65536 ∧ bitAt (r 12) 11 0 = s.soft.exhaustedMark ∧
        bitAt (r 12) 11 1 = s.soft.flipTried ∧
        (s.soft.pulse = none ∨ s.granted .routeValve = true → byteAt (r 12) 12 = routeCode s.soft.route) ∧
        (∀ p, s.soft.pulse = some p → 0 < p.timer → s.granted .routeValve = false → byteAt (r 12) 12 = 0) ∧
        zero 12 [13, 14, 15]) ∧
      (∀ k v, (k = 13 ∧ v = .det ∨ k = 14 ∧ v = .rinse) →
        wordAt (r k) 0 * 65536 + wordAt (r k) 2 = (s.reservoir v).estimate % 4294967296 ∧
        bitAt (r k) 4 0 = (s.reservoir v).lowSeen ∧ zero k [7, 8, 9, 10, 11, 12, 13, 14, 15] ∧
        (∀ d, s.dosing.dose = some d → d.reservoir = v →
          bitAt (r k) 4 1 = true ∧ byteAt (r k) 5 = d.total % 256 ∧ byteAt (r k) 6 = d.done % 256) ∧
        ((∀ d, s.dosing.dose = some d → d.reservoir ≠ v) → bitAt (r k) 4 1 = false ∧ zero k [5, 6])) ∧
      wordAt (r 15) 0 = s.eng.totals.extraRinses % 65536 ∧ wordAt (r 15) 2 = s.eng.totals.doses % 65536 ∧
      wordAt (r 15) 4 * 65536 + wordAt (r 15) 6 = s.eng.totals.clock % 4294967296 ∧
      byteAt (r 15) 8 = s.chan.flags.toNat ∧ zero 15 [9, 10, 11, 12, 13])

/-! ## Arithmetic of the channels, the softener and the doses -/

/-- The eight condition codes with their numbers (R16).
The filter (R8): the first sample after NO_DATA or STALE sets the filtered value; else it moves by the difference
shifted right by k toward zero, never past the converted value. -/
def Obligations.ConditionsAndFilter : Prop :=
  (∀ v t : Int,
      ((condOfCode 0).map (·.holds v t)) = some true ∧
      ((condOfCode 1).map (·.holds v t)) = some (decide (v > t)) ∧
      ((condOfCode 2).map (·.holds v t)) = some (decide (v = t)) ∧
      ((condOfCode 3).map (·.holds v t)) = some (decide (v < t)) ∧
      ((condOfCode 4).map (·.holds v t)) = some false ∧
      ((condOfCode 5).map (·.holds v t)) = some (decide (v ≥ t)) ∧
      ((condOfCode 6).map (·.holds v t)) = some (decide (v ≠ t)) ∧
      ((condOfCode 7).map (·.holds v t)) = some (decide (v ≤ t)) ∧
      ∀ n, 8 ≤ n → condOfCode n = none) ∧
  (∀ (before : Freshness) (old conv : Int) (k : Nat),
      ((before = .noData ∨ before = .stale) → filterStep before old conv k = conv) ∧
      (before ≠ .noData → before ≠ .stale →
        filterStep before old conv k = old + Int.sign (conv - old) * (((conv - old).natAbs / 2 ^ k : Nat) : Int)) ∧
      (k = 0 → filterStep before old conv k = conv) ∧
      (before ≠ .noData → before ≠ .stale → (conv - old).natAbs < 2 ^ k → filterStep before old conv k = old) ∧
      min old conv ≤ filterStep before old conv k ∧ filterStep before old conv k ≤ max old conv)

/-- A valid curve passes through its points, is flat outside them, and stays between the y values of a segment (R3). -/
def Obligations.CurveEvaluation : Prop :=
  ∀ (pts : List (Nat × Int)), pointsValid pts = true → (∀ p ∈ pts, p.1 ≤ 4095 ∧ -32768 ≤ p.2 ∧ p.2 ≤ 32767) →
    (∀ p ∈ pts, evalPoints pts p.1 = p.2) ∧
    (∀ p rest, pts = p :: rest → ∀ x ≤ (p.1 : Int), evalPoints pts x = p.2) ∧
    (∀ p front, pts = front ++ [p] → ∀ x ≥ (p.1 : Int), evalPoints pts x = p.2) ∧
    (∀ front p q rest, pts = front ++ p :: q :: rest → ∀ x : Int, (p.1 : Int) ≤ x → x < q.1 →
      evalPoints pts x = p.2 + Int.tdiv ((x - p.1) * (q.2 - p.2)) ((q.1 : Int) - p.1) ∧
      min p.2 q.2 ≤ evalPoints pts x ∧ evalPoints pts x ≤ max p.2 q.2)

/-- Pulses become whole millilitres without loss (R96, R97), and go to one place. A fill's raise V_fill, its hardness
becomes load without loss (R100), and the load is taken by the service column or raises U (R101). A regeneration's raise its
stage volume (R99), which ends REGEN_BRINE at the brine volume (R105) and REGEN_RINSE, with REGEN_DONE, at the rinse volume
(R107). Without a grant to a holder they are stray, and a stray volume left above the limit is reported for INLET_FLOW
(R98). What goes to one place leaves the others. -/
def Obligations.FlowAccounting : Prop :=
  ∀ (s : State) (total : Nat) (before : Freshness), s.inEffect .softener → s.inEffect .machine → 0 < s.softener.k →
    let d := pulseDelta s.soft.tLast total before
    let r := s.flowHandoff total before
    ∃ v, v * s.softener.k + (s.soft.rf + d * 1000) % s.softener.k = s.soft.rf + d * 1000 ∧
      r.1.soft.rf = (s.soft.rf + d * 1000) % s.softener.k ∧ r.1.soft.tLast = some total ∧
      (s.inletTo .fill = true →
        r.2 = .volume v ∧ r.1.soft.vFill = min 65535 (s.soft.vFill + v) ∧ r.1.soft.stray = s.soft.stray ∧
        r.1.soft.regen = s.soft.regen ∧
        ∃ load, load * 1000 + r.1.soft.rl = s.soft.rl + (s.inletHardness - s.softener.hRes) * v ∧
          r.1.soft.rl < 1000 ∧
          (∀ c, s.serviceColumn = some c →
            (r.1.column c).cap = (s.column c).cap - min load (s.column c).cap ∧
            r.1.soft.u = min 65535 (s.soft.u + (load - min load (s.column c).cap)) ∧
            r.1.column (otherSide c) = s.column (otherSide c)) ∧
          (s.serviceColumn = none → r.1.soft.u = min 65535 (s.soft.u + load) ∧ ∀ c, r.1.column c = s.column c)) ∧
      (s.inletTo .fill = false → r.1.soft.vFill = s.soft.vFill ∧ r.1.soft.u = s.soft.u ∧ r.1.soft.rl = s.soft.rl) ∧
      (∀ g, s.inletTo .regen = true → s.soft.regen = some g →
        let volume := min 65535 (g.volume + v)
        let full :=
          match g.stage with
          | .brine => decide (s.softener.brineVolume ≤ volume)
          | .rinse => decide (s.softener.rinseVolume ≤ volume)
          | .soak => false
        let capacity :=
          if (s.column g.column).saltReduced then s.softener.rated * s.softener.restorePercent / 100 else s.softener.rated
        r.2 = .nothing ∧ r.1.soft.stray = s.soft.stray ∧
        (full = false →
          r.1.soft.regen = some { g with volume := volume } ∧ (∀ c, r.1.column c = s.column c) ∧ r.1.link = s.link) ∧
        (full = true → g.stage = .brine →
          r.1.soft.regen = some { g with volume := volume, stage := .soak, flowing := false, soakTimer := 0 } ∧
          r.1.column g.column = { s.column g.column with state := .soak } ∧
          r.1.column (otherSide g.column) = s.column (otherSide g.column) ∧ r.1.soft.holder = .none ∧
          (r.1.load .brineValve).own = none ∧ (r.1.load .inletValve).own = none ∧ r.1.link = s.link) ∧
        (full = true → g.stage = .rinse →
          r.1.column g.column =
            { s.column g.column with
              state := .ready, cap := capacity, due := decide (capacity ≤ s.softener.reserve) } ∧
          (r.1.column (otherSide g.column)).cap = (s.column (otherSide g.column)).cap ∧
          ((s.column (otherSide g.column)).state ≠ .exhausted →
            r.1.soft.regen = none ∧ r.1.soft.holder = .none ∧
            r.1.link = s.link.post (s.notice .regenDone 5 (sideCode g.column) capacity)))) ∧
      (s.inletTo .fill = false → s.inletTo .regen = false →
        r.1.soft.stray = min 65535 (s.soft.stray + v) ∧ (∀ c, r.1.column c = s.column c) ∧
        r.1.soft.regen = s.soft.regen ∧ r.1.link = s.link ∧
        r.2 = (if v ≠ 0 ∧ s.machine.strayLimit < r.1.soft.stray then .stray r.1.soft.stray else .nothing))

/-- The hardness of the water of the last fill (R103). The dose and its strokes (R117).
A factor comes from its curve, clamped to 64 to 1024; it is 256 without a curve, with SOIL_DEFAULT for a TURBIDITY that is
not FRESH, and with DOSE_CURVE_INVALID for a curve that is not valid, and with an integrity error for a
valid one that is damaged (R115, R116). At the dose point (R114, R117, R118) an
empty reservoir skips the dose with DOSE_EMPTY, a dose of no strokes ends with DOSE_DONE and is counted, and any other is
made and its pump requested; a dose still in flight then is abandoned first, with DOSE_SHORT and its pump released. Where
the pump stands granted to it the new dose starts its first stroke at once, and else it waits for the grant (R119). The low
switch asserted lowers the estimate to the low mark, with RESERVOIR_LOW once (R125).
That the softener is asked for h_tub wherever a curve is named, that SOIL_DEFAULT comes before an invalid curve, and what
becomes of a dose in flight at the dose point, are the model's choices (logs 46, 44 and 61), and so is a curve that is
invalid judged before its parity (log 25); that a standing grant counts as the grant (log 52), and that the dose point is
reached once in a run also where the run was restored (log 33), are its readings. -/
def Obligations.DoseRule : Prop :=
  (∀ s : State,
      (s.soft.vFill = 0 → s.tubHardness = s.softener.hRes) ∧
      (s.soft.vFill ≠ 0 → s.tubHardness = min 2000 (s.softener.hRes + s.soft.u * 1000 / s.soft.vFill)) ∧
      (s.soft.u = 0 → s.softener.hRes ≤ 2000 → s.tubHardness = s.softener.hRes)) ∧
  (∀ (p : DosingProfile) (dBase fh fs : Nat), p.inRange = true →
      computeDose p dBase fh fs = max p.dMin (min p.dMax ((dBase * fh * fs + 32768) / 65536)) ∧
      p.dMin ≤ computeDose p dBase fh fs ∧ computeDose p dBase fh fs ≤ p.dMax ∧
      strokesFor p (computeDose p dBase fh fs)
        = min 255 ((computeDose p dBase fh fs * 10 + p.strokeVolume - 1) / p.strokeVolume) ∧
      (strokesFor p (computeDose p dBase fh fs) < 255 →
        computeDose p dBase fh fs * 10 ≤ strokesFor p (computeDose p dBase fh fs) * p.strokeVolume) ∧
      (dBase = 0 → p.dMin = 0 → strokesFor p (computeDose p dBase fh fs) = 0) ∧
      strokesFor { p with strokeVolume := 10 } 600 = 255) ∧
  (∀ (s : State) (r : Reservoir) (tag : Nat), s.inEffect .softener →
      ((s.dosingProfile r).hardCurve = none → s.hardnessFactor r = (s, 256)) ∧
      ((s.dosingProfile r).soilCurve = none → s.soilFactor r tag = (s, 256)) ∧
      (∀ n, (s.dosingProfile r).soilCurve = some n → s.fresh .turbidity = false →
        s.soilFactor r tag = (s.post .soilDefault 4 tag (reservoirCode r), 256)) ∧
      (∀ i : Fin 8,
        (s.chan.curves[i].contents.valid = false →
          ((s.dosingProfile r).hardCurve = some i.val →
            s.hardnessFactor r = (s.post .doseCurveInvalid 3 i.val (reservoirCode r), 256)) ∧
          ((s.dosingProfile r).soilCurve = some i.val → s.fresh .turbidity = true →
            s.soilFactor r tag = (s.post .doseCurveInvalid 3 i.val (reservoirCode r), 256))) ∧
        (s.chan.curves[i].contents.valid = true → s.chan.curves[i].sound = false →
          ((s.dosingProfile r).hardCurve = some i.val →
            s.hardnessFactor r = (s.integrityError .curve (some .active) i.val, 256)) ∧
          ((s.dosingProfile r).soilCurve = some i.val → s.fresh .turbidity = true →
            s.soilFactor r tag = (s.integrityError .curve (some .active) i.val, 256))) ∧
        (s.chan.curves[i].contents.valid = true → s.chan.curves[i].sound = true →
          ((s.dosingProfile r).hardCurve = some i.val →
            s.hardnessFactor r =
              (s, (max 64 (min 1024 (evalPoints s.chan.curves[i].contents.points s.tubHardness))).toNat)) ∧
          ((s.dosingProfile r).soilCurve = some i.val → s.fresh .turbidity = true →
            s.soilFactor r tag =
              (s, (max 64 (min 1024 (evalPoints s.chan.curves[i].contents.points (s.roleValue .turbidity)))).toNat))))) ∧
  (∀ (s : State) (r : Reservoir) (dBase tag : Nat) (d : Dose), s.dosing.dose = some d →
      s.beginDose r dBase tag = s.abandonDose.beginDose r dBase tag ∧ s.abandonDose.dosing.dose = none ∧
      (s.abandonDose.load (pumpOf d.reservoir)).own = none ∧
      s.abandonDose.link = s.link.post (s.notice .doseShort 3 d.tag d.done) ∧
      s.abandonDose.eng.totals.doses = min 65535 (s.eng.totals.doses + 1)) ∧
  (∀ (s : State) (r : Reservoir) (dBase tag : Nat),
      let u := s.beginDose r dBase tag
      (u.granted (pumpOf r) = false ∨ u.dosing.dose = none → s.startDose r dBase tag = u) ∧
      (∀ d, u.granted (pumpOf r) = true → u.dosing.dose = some d →
        s.startDose r dBase tag = { u with dosing.dose := some { d with state := .stroking } })) ∧
  (∀ (s : State) (w : WashFields) (p : DosePoint) (r : Reservoir) (h : StageRecord), w.dose = some r → s.eng.head = some h →
      s.reachDosePoint w p =
        if w.dosePoint = p ∧ h.doseBegun = false then
          State.startDose { s with eng.head := some { h with doseBegun := true } } r w.dBase s.headTag
        else s) ∧
  (∀ (s : State) (r : Reservoir) (dBase tag : Nat), s.dosing.dose = none → s.inEffect (dosingProfileId r) →
      let h := s.hardnessFactor r
      let f := h.1.soilFactor r tag
      let dose := computeDose (s.dosingProfile r) dBase h.2 f.2
      let total := strokesFor (s.dosingProfile r) dose
      let empty := (s.reservoir r).lowTold && decide ((s.reservoir r).estimate = 0)
      let u := s.beginDose r dBase tag
      (empty = true → u.dosing.dose = none ∧ (u.load (pumpOf r)).own = none ∧ u.eng = s.eng ∧
        u.link = f.1.link.post (s.notice .doseEmpty 2 tag (reservoirCode r))) ∧
      (empty = false → total = 0 → u.dosing.dose = none ∧ (u.load (pumpOf r)).own = none ∧
        u.eng = { s.eng with totals := { s.eng.totals with doses := min 65535 (s.eng.totals.doses + 1) } } ∧
        u.link = f.1.link.post (s.notice .doseDone 5 tag 0)) ∧
      (empty = false → total ≠ 0 →
        u.dosing.dose =
          some { reservoir := r, tag := tag, dose := dose, total := total, done := 0, state := .requested, timer := 0 } ∧
        (u.load (pumpOf r)).own = some 0 ∧ u.eng = s.eng ∧ u.link = f.1.link)) ∧
  (∀ (s : State) (r : Reservoir), s.inEffect (dosingProfileId r) →
      s.lowTold r false = s.setReservoir r { s.reservoir r with lowTold := false } ∧
      let estimate := min (s.reservoir r).estimate (s.dosingProfile r).lowMark
      let u := s.lowTold r true
      u.reservoir r = { s.reservoir r with lowTold := true, lowSeen := true, estimate := estimate } ∧
      u.link =
        (if (s.reservoir r).lowSeen then s.link
          else s.link.post (s.notice .reservoirLow 3 (reservoirCode r) estimate)))

/-- A poll frame is SYNC, address, kind 1, length 2, the mask high byte first, and the byte that makes the sum 0 (R24). No
command sends any other frame: what is being sent after it is what was before, nothing, or the poll frame of the
transaction; a retried attempt sends that frame again, and no poll list entry names a satellite outside 1 to 4. -/
def Obligations.PollFrameRule : Prop :=
  (∀ (satellite : Nat) (mask : Half), 1 ≤ satellite → satellite ≤ 4 →
    ∃ check : Byte,
      pollFrame satellite mask
        = [0xC3, BitVec.ofNat 8 satellite, 1, 2, BitVec.ofNat 8 (mask.toNat / 256), BitVec.ofNat 8 mask.toNat, check] ∧
      sum8 ((pollFrame satellite mask).drop 1) = 0 ∧ (BitVec.ofNat 8 satellite).msb = false) ∧
  (∀ (c : Instr) (s t : State), exec c s = .next t →
    t.bus.sent = s.bus.sent ∨ t.bus.sent = [] ∨
      ∃ x, t.bus.tx = some x ∧ t.bus.sent = pollFrame x.satellite x.mask) ∧
  (∀ (s : State) (x : Transaction), s.bus.tx = some x → x.waiting = true → x.belongs = true → x.second = false →
    x.retry = 1 →
    ∃ t : State, exec .sumpResponseTimeout s = .next t ∧
      t.bus.tx = some { x with second := true, waiting := false, timer := 0 } ∧
      t.bus.sent = pollFrame x.satellite x.mask) ∧
  (∀ l e, readPoll l = some e → 1 ≤ e.satellite ∧ e.satellite ≤ 4)

/-! ## Tables and profiles -/

/-- A receiver that is off loses a request, and a payload that no frame can carry is none (R191): nothing changes.
Discarded bytes on either line change nothing (R25, R38, R191); a partial frame discarded on either leaves the receiver
hunting. -/
def Obligations.LostBytesChangeNothing : Prop :=
  (∀ (c : Instr) (code : Byte) (p : List Byte) (s : State), codeOf c = some (code, p) →
      (s.link.rxOff = true ∨ 59 < p.length) → exec c s = .next s) ∧
  (∀ (s : State) (bytes : List Byte),
      exec (.linkFrameDiscarded bytes) s = .next s ∧
      exec (.linkByteTimeout bytes) s = .next { s with link.heard := [], link.byteTimer := 0 } ∧
      exec (.sumpByteGap bytes) s = .next { s with bus.heard := [], bus.byteTimer := 0 } ∧
      exec (.sumpLateBytes bytes) s = .next s ∧
      (s.bus.tx = none → s.settled → exec (.sumpFrameEnd bytes) s = .next s ∧ exec .sumpResponseTimeout s = .next s))

/-- An accepted TBL_WRITE replaces one entry as a whole (R1, R2, R27, R146): the SHADOW channel, curve or load entry,
sound, a curve with its validity judged; the poll list entry with its outcome NONE. Nothing else changes but the
response.
A refused TBL_WRITE changes nothing (R1, R2, R27, R146, R193): BAD_FIELD for a wrong length, index or field, and
IN_USE for the poll list while polling runs or a transaction is in flight. -/
def Obligations.TableWriteReplacesEntry : Prop :=
  (∀ (s : State), s.ready →
      (∀ (i : Fin 32) fields e, readChannel fields = some e →
        exec (.tblWriteChannel (0 :: BitVec.ofNat 8 i.val :: fields)) s =
          .next ({ s with chan.shadow := s.chan.shadow.set i { contents := e, sound := true } }.respond 0x01 .ok [])) ∧
      (∀ (i : Fin 8) (count : Byte) points pts, count.toNat ≤ 8 → points.length = 4 * count.toNat →
        readPoints points = some pts →
        exec (.tblWriteCurve (1 :: BitVec.ofNat 8 i.val :: count :: points)) s =
          .next ({ s with
            chan.curvesShadow :=
              s.chan.curvesShadow.set i { contents := { points := pts, valid := pointsValid pts }, sound := true }
            }.respond 0x01 .ok [])) ∧
      (∀ (i : Fin 16) fields e, readPoll fields = some e → s.link.mode = .standby → s.bus.tx = none →
        exec (.tblWritePollList (3 :: BitVec.ofNat 8 i.val :: fields)) s =
          .next ({ s with
            bus.poll := s.bus.poll.set i e
            bus.run := s.bus.run.set i { s.bus.run[i] with outcome := .none } }.respond 0x01 .ok [])) ∧
      (∀ (i : Fin 11) fields e, readLoad i.val fields = some e →
        exec (.tblWriteLoad (2 :: BitVec.ofNat 8 i.val :: fields)) s =
          .next ({ s with arb.shadow := s.arb.shadow.set i { contents := e, sound := true } }.respond 0x01 .ok []))) ∧
  (∀ (s : State) (index : Byte) (fields : List Byte), s.ready → fields.length ≤ 57 →
      ((32 ≤ index.toNat ∨ readChannel fields = none) →
        exec (.tblWriteChannel (0 :: index :: fields)) s = .next (s.respond 0x01 .badField [])) ∧
      (∀ count points, fields = count :: points →
        (8 ≤ index.toNat ∨ 8 < count.toNat ∨ points.length ≠ 4 * count.toNat ∨ readPoints points = none) →
        exec (.tblWriteCurve (1 :: index :: fields)) s = .next (s.respond 0x01 .badField [])) ∧
      (fields.length = 8 → (s.link.mode ≠ .standby ∨ s.bus.tx ≠ none) →
        exec (.tblWritePollList (3 :: index :: fields)) s = .next (s.respond 0x01 .inUse [])) ∧
      (s.link.mode = .standby → s.bus.tx = none → (16 ≤ index.toNat ∨ readPoll fields = none) →
        exec (.tblWritePollList (3 :: index :: fields)) s = .next (s.respond 0x01 .badField [])) ∧
      ((11 ≤ index.toNat ∨ readLoad index.toNat fields = none) →
        exec (.tblWriteLoad (2 :: index :: fields)) s = .next (s.respond 0x01 .badField [])))

/-- TBL_READ answers with the entry and its parity (R1, R2, R28, R146); the read of a damaged entry is an integrity
error (R174). Nothing else changes.
The parity byte is 1 where the parity matches, the model's choice (logs 5 and 17), and so is a curve's validity mark before its
parity mark (log 75). -/
def Obligations.TableReadAnswers : Prop :=
  ∀ (s : State) (b : Bank), s.ready →
    (∀ i : Fin 32,
      exec (.tblReadChannel [0, BitVec.ofNat 8 (bankCode b), BitVec.ofNat 8 i.val]) s =
        .next ((if (s.channelBank b)[i].sound then s else s.integrityError .channel (some b) i.val).respond 0x02 .ok
          (channelBytes (s.channelBank b)[i].contents ++ [if (s.channelBank b)[i].sound then 1 else 0]))) ∧
    (∀ i : Fin 8,
      exec (.tblReadCurve [1, BitVec.ofNat 8 (bankCode b), BitVec.ofNat 8 i.val]) s =
        .next ((if (s.curveBank b)[i].sound then s else s.integrityError .curve (some b) i.val).respond 0x02 .ok
          (u8 (s.curveBank b)[i].contents.points.length ++ (s.curveBank b)[i].contents.points.flatMap pointBytes
            ++ [if (s.curveBank b)[i].contents.valid then 1 else 0] ++ [if (s.curveBank b)[i].sound then 1 else 0]))) ∧
    (∀ i : Fin 16,
      exec (.tblReadPollList [3, BitVec.ofNat 8 i.val]) s =
        .next (s.respond 0x02 .ok
          (pollBytes s.bus.poll[i] ++ u8 (outcomeCode s.bus.run[i].outcome)
            ++ [if s.bus.run[i].inDueSet then 1 else 0]))) ∧
    (∀ i : Fin 11,
      exec (.tblReadLoad [2, BitVec.ofNat 8 (bankCode b), BitVec.ofNat 8 i.val]) s =
        .next ((if (s.loadBank b)[i].sound then s else s.integrityError .load (some b) i.val).respond 0x02 .ok
          (loadBytes (s.loadBank b)[i].contents ++ [if (s.loadBank b)[i].sound then 1 else 0])))

/-- The integrity latch (R174): the first error fills it and posts INTEGRITY_ERROR at level 2 with the table and the
index; an error on another entry sets the more flag; one on the entry recorded changes nothing.
The first use of a damaged profile marks it faulted and posts INTEGRITY_ERROR and PROFILE_FAULT; its defaults stand
in, and later uses find nothing (R174, R176). The blocks judge their state against the defaults: queued setpoints are lowered
to 750, the due flags judged against 1200, an estimate lowered to 100000 (R176). That no automatic start check of a
regeneration comes with the softener's defaults is the model's choice (log 69). -/
def Obligations.DamagedEntriesAndProfiles : Prop :=
  (∀ (s : State) (t : TableId) (b : Option Bank) (i : Nat),
      (s.trip.integrity = none →
        s.integrityError t b i =
          { s with
            trip.integrity := some { table := t, bank := b, index := i }
            link := s.link.post
              { kind := .integrityError, level := 2, tag := s.link.timeTag, subject := tableCode t
                value := BitVec.ofInt 32 i } }) ∧
      (∀ e, s.trip.integrity = some e →
        s.integrityError t b i =
          if e = { table := t, bank := b, index := i } then s else { s with trip.more := true })) ∧
  (∀ (s : State) (p : ProfileId),
      (s.inEffect p → s.useProfile p = s) ∧
      (¬ s.inEffect p →
        (s.useProfile p).faulted p = true ∧ (s.useProfile p).inEffect p ∧
        (s.useProfile p).trip.integrity ≠ none ∧
        (∃ n : Notice, n.kind = .profileFault ∧ n.level = 2 ∧ n.subject = profileCode p ∧ n.value = 0 ∧
          (s.useProfile p).link = (s.integrityError .profile none (profileCode p)).link.post n) ∧
        (p = .machine → (s.useProfile p).machine = .default ∧
          (s.useProfile p).eng = { s.eng with queue := s.eng.queue.map (fun q => q.lowerSetpoint 750) } ∧
          (s.useProfile p).arb.evalDue = true) ∧
        (p = .softener → (s.useProfile p).softener = .default ∧
          ∀ c, (s.useProfile p).column c = { s.column c with due := decide ((s.column c).cap ≤ 1200) }) ∧
        (p ≠ .machine → (s.useProfile p).eng = s.eng ∧ (s.useProfile p).arb = s.arb) ∧
        (∀ r, p = dosingProfileId r →
          (s.useProfile p).dosingProfile r = .default ∧
          ((s.useProfile p).reservoir r).estimate = min (s.reservoir r).estimate 100000)))

/-- BANK_SWAP (R4, R5, R147, R174, R195): a mask of 0 or with another bit is BAD_FIELD; it is refused with TABLE_INVALID and
the table and entry that offends, or with WRONG_MODE, and changes nothing; else every bank of the mask governs as the SHADOW
stands, and the SHADOW stays. A channel that the swap rebinds has its runtime state reset, any other keeps it; a load swap
clears the table mark and calls for an evaluation; the integrity latch is cleared where it records a table of the mask. -/
def Obligations.BankSwapByMask : Prop :=
  (∀ (s : State) (b : Byte), s.ready →
    (readMask b = none ↔ b.toNat = 0 ∨ 8 ≤ b.toNat) ∧
    (readMask b = none → exec (.bankSwap [b]) s = .next (s.respond 0x03 .badField []))) ∧
  (∀ (s : State) (b : Byte) (m : SwapMask), s.ready → readMask b = some m →
    (∀ i, (m.channels || m.curves) = true → offending (s.governingChannels m) (s.governingCurves m) = some i →
      exec (.bankSwap [b]) s = .next (s.respond 0x03 .tableInvalid [0, BitVec.ofNat 8 i.val])) ∧
    (((m.channels || m.curves) = true → offending (s.governingChannels m) (s.governingCurves m) = none) →
      ((m.channels || m.curves) = true ∧ s.link.mode = .run ∧ bindsForRun (s.governingChannels m) = false →
        exec (.bankSwap [b]) s = .next (s.respond 0x03 .wrongMode [])) ∧
      (((m.channels || m.curves) = true → s.link.mode = .run → bindsForRun (s.governingChannels m) = true) →
        (∀ id, m.loads = true → loadFailure s.arb.shadow = some id →
          exec (.bankSwap [b]) s = .next (s.respond 0x03 .tableInvalid [2, BitVec.ofNat 8 id])) ∧
        ((m.loads = true → loadFailure s.arb.shadow = none) →
          ∃ u : State, exec (.bankSwap [b]) s = .next (u.settle.respond 0x03 .ok [b]) ∧
            u.chan.active = (if m.channels then s.chan.shadow else s.chan.active) ∧
            u.chan.shadow = s.chan.shadow ∧
            u.chan.curves = (if m.curves then rejudge s.chan.curvesShadow else s.chan.curves) ∧
            u.arb.active = (if m.loads then s.arb.shadow else s.arb.active) ∧
            u.arb.shadow = s.arb.shadow ∧ u.bus = s.bus ∧ u.link.mode = s.link.mode ∧
            (∀ i : Fin 32,
              u.chan.run[i] =
                if m.channels && rebound s.chan.active[i].contents s.chan.shadow[i].contents s.chan.run[i] then
                  State.reset.chan.run[i]
                else s.chan.run[i]) ∧
            (m.loads = true → u.arb.evalDue = true ∧ u.trip.tableMark = false) ∧
            (m.channels = false → u.eng = s.eng ∧ u.soft = s.soft ∧ u.dosing = s.dosing ∧ u.door = s.door ∧
              u.link = s.link ∧ u.trip.latch = s.trip.latch) ∧
            ((∀ p, s.inEffect p) →
              (s.trip.integrity = none → u.trip.integrity = none) ∧
              ∀ e, s.trip.integrity = some e →
                let named :=
                  match e.table with
                  | .channel => m.channels
                  | .curve => m.curves
                  | .load => m.loads
                  | .profile => false
                u.trip.integrity = (if named then none else some e) ∧ (named = true → u.trip.more = false))))))

/-- An accepted PROFILE_WRITE (R51, R52, R87, R112, R113, R174, R176): the profile is replaced, sound and no longer faulted,
and the integrity latch cleared where it records this profile; queued setpoints are lowered, due flags judged, the estimate
lowered. IN_USE and BAD_FIELD change nothing. -/
def Obligations.ProfileWriteReplaces : Prop :=
  ∀ (s : State), s.ready →
    (∀ fields p, fields.length = 14 → readMachine fields = some p → s.eng.state = .idle →
      ∃ u : State, exec (.profileWriteMachine (0 :: fields)) s = .next (u.settle.respond 0x04 .ok []) ∧
        u.eng = { s.eng with
          profile := { contents := p, sound := true }
          queue := s.eng.queue.map (fun q => q.lowerSetpoint p.maxSetpoint) } ∧
        u.trip.faultedMachine = false ∧ u.machine = p ∧
        (∀ e, s.trip.integrity = some e →
          u.trip.integrity = if e.table = .profile ∧ e.index = 0 then none else some e) ∧
        u.chan = s.chan ∧ u.soft = s.soft ∧ u.dosing = s.dosing ∧ u.door = s.door ∧ u.link = s.link) ∧
    (∀ fields p, fields.length = 19 → readSoftener fields = some p → s.soft.holder = .none → s.soft.regen = none →
      ∃ u : State, exec (.profileWriteSoftener (1 :: fields)) s = .next (u.settle.respond 0x04 .ok []) ∧
        u.soft.profile = { contents := p, sound := true } ∧ u.trip.faultedSoftener = false ∧ u.softener = p ∧
        (∀ c, (u.column c).cap = (s.column c).cap ∧ (u.column c).due = decide ((s.column c).cap ≤ p.reserve)) ∧
        (∀ e, s.trip.integrity = some e →
          u.trip.integrity = if e.table = .profile ∧ e.index = 1 then none else some e) ∧
        u.chan = s.chan ∧ u.eng = s.eng ∧ u.dosing = s.dosing ∧ u.door = s.door) ∧
    (∀ sel r fields p, reservoirOfSelector sel = some r → fields.length = 17 → readDosing fields = some p →
      s.dosing.dose = none →
      ∃ t : State, exec (.profileWriteDosing (sel :: fields)) s = .next (t.respond 0x04 .ok []) ∧
        t.reservoir r = { s.reservoir r with
          profile := { contents := p, sound := true }
          estimate := min (s.reservoir r).estimate p.capacity } ∧
        t.faulted (dosingProfileId r) = false ∧ t.dosingProfile r = p ∧
        (∀ e, s.trip.integrity = some e →
          t.trip.integrity = if e.table = .profile ∧ e.index = sel.toNat then none else some e) ∧
        (∀ r', r' ≠ r → t.reservoir r' = s.reservoir r') ∧ t.dosing.dose = none ∧
        t.chan = s.chan ∧ t.eng = s.eng ∧ t.soft = s.soft ∧ t.door = s.door ∧ t.arb = s.arb ∧ t.link = s.link) ∧
    (∀ fields, fields.length = 14 → s.eng.state ≠ .idle →
      exec (.profileWriteMachine (0 :: fields)) s = .next (s.respond 0x04 .inUse [])) ∧
    (∀ fields, fields.length = 19 → (s.soft.holder ≠ .none ∨ s.soft.regen ≠ none) →
      exec (.profileWriteSoftener (1 :: fields)) s = .next (s.respond 0x04 .inUse [])) ∧
    (∀ sel r fields, reservoirOfSelector sel = some r → fields.length = 17 → s.dosing.dose ≠ none →
      exec (.profileWriteDosing (sel :: fields)) s = .next (s.respond 0x04 .inUse [])) ∧
    (∀ fields, fields.length ≤ 58 →
      (fields.length ≠ 14 ∨ s.eng.state = .idle ∧ readMachine fields = none →
        exec (.profileWriteMachine (0 :: fields)) s = .next (s.respond 0x04 .badField [])) ∧
      (fields.length ≠ 19 ∨ s.soft.holder = .none ∧ s.soft.regen = none ∧ readSoftener fields = none →
        exec (.profileWriteSoftener (1 :: fields)) s = .next (s.respond 0x04 .badField [])) ∧
      (∀ sel, (4 ≤ sel.toNat ∨ fields.length ≠ 17 ∨
          s.dosing.dose = none ∧ readDosing fields = none) →
        exec (.profileWriteDosing (sel :: fields)) s = .next (s.respond 0x04 .badField [])))

/-- PROFILE_READ answers with the profile's fields as they stand, its parity and the faulted mark (R51, R87, R112). The
read of a damaged profile is a check like any use: it marks the profile faulted (R174, R176).
The parity byte is 1 where the parity matches, and it comes before the faulted mark, the model's choices (logs 5, 17 and 73). -/
def Obligations.ProfileReadAnswers : Prop :=
  ∀ (s : State), s.ready →
    exec (.profileReadMachine [0]) s =
      .next
        ((if s.eng.profile.sound then s
          else if s.trip.faultedMachine then s.integrityError .profile none 0
          else s.useProfile .machine).settle.respond 0x05 .ok
            (machineBytes s.eng.profile.contents ++ [if s.eng.profile.sound then 1 else 0]
              ++ [if s.eng.profile.sound && !s.trip.faultedMachine then 0 else 1])) ∧
    exec (.profileReadSoftener [1]) s =
      .next
        ((if s.soft.profile.sound then s
          else if s.trip.faultedSoftener then s.integrityError .profile none 1
          else s.useProfile .softener).respond 0x05 .ok
            (softenerBytes s.soft.profile.contents ++ [if s.soft.profile.sound then 1 else 0]
              ++ [if s.soft.profile.sound && !s.trip.faultedSoftener then 0 else 1])) ∧
    (∀ sel r, reservoirOfSelector sel = some r →
      exec (.profileReadDosing [sel]) s =
        .next
          ((if (s.reservoir r).profile.sound then s
            else if s.faulted (dosingProfileId r) then
              s.integrityError .profile none (profileCode (dosingProfileId r))
            else s.useProfile (dosingProfileId r)).respond 0x05 .ok
              (dosingBytes (s.reservoir r).profile.contents ++ [if (s.reservoir r).profile.sound then 1 else 0]
                ++ [if (s.reservoir r).profile.sound && !s.faulted (dosingProfileId r) then 0 else 1])))

/-! ## Mode, queue and cycle -/

/-- SET_MODE (R196): a code of no mode is BAD_FIELD; the mode that stands changes nothing; RUN with a cycle under way is
BUSY; RUN without the tables is WRONG_MODE; else the mode is the one named, the staging is discarded, forced requests end on
leaving SERVICE, a regeneration and the engine's TRIPPED end on leaving RUN, and polling stops in STANDBY.
With it (R29, R37, R86, R171): polling starts from STANDBY with every enabled entry due and a free bus taking the lowest; a
transaction in flight at STANDBY no longer belongs to a poll; a FLOOD trip's request is renewed; a WAITING move drives at the
entry to RUN, or ends there with the position at its target, and a DRIVING one waits after the exit.
That a route pulse is abandoned at the exit from RUN is the model's choice (log 14). -/
def Obligations.SetModeChangesMode : Prop :=
  (∀ (s : State) (b : Byte), s.ready → 3 ≤ b.toNat → exec (.setMode [b]) s = .next (s.respond 0x06 .badField [])) ∧
  (∀ (s : State) (m : Mode), s.ready →
    (m = s.link.mode →
      exec (.setMode [BitVec.ofNat 8 (modeCode m)]) s = .next (s.respond 0x06 .ok [BitVec.ofNat 8 (modeCode m)])) ∧
    (m ≠ s.link.mode → s.link.mode = .run → s.eng.state ≠ .idle → s.eng.state ≠ .tripped →
      exec (.setMode [BitVec.ofNat 8 (modeCode m)]) s = .next (s.respond 0x06 .busy [])) ∧
    (m = .run → s.link.mode ≠ .run → s.tablesReady = false →
      exec (.setMode [BitVec.ofNat 8 (modeCode m)]) s = .next (s.respond 0x06 .wrongMode [])) ∧
    (m ≠ s.link.mode → (s.link.mode = .run → s.eng.state = .idle ∨ s.eng.state = .tripped) →
      (m = .run → s.tablesReady = true) →
      ∃ u : State, exec (.setMode [BitVec.ofNat 8 (modeCode m)]) s =
          .next (u.settle.respond 0x06 .ok [BitVec.ofNat 8 (modeCode m)]) ∧
        u.link.mode = m ∧ u.link.staging = .empty ∧ u.arb.evalDue = true ∧
        (s.link.mode = .service → ∀ l, (u.load l).forced = none) ∧
        (s.link.mode = .run → u.eng.state = .idle ∧ u.soft.regen = none ∧ u.soft.pulse = none ∧
          (s.soft.pulse ≠ none → u.soft.route = .unset ∧ (u.load .routeValve).own = none) ∧
          (∀ x, s.soft.move = some x →
            u.soft.move = some { x with timer := if x.driving then 0 else x.timer, driving := false } ∧
            (x.driving = true → (u.load .selectorValve).own = none))) ∧
        (m = .standby → u.arb.flood = false ∧
          (∀ i : Fin 16, u.bus.run[i].due = none ∧ u.bus.run[i].inDueSet = false) ∧
          u.bus.tx = s.bus.tx.map (fun x => { x with belongs := false })) ∧
        (s.link.mode = .standby →
          (s.bus.tx ≠ none → u.bus.tx = s.bus.tx ∧
            ∀ i : Fin 16, u.bus.run[i].due = none ∧ u.bus.run[i].inDueSet = s.bus.poll[i].enabled) ∧
          (s.bus.tx = none →
            ((∀ i : Fin 16, s.bus.poll[i].enabled = false) → u.bus.tx = none) ∧
            ∀ i : Fin 16, s.bus.poll[i].enabled = true → (∀ j : Fin 16, j < i → s.bus.poll[j].enabled = false) →
              u.bus.tx.map Transaction.entry = some i ∧ u.bus.run[i].inDueSet = false ∧
              ∀ j : Fin 16, j ≠ i → u.bus.run[j].due = none ∧ u.bus.run[j].inDueSet = s.bus.poll[j].enabled)) ∧
        (m ≠ .standby → s.trip.latch = true → s.trip.record.reason = .flood → u.arb.flood = true) ∧
        (m = .run → s.trip.latch = true → u.eng.state = .tripped) ∧
        (∀ x, m = .run → s.soft.move = some x → x.driving = false →
          (s.soft.position = x.target → u.soft.move = none) ∧
          (s.soft.position ≠ x.target → u.soft.move = some { x with timer := 0, driving := true } ∧
            (u.load .selectorValve).own = some (sideCode x.target))) ∧
        u.chan = s.chan ∧ u.bus.poll = s.bus.poll))

/-- An accepted PHASE_SUBMIT adds the record at the tail, its setpoint and pump speed clamped, discards a partial
staging, and answers with the count before and after and the clamps (R41, R43, R45, R187). The maximum setpoint is that
of the profile in effect.
What a stored record's clamps are (R43): a setpoint of 0 stays, any other lies in 200 to the maximum; the speed lies
in 30 to 100; nothing else of the record changes.
A refused PHASE_SUBMIT changes nothing; its refusals come in this order: the length BAD_FIELD, TRIPPED, BUSY under a
cancelling head, FULL at 8 records, the fields BAD_FIELD, DUPLICATE (R41, R42, R44, R193).
A record of an unknown kind passes the length test, and the answer has the clamps of a WASH record only: the model's choices
(logs 17 and 40). -/
def Obligations.PhaseSubmitAddsRecord : Prop :=
  (∀ (s : State) (payload : List Byte) (p : PhaseRecord), s.ready → s.inEffect .machine →
      recordLengthGood payload = true → readRecord payload = some p →
      s.trip.latch = false → s.cancelling = false → s.eng.queue.length < 8 →
      (∀ q ∈ s.eng.queue, q.tag ≠ p.tag) →
      exec (.phaseSubmit payload) s =
        .next ({ s with
          eng.queue := s.eng.queue ++ [p.clamped s.machine.maxSetpoint]
          link.staging := .empty }.respond 0x10 .ok
            ([BitVec.ofNat 8 s.eng.queue.length, BitVec.ofNat 8 (s.eng.queue.length + 1)]
              ++ storedClamps (some (p.clamped s.machine.maxSetpoint))))) ∧
  (∀ (p : PhaseRecord) (mx : Nat), 200 ≤ mx →
      (p.clamped mx).tag = p.tag ∧ (p.clamped mx).setMask = p.setMask ∧ (p.clamped mx).clearMask = p.clearMask ∧
      (∀ w, p.body = .wash w → ∃ x y, (p.clamped mx).body = .wash { w with setpoint := x, speed := y } ∧
        (w.setpoint = 0 → x = 0) ∧ (w.setpoint ≠ 0 → 200 ≤ x ∧ x ≤ mx ∧ (200 ≤ w.setpoint ∧ w.setpoint ≤ mx → x = w.setpoint)) ∧
        30 ≤ y ∧ y ≤ 100 ∧ (30 ≤ w.speed ∧ w.speed ≤ 100 → y = w.speed)) ∧
      ((∀ w, p.body ≠ .wash w) → p.clamped mx = p)) ∧
  (∀ (s : State) (payload : List Byte), s.ready → payload.length ≤ 59 →
      (submitLengthGood payload = false → exec (.phaseSubmit payload) s = .next (s.respond 0x10 .badField [])) ∧
      (submitLengthGood payload = true →
        (s.trip.latch = true → exec (.phaseSubmit payload) s = .next (s.respond 0x10 .tripped [])) ∧
        (s.trip.latch = false →
          (s.cancelling = true → exec (.phaseSubmit payload) s = .next (s.respond 0x10 .busy [])) ∧
          (s.cancelling = false →
            (8 ≤ s.eng.queue.length → exec (.phaseSubmit payload) s = .next (s.respond 0x10 .full [])) ∧
            (s.eng.queue.length < 8 →
              (readRecord payload = none → exec (.phaseSubmit payload) s = .next (s.respond 0x10 .badField [])) ∧
              (∀ p, readRecord payload = some p → (∃ q ∈ s.eng.queue, q.tag = p.tag) →
                exec (.phaseSubmit payload) s = .next (s.respond 0x10 .duplicate [])))))))

/-- PHASE_WITHDRAW (R46): NOT_FOUND for a tag that no record has, IN_USE for the head under way, else the record leaves
the queue and the answer is the number left. -/
def Obligations.PhaseWithdrawRemovesRecord : Prop :=
  ∀ (s : State) (b : Byte), s.ready →
    ((∀ q ∈ s.eng.queue, q.tag ≠ b.toNat) →
      exec (.phaseWithdraw [b]) s = .next (s.respond 0x11 .notFound [])) ∧
    (∀ q rest, s.eng.queue = q :: rest → q.tag = b.toNat → (s.eng.state = .running ∨ s.eng.state = .suspended) →
      exec (.phaseWithdraw [b]) s = .next (s.respond 0x11 .inUse [])) ∧
    (∀ front q back, s.eng.queue = front ++ q :: back → q.tag = b.toNat →
      (∀ x ∈ front, x.tag ≠ q.tag) → (∀ x ∈ back, x.tag ≠ q.tag) →
      ((s.eng.state = .running ∨ s.eng.state = .suspended) → front ≠ []) →
      exec (.phaseWithdraw [b]) s =
        .next ({ s with eng.queue := front ++ back }.respond 0x11 .ok [BitVec.ofNat 8 (front ++ back).length]))

/-- An accepted CYCLE_START zeroes the totals and empties the suspension set; the head starts its first stage: a WASH in
FILL with the path taken, a DRAIN in DRAIN with DRAIN_PUMP requested, a DRY in CONDENSE, or in OPENING when it need not
condense. The answer is the head's tag (R47, R48, R57, R58, R72, R136, R137, R139).
The refusals of CYCLE_START in their order (R47), and the trip of a cycle that starts with TUB_TEMP or TUB_LEVEL
STALE or FAULTED (R168).
That the first stage starts before SENSOR_LOST is judged is the model's choice (log 41), and so is that an attempt pushes at
once where DOOR_ACTUATOR is granted already (log 52). -/
def Obligations.CycleStartStartsHead : Prop :=
  (∀ (s : State) (p : PhaseRecord) (rest : List PhaseRecord), s.ready → s.link.mode = .run → s.trip.latch = false →
      s.eng.state = .idle → s.eng.queue = p :: rest → s.door.state = .latched →
      (∀ r, r = .tubTemp ∨ r = .tubLevel → s.roleFreshness r = .fresh ∨ s.roleFreshness r = .noData) →
      ∃ u : State, exec (.cycleStart []) s = .next (u.settle.respond 0x12 .ok [BitVec.ofNat 8 p.tag]) ∧
        u.eng.state = .running ∧ u.eng.queue = p :: rest ∧ u.eng.totals = .zero ∧ u.eng.susp = .empty ∧
        u.trip.latch = false ∧ u.chan = s.chan ∧ u.bus = s.bus ∧
        (∀ w, p.body = .wash w →
          u.eng.head = some { StageRecord.start .fill 0 false with runMark := .resumed } ∧ u.soft.holder = .fill ∧
          u.soft.vFill = 0 ∧ u.soft.u = 0 ∧ u.soft.exhaustedMark = false) ∧
        (∀ d, p.body = .drain d →
          u.eng.head = some (StageRecord.start .drain 0 false) ∧ (u.load .drainPump).own = some 0) ∧
        (∀ f, p.body = .dry f →
          (s.coolEnough f = false → f.condenseMax ≠ 0 →
            u.eng.head = some (StageRecord.start .condense 0 false) ∧ u.door.dry = some DryRecord.new) ∧
          (s.coolEnough f = true ∨ f.condenseMax = 0 →
            u.eng.head = some (StageRecord.start .opening 0 false) ∧ (u.load .doorActuator).own = some 0 ∧
            u.door.dry = some { DryRecord.new with
              attempt := 1
              attState := if (s.load .doorActuator).grant = none then .requested else .pushing }))) ∧
  (∀ (s : State), s.ready →
      (s.link.mode ≠ .run → exec (.cycleStart []) s = .next (s.respond 0x12 .wrongMode [])) ∧
      (s.link.mode = .run →
        (s.trip.latch = true → exec (.cycleStart []) s = .next (s.respond 0x12 .tripped [])) ∧
        (s.trip.latch = false →
          (s.eng.state ≠ .idle → exec (.cycleStart []) s = .next (s.respond 0x12 .busy [])) ∧
          (s.eng.state = .idle →
            (s.eng.queue = [] → exec (.cycleStart []) s = .next (s.respond 0x12 .empty [])) ∧
            (s.eng.queue ≠ [] → s.door.state ≠ .latched →
              exec (.cycleStart []) s = .next (s.respond 0x12 .doorOpen [])) ∧
            (s.eng.queue ≠ [] → s.door.state = .latched →
              (∃ r, (r = .tubTemp ∨ r = .tubLevel) ∧
                (s.roleFreshness r = .stale ∨ s.roleFreshness r = .faulted)) →
              ∃ u : State, exec (.cycleStart []) s =
                  .next (u.settle.respond 0x12 .ok [BitVec.ofNat 8 s.headTag]) ∧
                u.trip.latch = true ∧ u.trip.record.reason = .sensorLost ∧ u.eng.state = .tripped ∧
                u.eng.queue = [])))))

/-- CYCLE_CANCEL (R49, R79 to R81, R144, R182): TRIPPED, NOT_FOUND without a cycle; a RUNNING WASH head before its drain
moves to DRAIN, marked cancelling, with its dose abandoned and the records behind it dropped; a head in DRAIN goes on there,
marked; a SUSPENDED WASH head moves to DRAIN, where DOOR or MAINS keeps it SUSPENDED and else it runs; a DRY head ends the
cycle with CYCLE_CANCELLED.
That a dose under a FILL, which only a restore can give, is abandoned with the cancel is the model's choice (log 45). -/
def Obligations.CycleCancelDrainsOrEnds : Prop :=
  ∀ (s : State), s.ready →
    (s.eng.state = .tripped → exec (.cycleCancel []) s = .next (s.respond 0x13 .tripped [])) ∧
    (s.eng.state = .idle → exec (.cycleCancel []) s = .next (s.respond 0x13 .notFound [])) ∧
    (∀ p rest h w, s.eng.queue = p :: rest → p.body = .wash w → s.eng.head = some h → s.eng.state = .running →
      (h.stage = .fill ∨ h.stage = .circulate ∨ h.stage = .hold) →
      ∃ u : State, exec (.cycleCancel []) s = .next (u.settle.respond 0x13 .ok []) ∧
        u.eng.queue = [p] ∧ u.eng.state = .running ∧
        u.eng.head = some { h with
          stage := .drain, drainTimer := 0, timeoutSpent := false, thermostat := false, cancelling := true } ∧
        (u.load .drainPump).own = some 0 ∧ (u.load .circPump).own = none ∧ (u.load .heater).own = none ∧
        u.dosing.dose = none ∧ u.chan = s.chan ∧ u.door = s.door) ∧
    (∀ p rest h, s.eng.queue = p :: rest → (∀ f, p.body ≠ .dry f) → s.eng.head = some h → h.stage = .drain →
      (s.eng.state = .running ∨ s.eng.state = .suspended ∧ (s.eng.susp.door = true ∨ s.eng.susp.mains = true)) →
      exec (.cycleCancel []) s =
        .next ({ s with
          eng.queue := [p]
          eng.head := some { h with cancelling := true }
          eng.susp := { s.eng.susp with host := false, noWater := false, restored := false } }.respond 0x13 .ok [])) ∧
    (∀ p rest h w, s.eng.queue = p :: rest → p.body = .wash w → s.eng.head = some h → s.eng.state = .suspended →
      (h.stage = .fill ∨ h.stage = .circulate ∨ h.stage = .hold) →
      ∃ u : State, exec (.cycleCancel []) s = .next (u.settle.respond 0x13 .ok []) ∧ u.dosing.dose = none ∧
        u.chan = s.chan ∧ u.door = s.door ∧
        (s.eng.susp.door = true ∨ s.eng.susp.mains = true →
          u.eng.state = .suspended ∧
          u.eng.susp = { s.eng.susp with host := false, noWater := false, restored := false } ∧
          (u.load .drainPump).own = (s.load .drainPump).own) ∧
        (s.eng.susp.door = false → s.eng.susp.mains = false →
          (s.fresh .tubLevel = true → w.minTime = 0 → (w.endLevel : Int) < s.roleValue .tubLevel) →
          u.eng.state = .running ∧ u.eng.susp = .empty ∧ (u.load .drainPump).own = some 0) ∧
        ((s.eng.susp.door = true ∨ s.eng.susp.mains = true) ∨ w.minTime ≠ 0 →
          u.eng.queue = [p] ∧
          u.eng.head = some { h with
            stage := .drain, drainTimer := 0, timeoutSpent := false, thermostat := false, cancelling := true })) ∧
    (∀ p rest h f, s.eng.queue = p :: rest → p.body = .dry f → s.eng.head = some h →
      (s.eng.state = .running ∨ s.eng.state = .suspended) →
      ∃ u : State, exec (.cycleCancel []) s = .next (u.settle.respond 0x13 .ok []) ∧
        u.eng.state = .idle ∧ u.eng.queue = [] ∧ u.eng.head = none ∧ u.door.dry = none ∧
        (u.load .fan).own = none ∧ (u.load .doorActuator).own = none ∧
        u.link = s.link.post (s.notice .cycleCancelled 4 p.tag s.eng.totals.clock) ∧ u.chan = s.chan)

/-- PAUSE (R178 to R180): TRIPPED with the latch set, NOT_FOUND without a cycle, else HOST joins the suspension set; a
RUNNING engine is SUSPENDED with its loads released and a dose paused.
RESUME (R179): HOST, NO_WATER and RESTORED leave the suspension set and RESTORED the hold set, which keeps MAINS; with
nothing to remove nothing changes; the answer carries both sets. A set that is then empty returns the engine to RUNNING in
its stage (R181): FILL takes the path again, CIRCULATE and HOLD request CIRC_PUMP, a DRAIN whose level is not down requests
DRAIN_PUMP.
The return itself, which the end of DOOR or MAINS makes too, for the other heads (R122, R128, R143, R181): a DRAIN record
drains on, or ends where the level is down after the minimum time; a DRY head is judged by the door and the temperature once, and
else makes its stage's requests again; a paused dose requests its pump again, or ends where its strokes are all done; a
restored dose under a FILL is abandoned. The clock of a restored cycle runs on, as the model reads the resume of a cycle
(log 64).
Where RESUME lets a fill and a regeneration request the path, either may come first (R90; log 56). That a dose which has ended
does so before the stage is entered is the model's choice (log 48), and so are what the timers of an attempt hold in VENT
(log 57), a setpoint of 0 in CIRCULATE (log 70) and a head marked cancelling in a stage other than DRAIN (log 71), which goes
on. -/
def Obligations.PauseAndResume : Prop :=
  (∀ (s : State), s.ready →
      (s.trip.latch = true → exec (.pause []) s = .next (s.respond 0x14 .tripped [])) ∧
      (s.trip.latch = false → s.underWay = false → exec (.pause []) s = .next (s.respond 0x14 .notFound [])) ∧
      (s.trip.latch = false → s.eng.state = .suspended →
        exec (.pause []) s =
          .next ({ s with eng.susp := { s.eng.susp with host := true } }.respond 0x14 .ok
            (suspByte { s.eng.susp with host := true }))) ∧
      (s.trip.latch = false → s.eng.state = .running →
        ∃ u : State, exec (.pause []) s = .next (u.settle.respond 0x14 .ok (suspByte u.settle.eng.susp)) ∧
          u.eng = { s.eng with state := .suspended, susp := { s.eng.susp with host := true } } ∧
          (∀ l, l = .heater ∨ l = .circPump ∨ l = .drainPump ∨ l = .fan ∨ l = .doorActuator →
            (u.load l).own = none) ∧
          u.dosing.dose = s.dosing.dose.map (fun d => { d with state := .paused, timer := 0 }) ∧
          (s.runningIn .fill = true → u.soft.holder ≠ .fill) ∧
          u.chan = s.chan ∧ u.bus = s.bus ∧ u.link = s.link)) ∧
  (∀ (s : State), s.ready →
      (∃ u : State, exec (.resume []) s =
          .next (u.settle.respond 0x15 .ok (suspByte u.settle.eng.susp ++ holdByte u.settle.soft.hold)) ∧
        u.eng.susp.host = false ∧ u.eng.susp.noWater = false ∧ u.eng.susp.restored = false ∧
        u.soft.hold = { s.soft.hold with restored := false } ∧ u.bus = s.bus ∧
        (s.eng.susp.door = true ∨ s.eng.susp.mains = true →
          u.eng = { s.eng with
            susp := { s.eng.susp with host := false, noWater := false, restored := false } }) ∧
        (∀ h w, s.eng.state = .suspended → s.eng.susp.door = false → s.eng.susp.mains = false → s.eng.head = some h →
          s.washHead = some w → s.dosing.dose = none →
          (h.stage = .fill →
            u.eng.state = .running ∧ u.eng.susp = .empty ∧ u.eng.queue = s.eng.queue ∧ u.soft.holder = .fill ∧
            u.eng.head = some { h with runMark := .resumed }) ∧
          (h.stage = .circulate → (s.fresh .tubTemp = true → s.roleValue .tubTemp < w.setpoint) →
            u.eng.state = .running ∧ u.eng.susp = .empty ∧ u.eng.queue = s.eng.queue ∧
            (u.load .circPump).own = some w.speed ∧ u.eng.head = some { h with thermostat := s.fresh .tubTemp }) ∧
          (h.stage = .hold → s.inEffect .machine →
            u.eng.state = .running ∧ u.eng.susp = .empty ∧ u.eng.queue = s.eng.queue ∧
            (u.load .circPump).own = some w.speed ∧ u.eng.head.map StageRecord.stage = some .hold) ∧
          (h.stage = .drain → (s.fresh .tubLevel = true → (w.endLevel : Int) < s.roleValue .tubLevel) →
            u.eng = { s.eng with state := .running, susp := .empty, totals := { s.eng.totals with held := false } } ∧
            (u.load .drainPump).own = some 0))) ∧
      (s.eng.susp.host = false → s.eng.susp.noWater = false → s.eng.susp.restored = false →
        s.soft.hold.restored = false → (s.eng.state = .suspended → s.eng.susp.isEmpty = false) →
        exec (.resume []) s = .next (s.respond 0x15 .ok (suspByte s.eng.susp ++ holdByte s.soft.hold)))) ∧
  (∀ (s : State) (p : PhaseRecord) (rest : List PhaseRecord) (h : StageRecord), s.eng.state = .suspended →
      s.eng.susp.isEmpty = true → s.eng.queue = p :: rest → s.eng.head = some h →
      let u := s.returnIfFree
      let running := { s.eng with state := .running, totals := { s.eng.totals with held := false } }
      (∀ d, p.body = .drain d → h.stage = .drain → s.dosing.dose = none →
        (s.fresh .tubLevel = false ∨ (d.endLevel : Int) < s.roleValue .tubLevel ∨ h.drainTimer < d.minTime * 10000 →
          u.eng = running ∧ (u.load .drainPump).own = some 0 ∧ u.link = s.link ∧ u.soft = s.soft ∧ u.door = s.door) ∧
        (s.fresh .tubLevel = true → s.roleValue .tubLevel ≤ d.endLevel → d.minTime * 10000 ≤ h.drainTimer →
          h.cancelling = false → rest = [] →
          u.eng.state = .idle ∧ u.eng.queue = [] ∧ u.eng.head = none ∧ (u.load .drainPump).own = none ∧
          u.link = (s.link.post (s.notice .phaseDone 5 p.tag 0)).post
            (s.notice .cycleDone 4 p.tag s.eng.totals.clock))) ∧
      (∀ f x, p.body = .dry f → s.door.dry = some x → s.dosing.dose = none →
        (h.stage = .condense → s.door.state = .latched →
          (s.coolEnough f = false → u.eng = running ∧ u.door = s.door ∧ u.arb = s.arb ∧ u.link = s.link) ∧
          (s.coolEnough f = true →
            u.eng = { running with head := some { h with stage := .opening } } ∧ (u.load .doorActuator).own = some 0 ∧
            u.door.dry.map DryRecord.attempt = some 1 ∧ u.link = s.link)) ∧
        (h.stage = .opening → s.door.state = .latched →
          u.eng = running ∧ u.door = s.door ∧ u.link = s.link ∧
          (x.attState = .requested → (u.load .doorActuator).own = some 0) ∧ (x.attState ≠ .requested → u.arb = s.arb)) ∧
        (h.stage = .condense ∨ h.stage = .opening → s.door.state ≠ .latched → f.ventTime ≠ 0 →
          u.eng = { running with head := some { h with stage := .vent } } ∧
          u.door.dry = some { x with openedBy := .user, vent := 0, attState := .none, window := 0, rest := 0 } ∧
          (u.load .doorActuator).own = none ∧ (f.fan = true → (u.load .fan).own = some 0) ∧
          u.link = s.link.post (s.notice .dryOpened 5 p.tag 0)) ∧
        (h.stage = .vent →
          ((x.openedBy = .actuator ∨ x.openedBy = .user) → s.door.closed = true → rest = [] →
            u.eng.state = .idle ∧ u.eng.queue = [] ∧ u.door.dry = none ∧ (u.load .fan).own = none ∧
            u.link = (s.link.post (s.notice .phaseDone 5 p.tag 0)).post
              (s.notice .cycleDone 4 p.tag s.eng.totals.clock)) ∧
          (¬((x.openedBy = .actuator ∨ x.openedBy = .user) ∧ s.door.closed = true) →
            u.eng = running ∧ u.door = s.door ∧ u.link = s.link ∧ (f.fan = true → (u.load .fan).own = some 0) ∧
            (f.fan = false → u.arb = s.arb)))) ∧
      (∀ w d, p.body = .wash w → s.dosing.dose = some d →
        (h.stage = .hold ∨ h.stage = .circulate ∧ (s.fresh .tubTemp = true → s.roleValue .tubTemp < w.setpoint) →
          s.inEffect .machine →
          (d.done < d.total →
            u.dosing.dose = some { d with state := .requested, timer := 0 } ∧
            (u.load (pumpOf d.reservoir)).own = some 0 ∧ u.link = s.link ∧ u.eng.totals = running.totals) ∧
          (d.total ≤ d.done →
            u.dosing.dose = none ∧ (u.load (pumpOf d.reservoir)).own = none ∧
            u.link = s.link.post (s.notice .doseDone 5 d.tag d.done) ∧
            u.eng.totals = { running.totals with doses := min 65535 (s.eng.totals.doses + 1) })) ∧
        (h.stage = .fill →
          u.dosing.dose = none ∧ (u.load (pumpOf d.reservoir)).own = none ∧ u.soft.holder = .fill ∧
          u.eng.totals = { running.totals with doses := min 65535 (s.eng.totals.doses + 1) })))

/-- FLAGS (R19): set, then clear, then toggle; the answer is the flags as they then stand. Outside HOLD nothing else
changes. -/
def Obligations.FlagsApplyMasks : Prop :=
  ∀ (s : State) (a b c : Byte), s.ready →
    (∃ u : State, exec (.flags [a, b, c]) s =
        .next (u.settle.respond 0x16 .ok [((s.chan.flags ||| a) &&& ~~~b) ^^^ c]) ∧
      u.chan = { s.chan with flags := ((s.chan.flags ||| a) &&& ~~~b) ^^^ c } ∧ u.bus = s.bus ∧ u.trip = s.trip) ∧
    (s.runningIn .hold = false →
      exec (.flags [a, b, c]) s =
        .next ({ s with chan.flags := ((s.chan.flags ||| a) &&& ~~~b) ^^^ c }.respond 0x16 .ok
          [((s.chan.flags ||| a) &&& ~~~b) ^^^ c]))

/-! ## Budget, forced loads, columns, reservoirs -/

/-- BUDGET (R150): B is the value lowered to 4000, an evaluation runs, G ends within B, and the answer is B and G. It is
taken in every mode and state. -/
def Obligations.BudgetSetsLimit : Prop :=
  ∀ (s : State) (hi lo : Byte), s.link.rxOff = false →
    ∃ u : State, exec (.budget [hi, lo]) s = .next (u.settle.respond 0x20 .ok (u16 u.settle.arb.budget ++ u16 u.settle.totalWatts)) ∧
      u = { s with arb.budget := min (hi.toNat * 256 + lo.toNat) 4000, arb.evalDue := true } ∧
      u.settle.arb.budget = min (hi.toNat * 256 + lo.toNat) 4000 ∧ u.settle.totalWatts ≤ u.settle.arb.budget

/-- LOAD_FORCE (R160): outside SERVICE it is WRONG_MODE; an id or an argument out of range is BAD_FIELD; ON makes the
host's request with its argument, a speed clamped to 30 to 100, and OFF releases it; the answer is the grant state.
The argument codes of ROUTE_VALVE, 1 TUB and 2 REGEN, and the coding of the grant state are the model's choice (log 17). -/
def Obligations.LoadForceRequests : Prop :=
  ∀ (s : State) (id arg : Byte), s.ready →
    (s.link.mode ≠ .service →
      exec (.loadForceOn [id, 1, arg]) s = .next (s.respond 0x21 .wrongMode []) ∧
      exec (.loadForceOff [id, 0, arg]) s = .next (s.respond 0x21 .wrongMode [])) ∧
    (s.link.mode = .service → 11 ≤ id.toNat →
      exec (.loadForceOn [id, 1, arg]) s = .next (s.respond 0x21 .badField []) ∧
      exec (.loadForceOff [id, 0, arg]) s = .next (s.respond 0x21 .badField [])) ∧
    (∀ l, s.link.mode = .service → loadOfId id.toNat = some l → forceArgument l arg = none →
      (l = .routeValve ∧ arg.toNat ≠ 1 ∧ arg.toNat ≠ 2 ∨ l = .selectorValve ∧ 2 ≤ arg.toNat) ∧
      exec (.loadForceOn [id, 1, arg]) s = .next (s.respond 0x21 .badField []) ∧
      exec (.loadForceOff [id, 0, arg]) s = .next (s.respond 0x21 .badField [])) ∧
    (∀ l a, s.link.mode = .service → loadOfId id.toNat = some l → forceArgument l arg = some a →
      (l = .circPump → a = max 30 (min 100 arg.toNat)) ∧
      (l ≠ .circPump → l ≠ .routeValve → l ≠ .selectorValve → a = 0) ∧
      (∃ u : State, exec (.loadForceOn [id, 1, arg]) s = .next (u.settle.respond 0x21 .ok (u.settle.grantBytes l)) ∧
        (u.settle.load l).forced = some a ∧ (u.load l).own = (s.load l).own ∧
        (∀ l', l' ≠ l → u.load l' = s.load l') ∧
        { u with arb := s.arb } = s ∧ u.arb.evalDue = true) ∧
      (∃ u : State, exec (.loadForceOff [id, 0, arg]) s = .next (u.settle.respond 0x21 .ok (u.settle.grantBytes l)) ∧
        (u.settle.load l).forced = none ∧ (u.load l).own = (s.load l).own ∧
        (∀ l', l' ≠ l → u.load l' = s.load l') ∧
        { u with arb := s.arb } = s ∧ u.arb.evalDue = true))

/-- An accepted COLUMN_SET (R83, R84, R86): the column takes the state and the capacity, lowered to the rated capacity,
with its due flag judged and its salt-reduced flag cleared; a column put in SERVICE on the other side calls for a SET
move; an exhausted column may begin to regenerate at once.
The refusals of COLUMN_SET in their order (R84): WRONG_MODE in SERVICE, BAD_FIELD, BUSY, CONFLICT for a second
column in SERVICE.
The codes of the states in the request are the model's choice (log 17), and so is a SET move for a column that is in SERVICE
off the position already (log 42). -/
def Obligations.ColumnSetWritesColumn : Prop :=
  (∀ (s : State) (c : Side) (st : ColumnState) (hi lo : Byte), s.ready → s.inEffect .softener →
      s.link.mode ≠ .service → s.eng.state = .idle → s.soft.regen = none → s.soft.move = none →
      (st = .offline ∨ st = .service ∨ st = .ready ∨ st = .exhausted) →
      ¬(st = .service ∧ (s.column (otherSide c)).state = .service) →
      ∃ u : State,
        exec (.columnSet [BitVec.ofNat 8 (sideCode c), BitVec.ofNat 8 (columnStateCode st), hi, lo]) s =
          .next (u.settle.respond 0x22 .ok (columnBytes u.settle.soft.colA ++ columnBytes u.settle.soft.colB)) ∧
        (u.column c).cap = min (hi.toNat * 256 + lo.toNat) s.softener.rated ∧
        (u.column c).due = decide (min (hi.toNat * 256 + lo.toNat) s.softener.rated ≤ s.softener.reserve) ∧
        (st ≠ .exhausted → (u.column c).state = st ∧ (u.column c).saltReduced = false) ∧
        (st = .exhausted → (u.column c).state = .exhausted ∨ (u.column c).state = .brine) ∧
        (u.column (otherSide c)).cap = (s.column (otherSide c)).cap ∧
        (st = .service → s.soft.position ≠ c →
          ∃ m, u.soft.move = some m ∧ m.purpose = .set ∧ m.target = c ∧ m.driving = decide (s.link.mode = .run)) ∧
        (s.link.mode = .standby → (st ≠ .service ∨ s.soft.position = c) →
          u = s.setColumn c
            { state := st
              cap := min (hi.toNat * 256 + lo.toNat) s.softener.rated
              due := decide (min (hi.toNat * 256 + lo.toNat) s.softener.rated ≤ s.softener.reserve)
              saltReduced := false }) ∧
        u.eng = s.eng ∧ u.chan = s.chan ∧ u.dosing = s.dosing ∧ u.door = s.door) ∧
  (∀ (s : State) (col st hi lo : Byte), s.ready →
      (s.link.mode = .service → exec (.columnSet [col, st, hi, lo]) s = .next (s.respond 0x22 .wrongMode [])) ∧
      (s.link.mode ≠ .service → (2 ≤ col.toNat ∨ 4 ≤ st.toNat) →
        exec (.columnSet [col, st, hi, lo]) s = .next (s.respond 0x22 .badField [])) ∧
      (s.link.mode ≠ .service → col.toNat < 2 → st.toNat < 4 →
        (s.eng.state ≠ .idle ∨ s.soft.regen ≠ none ∨ s.soft.move ≠ none) →
        exec (.columnSet [col, st, hi, lo]) s = .next (s.respond 0x22 .busy [])) ∧
      (∀ c, s.link.mode ≠ .service → sideOfCode col.toNat = some c → st = 1 → s.eng.state = .idle →
        s.soft.regen = none → s.soft.move = none → (s.column (otherSide c)).state = .service →
        exec (.columnSet [col, st, hi, lo]) s = .next (s.respond 0x22 .conflict [])))

/-- REGEN_START (R104, R105): WRONG_MODE outside RUN, then TRIPPED, BUSY under a hold or with a regeneration, CONFLICT
unless the column is exhausted; else the column enters REGEN_BRINE with SALT_LOW judged, and the path is requested: it
is taken when free and waited for behind a fill. -/
def Obligations.RegenStartBegins : Prop :=
  ∀ (s : State) (c : Side), s.ready →
    (s.link.mode ≠ .run →
      exec (.regenStart [BitVec.ofNat 8 (sideCode c)]) s = .next (s.respond 0x23 .wrongMode [])) ∧
    (s.link.mode = .run → s.trip.latch = true →
      exec (.regenStart [BitVec.ofNat 8 (sideCode c)]) s = .next (s.respond 0x23 .tripped [])) ∧
    (s.link.mode = .run → s.trip.latch = false → (s.soft.hold.isEmpty = false ∨ s.soft.regen ≠ none) →
      exec (.regenStart [BitVec.ofNat 8 (sideCode c)]) s = .next (s.respond 0x23 .busy [])) ∧
    (s.link.mode = .run → s.trip.latch = false → s.soft.hold.isEmpty = true → s.soft.regen = none →
      ((s.column c).state ≠ .exhausted →
        exec (.regenStart [BitVec.ofNat 8 (sideCode c)]) s = .next (s.respond 0x23 .conflict [])) ∧
      ((s.column c).state = .exhausted →
        ∃ u : State, exec (.regenStart [BitVec.ofNat 8 (sideCode c)]) s = .next (u.settle.respond 0x23 .ok []) ∧
          (u.column c).state = .brine ∧ (u.column c).saltReduced = s.soft.saltLow ∧
          (u.column c).cap = (s.column c).cap ∧
          (∃ r, u.soft.regen = some r ∧ r.column = c ∧ r.stage = .brine ∧ r.volume = 0) ∧
          (s.soft.holder = .none → u.soft.holder = .regen) ∧
          (s.soft.holder = .fill → u.soft.holder = .fill ∧ u.soft.waiting = true) ∧
          u.eng = s.eng ∧ u.chan = s.chan ∧ u.dosing = s.dosing ∧ u.door = s.door))

/-- RESERVOIR_ADJUST (R126): with the expected estimate the new one stands, lowered to the capacity, and the low-seen
flag is cleared; else STALE_VALUE with the current estimate and nothing changes. The dose in flight is not touched. -/
def Obligations.ReservoirAdjustSetsEstimate : Prop :=
  ∀ (s : State) (r : Reservoir) (a b c d e f g h : Byte), s.ready → s.inEffect (dosingProfileId r) →
    (be32 a b c d = (s.reservoir r).estimate →
      exec (.reservoirAdjust [BitVec.ofNat 8 (reservoirCode r), a, b, c, d, e, f, g, h]) s =
        .next ((s.setReservoir r
          { s.reservoir r with
            estimate := min (be32 e f g h) (s.dosingProfile r).capacity, lowSeen := false }).respond 0x24 .ok
            (u32 (min (be32 e f g h) (s.dosingProfile r).capacity)))) ∧
    (be32 a b c d ≠ (s.reservoir r).estimate →
      exec (.reservoirAdjust [BitVec.ofNat 8 (reservoirCode r), a, b, c, d, e, f, g, h]) s =
        .next (s.respond 0x24 .staleValue (u32 (s.reservoir r).estimate))) ∧
    (∀ res : Byte, 2 ≤ res.toNat →
      exec (.reservoirAdjust [res, a, b, c, d, e, f, g, h]) s = .next (s.respond 0x24 .badField []))

/-! ## Reading the part -/

/-- STATUS reads, CHANNEL_READ, TRIP_READ and CONTEXT_READ answer and change nothing (R172, R186, R200, R201).
The order and the widths of the items of STATUS and TRIP_READ, and what stands for an item that is none, are the model's choice
(log 17, and log 43 for a path without a holder); the trip condition in TRIP_READ is judged without a parity check of the
profile (log 25). -/
def Obligations.ReadsChangeNothing : Prop :=
  ∀ (s : State), s.ready →
    (∀ (n : Byte) bytes, s.page n.toNat = some bytes →
      exec (.statusRead [0, n]) s = .next (s.respond 0x30 .ok bytes)) ∧
    (∀ n : Byte, 5 ≤ n.toNat → exec (.statusRead [0, n]) s = .next (s.respond 0x30 .badField [])) ∧
    (∀ i : Fin 32,
      exec (.channelRead [BitVec.ofNat 8 i.val]) s = .next (s.respond 0x31 .ok (s.channelReading i))) ∧
    (∀ b : Byte, 32 ≤ b.toNat → exec (.channelRead [b]) s = .next (s.respond 0x31 .badField [])) ∧
    exec (.tripRead []) s = .next (s.respond 0x48 .ok s.tripReading) ∧
    (∀ b : Byte, 16 ≤ b.toNat → exec (.contextRead [b]) s = .next (s.respond 0x41 .badField [])) ∧
    (∀ b : Byte, b.toNat ≤ 15 → s.link.image = none →
      exec (.contextRead [b]) s = .next (s.respond 0x41 .empty [])) ∧
    (∀ (b : Byte) (m : Image), b.toNat ≤ 15 → s.link.image = some m →
      exec (.contextRead [b]) s =
        .next (s.respond 0x41 .ok
          ((m.records[b.toNat]?).getD [] ++
            (if 1 ≤ b.toNat ∧ b.toNat ≤ 8 then (m.phases[b.toNat - 1]?).getD [] else []))))

/-- STATUS_WRITE sets the attention threshold, 0 to 7, and the line is judged again (R199, R200).
NOTICE_READ (R198, R199): up to four notices leave the head of the queue and are returned with the number left and
the overrun flag as it stood, which is cleared; the line is judged again. -/
def Obligations.AttentionFollowsQueue : Prop :=
  (∀ (s : State) (n : Byte), s.ready →
      (n.toNat ≤ 7 →
        exec (.statusWrite [1, n]) s =
          .next ({ s with
            link.threshold := n.toNat
            link.attn := s.link.notices.any (fun x => decide (x.level ≤ n.toNat)) }.respond 0x30 .ok
              [n, if s.link.notices.any (fun x => decide (x.level ≤ n.toNat)) then 1 else 0])) ∧
      (8 ≤ n.toNat → exec (.statusWrite [1, n]) s = .next (s.respond 0x30 .badField []))) ∧
  (∀ (s : State), s.ready →
      exec (.noticeRead []) s =
        .next ({ s with
          link.notices := s.link.notices.drop 4
          link.overrun := false
          link.attn := (s.link.notices.drop 4).any (fun x => decide (x.level ≤ s.link.threshold)) }.respond 0x33 .ok
            ([BitVec.ofNat 8 (min 4 s.link.notices.length)] ++ (s.link.notices.take 4).flatMap noticeBytes
              ++ [BitVec.ofNat 8 (s.link.notices.length - 4), if s.link.overrun then 1 else 0])) ∧
      (∀ n : Notice,
        noticeBytes n
          = [BitVec.ofNat 8 (noticeCode n.kind), BitVec.ofNat 8 n.level, n.tag.extractLsb' 8 8, n.tag.extractLsb' 0 8,
              BitVec.ofNat 8 n.subject, n.value.extractLsb' 24 8, n.value.extractLsb' 16 8, n.value.extractLsb' 8 8,
              n.value.extractLsb' 0 8]))

/-- SAMPLES_READ (R20 to R22): a ring gives up to 8 unread samples, oldest first, with the count left, the overrun mark
as it stood, which the read clears, and the pending mark; a single place gives its sample once; NONE or a disabled
channel gives none; an index above 31 is BAD_FIELD. Only the channel's store changes.
That the answer of a single place, and of a channel that stores nothing, is the counted list alone is the model's choice
(log 37). -/
def Obligations.SamplesReadTakesSamples : Prop :=
  ∀ (s : State) (i : Fin 32), s.ready →
    ((s.chan.active[i].contents.enabled = false ∨ s.chan.active[i].contents.store = .none) →
      exec (.samplesRead [BitVec.ofNat 8 i.val]) s = .next (s.respond 0x32 .ok [0])) ∧
    (∀ b : Byte, 32 ≤ b.toNat → exec (.samplesRead [b]) s = .next (s.respond 0x32 .badField [])) ∧
    (s.chan.active[i].contents.enabled = true →
      (s.chan.active[i].contents.store = .latest ∨ s.chan.active[i].contents.store = .paired) →
      s.chan.run[i].store.unreadMark = false →
      exec (.samplesRead [BitVec.ofNat 8 i.val]) s = .next (s.respond 0x32 .ok [0])) ∧
    (∀ n, s.chan.active[i].contents.enabled = true →
      (s.chan.active[i].contents.store = .ring16 ∧ n = 16 ∨ s.chan.active[i].contents.store = .ring64 ∧ n = 64) →
      exec (.samplesRead [BitVec.ofNat 8 i.val]) s =
        .next ({ s with
          chan.run := s.chan.run.set i
            { s.chan.run[i] with
              store := { s.chan.run[i].store with
                ring := s.chan.run[i].store.ring.drop 8
                readPos := (s.chan.run[i].store.readPos + min 8 s.chan.run[i].store.ring.length) % n
                overrun := false } } }.respond 0x32 .ok
          ([BitVec.ofNat 8 (min 8 s.chan.run[i].store.ring.length)]
            ++ (s.chan.run[i].store.ring.take 8).flatMap sampleBytes
            ++ [BitVec.ofNat 8 (s.chan.run[i].store.ring.length - 8),
              if s.chan.run[i].store.overrun then 1 else 0,
              if s.chan.run[i].store.waiting.isSome then 1 else 0]))) ∧
    (∀ x, s.chan.active[i].contents.enabled = true →
      (s.chan.active[i].contents.store = .latest ∨ s.chan.active[i].contents.store = .paired) →
      s.chan.run[i].store.unreadMark = true → s.chan.run[i].store.place = some x →
      exec (.samplesRead [BitVec.ofNat 8 i.val]) s =
        .next ({ s with
          chan.run := s.chan.run.set i
            { s.chan.run[i] with store := { s.chan.run[i].store with unreadMark := false } } }.respond 0x32 .ok
          (1 :: sampleBytes x)))

/-! ## Context image, trip clear, sync and resets -/

/-- CONTEXT_SNAP (R185): TRIPPED with the latch set, BUSY while RUNNING; else the image buffer holds the image of the
state with reason REQUEST, and the answer is its sum. MAINS_LOSS_SNAPSHOT takes the image with reason MAINS (R183).
Nothing else changes but the outstanding report of the loss. -/
def Obligations.SnapshotsFillImage : Prop :=
  ∀ (s : State),
    (s.ready → s.trip.latch = true → exec (.contextSnap []) s = .next (s.respond 0x40 .tripped [])) ∧
    (s.ready → s.trip.latch = false → s.eng.state = .running →
      exec (.contextSnap []) s = .next (s.respond 0x40 .busy [])) ∧
    (s.ready → s.trip.latch = false → s.eng.state ≠ .running →
      exec (.contextSnap []) s =
        .next ({ s with link.image := some (s.image 2) }.respond 0x40 .ok (u16 (imageSum (s.imageBody 2))))) ∧
    (s.ready → ∀ b rest, (b :: rest : List Byte).length ≤ 59 →
      exec (.contextSnap (b :: rest)) s = .next (s.respond 0x40 .badField [])) ∧
    exec .mainsLossSnapshot s =
      .next { s with link.image := some (s.image 1), arb.mainsReports.lossSnapshot := false }

/-- CONTEXT_WRITE before record 15 (R187): in STANDBY with an empty queue the records come in order from 0; a record
that passes joins the staging and no block changes; any refusal discards the staging.
Record 15 (R188, R189): a wrong sum is CHECK, an inconsistent staging BAD_FIELD, a set latch TRIPPED, tables that RUN
could not start with WRONG_MODE; else the image is applied: RUN mode, the queue from the slots, a loaded head SUSPENDED
under RESTORED, the softener held by RESTORED, and the flags and totals as the image has them; a setpoint above the maximum
is lowered to it. The stage record, the DRY record, the columns, the regeneration, the residues, the marks, the route, V_fill
and U, the reservoirs and the dose in flight, PAUSED, are those of records 9 to 14, by the layout of 10.5 that
`ImageHasSixteenRecords` writes: C is lowered to the rated capacity and the due flags judged (R83), an estimate is lowered to the
capacity (R128), DOOR joins for a WASH or DRAIN head whose door is not LATCHED, and MAINS where mains is ABSENT. A FLIP move that
waits at the restore arrives or drives in the same event (R86), so the columns are said without one. The clock of a restored
cycle stands until it resumes, the model's reading (log 64).
The length test and the stated length of an occupied slot are the model's reading (log 20), and so is what makes a staging
inconsistent beyond the rule's words (log 21); a stage timer is loaded as it is, whatever its limit in FILL and DRAIN (log 76),
and so is a head marked cancelling (log 71). -/
def Obligations.ContextWriteStagesAndRestores : Prop :=
  (∀ (s : State) (n : Byte) (body phase : List Byte), s.ready → body.length = 16 → phase.length ≤ 42 →
      contextLengthGood n.toNat body phase = true →
      (s.link.mode ≠ .standby →
        exec (.contextWrite (n :: (body ++ phase))) s = .next ({ s with link.staging := .empty }.respond 0x42 .wrongMode [])) ∧
      (s.link.mode = .standby → s.eng.queue ≠ [] →
        exec (.contextWrite (n :: (body ++ phase))) s = .next ({ s with link.staging := .empty }.respond 0x42 .busy [])) ∧
      (s.link.mode = .standby → s.eng.queue = [] →
        (n.toNat ≠ 0 → n.toNat ≠ s.link.staging.records.length →
          exec (.contextWrite (n :: (body ++ phase))) s =
            .next ({ s with link.staging := .empty }.respond 0x42 .order [])) ∧
        (n.toNat = 0 → headerGood body = false →
          exec (.contextWrite (n :: (body ++ phase))) s =
            .next ({ s with link.staging := .empty }.respond 0x42 .order [])) ∧
        (n.toNat = 0 → headerGood body = true →
          exec (.contextWrite (n :: (body ++ phase))) s =
            .next ({ s with link.staging := { records := [body], phases := [] } }.respond 0x42 .ok [])) ∧
        (n.toNat = s.link.staging.records.length →
          (1 ≤ n.toNat → n.toNat ≤ 8 → slotChecks body phase = false →
            exec (.contextWrite (n :: (body ++ phase))) s =
              .next ({ s with link.staging := .empty }.respond 0x42 .check [])) ∧
          (1 ≤ n.toNat → n.toNat ≤ 8 → slotChecks body phase = true → byteAt body 0 = 0 →
            exec (.contextWrite (n :: (body ++ phase))) s =
              .next ({ s with
                link.staging :=
                  { records := s.link.staging.records ++ [body], phases := s.link.staging.phases ++ [none] } }.respond
                0x42 .ok [])) ∧
          (∀ p, 1 ≤ n.toNat → n.toNat ≤ 8 → slotChecks body phase = true → byteAt body 0 = 1 →
            s.link.staging.slotGood phase = some p →
            exec (.contextWrite (n :: (body ++ phase))) s =
              .next ({ s with
                link.staging :=
                  { records := s.link.staging.records ++ [body], phases := s.link.staging.phases ++ [some p] } }.respond
                0x42 .ok [])) ∧
          (1 ≤ n.toNat → n.toNat ≤ 8 → slotChecks body phase = true → byteAt body 0 = 1 →
            s.link.staging.slotGood phase = none →
            exec (.contextWrite (n :: (body ++ phase))) s =
              .next ({ s with link.staging := .empty }.respond 0x42 .badField [])) ∧
          (9 ≤ n.toNat → n.toNat ≤ 14 →
            exec (.contextWrite (n :: (body ++ phase))) s =
              .next ({ s with
                link.staging := { s.link.staging with records := s.link.staging.records ++ [body] } }.respond
                0x42 .ok []))))) ∧
  (∀ (s : State) (body : List Byte), s.ready → body.length = 16 → s.link.mode = .standby → s.eng.queue = [] →
      s.link.staging.records.length = 15 →
      (imageSum s.link.staging.records ≠ wordAt body 14 →
        exec (.contextWrite (15 :: body)) s = .next ({ s with link.staging := .empty }.respond 0x42 .check [])) ∧
      (imageSum s.link.staging.records = wordAt body 14 → s.link.staging.consistent = false →
        exec (.contextWrite (15 :: body)) s = .next ({ s with link.staging := .empty }.respond 0x42 .badField [])) ∧
      (imageSum s.link.staging.records = wordAt body 14 → s.link.staging.consistent = true →
        (s.trip.latch = true →
          exec (.contextWrite (15 :: body)) s = .next ({ s with link.staging := .empty }.respond 0x42 .tripped [])) ∧
        (s.trip.latch = false → s.tablesReady = false →
          exec (.contextWrite (15 :: body)) s = .next ({ s with link.staging := .empty }.respond 0x42 .wrongMode [])) ∧
        (s.trip.latch = false → s.tablesReady = true →
          ∃ u : State, exec (.contextWrite (15 :: body)) s = .next (u.settle.respond 0x42 .ok []) ∧
            u.link.mode = .run ∧ u.link.staging = .empty ∧ u.link.image = s.link.image ∧
            u.soft.hold.restored = true ∧ u.soft.hold.mains = decide (s.arb.zc.presence = .absent) ∧
            u.soft.tLast = none ∧ u.soft.vFill = wordAt (s.link.staging.record 9) 7 ∧
            u.chan.flags = (body[8]?).getD 0 ∧ u.chan.active = s.chan.active ∧
            (u.trip.latch = false →
              u.eng.queue = s.link.staging.queue.map (fun p => p.lowerSetpoint u.machine.maxSetpoint) ∧
              u.eng.totals.clock = wordAt body 4 * 65536 + wordAt body 6 ∧ u.eng.totals.fillVolume = 0 ∧
              (byteAt (s.link.staging.record 9) 0 = 0 → u.eng.state = s.eng.state ∧ u.eng.head = s.eng.head) ∧
              (byteAt (s.link.staging.record 9) 0 ≠ 0 → u.eng.state = .suspended ∧ u.eng.susp.restored = true ∧
                u.eng.totals.held = true ∧
                u.eng.head.map (fun h => stageCode h.stage) = some (byteAt (s.link.staging.record 9) 0)) ∧
              (let r := fun (k : Nat) => s.link.staging.record k
                let timer := (byteAt (r 9) 3 * 65536 + wordAt (r 9) 4) * 1000
                (∀ h, byteAt (r 9) 0 ≠ 0 → u.eng.head = some h →
                  (h.runMark = .resumed ↔ bitAt (r 9) 1 0 = true) ∧ h.thermostat = bitAt (r 9) 1 1 ∧
                  h.doseBegun = bitAt (r 9) 1 2 ∧ h.cancelling = bitAt (r 9) 1 3 ∧
                  capturedCode h.captured = byteAt (r 9) 1 / 16 % 4 ∧ h.repeats = byteAt (r 9) 2 ∧
                  h.stallTimer = (if h.stage = .fill then timer else 0) ∧
                  h.heatTimer = (if h.stage = .circulate then timer else 0) ∧
                  h.holdTimer = (if h.stage = .hold then timer else 0) ∧
                  h.drainTimer = (if h.stage = .drain then timer else 0) ∧
                  u.eng.susp.mains = decide (s.arb.zc.presence = .absent) ∧ u.eng.susp.host = false ∧
                  u.eng.susp.noWater = false ∧
                  (u.dryHead = none →
                    u.eng.susp.door = decide (s.door.state ≠ .latched) ∧ u.door.dry = s.door.dry) ∧
                  (u.dryHead ≠ none →
                    u.eng.susp.door = false ∧
                    ∃ d, u.door.dry = some d ∧ d.attempt = byteAt (r 9) 6 % 4 ∧
                      attemptCode d.attState = byteAt (r 9) 6 / 4 % 4 ∧ d.window = 0 ∧
                      openedByCode d.openedBy = byteAt (r 9) 6 / 16 % 4 ∧
                      d.condense = (if h.stage = .condense then timer else 0) ∧
                      d.rest = (if h.stage = .opening then timer else 0) ∧
                      d.vent = (if h.stage = .vent then timer else 0))) ∧
                ((∀ m, s.soft.move = some m → m.purpose ≠ .flip) →
                  ∀ k c, (k = 10 ∧ c = u.soft.colA ∨ k = 11 ∧ c = u.soft.colB) →
                    columnStateCode c.state = byteAt (r k) 0 ∧ c.cap = min (wordAt (r k) 2) u.softener.rated ∧
                    c.due = decide (c.cap ≤ u.softener.reserve) ∧ c.saltReduced = bitAt (r k) 1 1) ∧
                (byteAt (r 12) 0 = 0 → u.soft.regen = none) ∧
                (byteAt (r 12) 0 ≠ 0 →
                  ∃ g, u.soft.regen = some g ∧ g.column = (if byteAt (r 12) 0 = 1 then .a else .b) ∧
                    regenStageCode g.stage = byteAt (r 12) 1 ∧ g.flowing = false ∧ g.volume = wordAt (r 12) 2 ∧
                    g.soakTimer = wordAt (r 12) 4 * 1000) ∧
                u.soft.rf = wordAt (r 12) 7 ∧ u.soft.rl = wordAt (r 12) 9 ∧ u.soft.exhaustedMark = bitAt (r 12) 11 0 ∧
                u.soft.flipTried = bitAt (r 12) 11 1 ∧ routeCode u.soft.route = byteAt (r 12) 12 ∧
                u.soft.u = wordAt (r 9) 9 ∧
                (∀ k v, (k = 13 ∧ v = .det ∨ k = 14 ∧ v = .rinse) →
                  (u.reservoir v).estimate =
                    min (wordAt (r k) 0 * 65536 + wordAt (r k) 2) (u.dosingProfile v).capacity ∧
                  (u.reservoir v).lowSeen = bitAt (r k) 4 0 ∧ (u.reservoir v).lowTold = (s.reservoir v).lowTold ∧
                  (bitAt (r k) 4 1 = true →
                    u.dosing.dose =
                      some
                        { reservoir := v
                          tag := ((s.link.staging.queue.head?).map PhaseRecord.tag).getD 0
                          dose := 0
                          total := byteAt (r k) 5
                          done := byteAt (r k) 6
                          state := .paused
                          timer := 0 })) ∧
                (bitAt (r 13) 4 1 = false → bitAt (r 14) 4 1 = false → u.dosing.dose = s.dosing.dose) ∧
                u.eng.totals.extraRinses = wordAt body 0 ∧ u.eng.totals.doses = wordAt body 2)))))

/-- TRIP_CLEAR (R173, R174): while the cause is present it is CAUSE_PRESENT with the reason and nothing else changes;
with the latch clear it only clears the integrity latch; else the latch, the record and the marks are cleared with the
integrity latch, the engine is IDLE with an empty queue, and the FLOOD request and the stray volume end.
A cause taken in SERVICE or RUN with the latch clear sets it (R166, R170): the record, the engine and the dosing unit ended,
the queue empty, the FLOOD request; its notices are TRIP, REGEN_ABORTED where a regeneration ends (R109) and DOSE_SHORT where a
dose does, which is counted (R53, R123), in an order that is free (log 8). With the latch set a cause fills an empty secondary reason where it is another reason, or
SENSOR_LOST of the other role (R171). In STANDBY none is a cause; a report of INLET_FLOW restarts the flow-quiet timer there
where the latch is set, and that it starts none with the latch clear is the model's reading (log 53).
The causes: a TUB_TEMP at the trip temperature and a TUB_LEVEL at the overfill level (R167), LEAK asserted (R167), a role lost
under a cycle or a granted load (R168), the stray flow, which restarts the flow-quiet timer, and a damaged DRAIN_PUMP or
INLET_VALVE entry (R169). -/
def Obligations.TripClearClearsLatch : Prop :=
  (∀ (s : State), s.ready → s.inEffect .machine →
    (s.trip.latch = true → s.condition s.trip.record.reason = true →
      exec (.tripClear []) s =
        .next (s.respond 0x49 .causePresent [BitVec.ofNat 8 (reasonCode s.trip.record.reason)])) ∧
    (s.trip.latch = false →
      exec (.tripClear []) s =
        .next ({ s with trip.integrity := none, trip.more := false }.respond 0x49 .ok [])) ∧
    (s.trip.latch = true → s.condition s.trip.record.reason = false →
      ∃ u : State, exec (.tripClear []) s = .next (u.settle.respond 0x49 .ok []) ∧
        u.trip.latch = false ∧ u.trip.record = .empty ∧ u.trip.flowQuiet = none ∧ u.trip.tableMark = false ∧
        u.trip.lostRole = none ∧ u.eng.state = .idle ∧ u.eng.queue = [] ∧ u.arb.flood = false ∧
        u.soft.stray = 0 ∧ u.arb.evalDue = true ∧ u.chan = s.chan ∧ u.bus = s.bus ∧ u.dosing = s.dosing ∧
        u.door = s.door ∧ (s.inEffect .softener → u.trip.integrity = none ∧ u.trip.more = false))) ∧
  (∀ (s : State) (c : Cause), s.link.mode ≠ .standby → s.trip.latch = false →
    let u := s.tripCause c
    u.trip.latch = true ∧
    u.trip.record =
      { reason := c.reason
        secondary := .none
        tag := if s.underWay then s.headRecord.map PhaseRecord.tag else none
        stage := if s.underWay then s.eng.head.map StageRecord.stage else none
        timeTag := s.link.timeTag
        source := c.source
        value := BitVec.ofInt 32 c.value } ∧
    u.trip.lostRole = c.lost ∧ u.trip.tableMark = (s.trip.tableMark || decide (c.reason = .table)) ∧
    u.trip.flowQuiet = (if c.reason = .inletFlow then some 0 else s.trip.flowQuiet) ∧
    u.eng.state = (if s.link.mode = .run then .tripped else .idle) ∧ u.eng.queue = [] ∧ u.eng.head = none ∧
    u.eng.susp = .empty ∧ u.soft.regen = none ∧ (s.soft.regen ≠ none → u.soft.holder ≠ .regen) ∧ u.dosing.dose = none ∧
    u.arb.flood = (s.arb.flood || decide (c.reason = .flood)) ∧ u.arb.evalDue = true ∧ u.chan = s.chan ∧ u.bus = s.bus ∧
    u.eng.totals.doses =
      (if s.dosing.dose = none then s.eng.totals.doses else min 65535 (s.eng.totals.doses + 1)) ∧
    (∀ d, s.dosing.dose = some d → (u.load (pumpOf d.reservoir)).own = none) ∧
    (∀ g, s.soft.regen = some g → u.column g.column = { s.column g.column with state := .exhausted }) ∧
    (s.inEffect .softener →
      ∃ ns : List Notice,
        ns.Perm
          (s.notice .trip 1 (reasonCode c.reason) c.value ::
            (s.soft.regen.toList.map (fun g => s.notice .regenAborted 4 (sideCode g.column) (regenStageCode g.stage)) ++
              s.dosing.dose.toList.map (fun d => s.notice .doseShort 3 d.tag d.done))) ∧
        u.link = ns.foldl LinkUnit.post s.link)) ∧
  (∀ (s : State) (c : Cause), s.link.mode ≠ .standby → s.trip.latch = true →
    s.tripCause c =
      { s with
        trip.flowQuiet := if c.reason = .inletFlow then some 0 else s.trip.flowQuiet
        trip.record.secondary :=
          if s.trip.record.secondary = .none ∧
              (c.reason ≠ s.trip.record.reason ∨ c.reason = .sensorLost ∧ c.lost ≠ s.trip.lostRole) then c.reason
          else s.trip.record.secondary }) ∧
  (∀ (s : State) (c : Cause), s.link.mode = .standby →
    s.tripCause c = if c.reason = .inletFlow ∧ s.trip.latch = true then { s with trip.flowQuiet := some 0 } else s) ∧
  (∀ (s : State), s.link.mode ≠ .standby → s.inEffect .machine →
    s.judgeOvertemp =
      (if (s.machine.tripTemp : Int) ≤ s.roleValue .tubTemp then
        s.tripCause
          { reason := .overtemp, source := s.roleSource .tubTemp, value := s.roleValue .tubTemp, lost := none }
      else s) ∧
    s.judgeOverfill =
      (if (s.machine.overfill : Int) ≤ s.roleValue .tubLevel then
        s.tripCause { reason := .flood, source := s.roleSource .tubLevel, value := s.roleValue .tubLevel, lost := none }
      else s) ∧
    s.leakChange false = { s with trip.leakTold := false } ∧
    (∀ i, s.bound .leak = some i →
      s.leakChange true =
        State.tripCause { s with trip.leakTold := true }
          { reason := .flood, source := some i.val, value := s.chan.run[i].converted, lost := none }) ∧
    (∀ r source value, r = .tubTemp ∨ r = .tubLevel → s.trip.latch = false → s.trip.lossOpen = false →
      ((s.tellLost r .fresh source value).trip.latch = true ↔
        s.link.mode = .run ∧ s.underWay = true ∨ s.link.mode = .service ∧ ∃ l, s.isGranted l = true) ∧
      ((s.tellLost r .fresh source value).trip.latch = true →
        (s.tellLost r .fresh source value).trip.record.reason = .sensorLost ∧
        (s.tellLost r .fresh source value).trip.record.source = source ∧
        (s.tellLost r .fresh source value).trip.record.value = BitVec.ofInt 32 value ∧
        (s.tellLost r .fresh source value).trip.lostRole = some r)) ∧
    (∀ total before v, (s.flowHandoff total before).2 = .stray v →
      (s.flowHand total before).trip.flowQuiet = some 0 ∧ (s.flowHand total before).trip.latch = true ∧
      (s.trip.latch = false →
        (s.flowHand total before).trip.record.reason = .inletFlow ∧
        (s.flowHand total before).trip.record.value = BitVec.ofInt 32 v)) ∧
    (∀ l, s.requested l = true → (s.loadEntry l).sound = false → s.trip.latch = false →
      (s.tableTrip l).trip.latch = true ∧ (s.tableTrip l).trip.record.reason = .table ∧
      (s.tableTrip l).trip.record.source = some (loadIndex l).val ∧ (s.tableTrip l).trip.tableMark = true))

/-- SYNC answers with the tag as it stood, sets the resolution and starts the tag at 0; another code is BAD_FIELD. The tag
rises by 1 at each tick and wraps from 65535 to 0. RESET answers OK, and its soft reset waits for the end of the
response; the end of any other response lets the receiver hunt again (R191, R202, R203).
That the end of the RESET response is left to SOFT_RESET, and that RESPONSE_END acts whenever it is commanded, are the
model's choices (log 30). -/
def Obligations.SyncResetAndLinkTicks : Prop :=
  ∀ (s : State),
    (s.ready → ∀ r : Resolution,
      exec (.sync [BitVec.ofNat 8 (resolutionCode r)]) s =
        .next ({ s with link.resolution := r, link.timeTag := 0, link.tagPart := 0 }.respond 0x50 .ok
          (u16 s.link.timeTag.toNat))) ∧
    (s.ready → ∀ b : Byte, 3 ≤ b.toNat → exec (.sync [b]) s = .next (s.respond 0x50 .badField [])) ∧
    exec .timeTagTick s = .next { s with link.timeTag := s.link.timeTag + 1, link.tagPart := 0 } ∧
    (s.link.timeTag = 65535 → ∃ t : State, exec .timeTagTick s = .next t ∧ t.link.timeTag = 0) ∧
    (s.ready → exec (.reset []) s = .next ({ s with link.resetPending := true }.respond 0x51 .ok [])) ∧
    (s.link.resetPending = false →
      exec .responseEnd s = .next { s with link.rxOff := false, link.response := none }) ∧
    (s.link.resetPending = true → exec .responseEnd s = .next s)

/-- A soft reset keeps the tables, the profiles, the poll list, the columns' capacities, the estimates, B and the mains
watch, the trip latch with its record, the threshold, the time tag and the image; it ends every request and grant, the
cycle with its queue, the notices, the staging and the integrity latch, and leaves STANDBY with the switches as read
(R23, R39, R55, R110, R129, R145, R165, R177, R190, R203, R204). A service column off the selector's side gets a waiting SET
move, and no other move stands (R110); a damaged softener profile is found by it, and its defaults stand in (R176).
The model's choices in it: it acts whenever commanded and drops the mains reports (log 30), no report is left and an idle load
carries no cause (log 35), the path without a holder is held as SELECTING (log 43), the output of the sump line is empty
(log 6), the half-cycle is kept with the mains watch (log 50), the notices of a profile that the SET move finds damaged stand
in the queue (log 72), and the commands that wait are kept (log 22). -/
def Obligations.SoftResetKeepsAndClears : Prop :=
  (∀ (s : State) (pins : InputPins),
    (s.soft.profile.sound = true ∨ ∀ c, s.serviceColumn = some c → c = if pins.selectorHigh then .a else .b) →
    ∃ t : State, exec (.softReset pins) s = .next t ∧
      t.chan = { s.chan with run := State.reset.chan.run, flags := 0 } ∧
      t.bus = { s.bus with
        run := State.reset.bus.run
        tx := none
        sats := State.reset.bus.sats
        sent := []
        heard := []
        byteTimer := 0 } ∧
      t.eng = { State.reset.eng with profile := s.eng.profile } ∧
      (∀ c, (t.column c).cap = (s.column c).cap ∧ (t.column c).due = (s.column c).due ∧
        (t.column c).saltReduced = (s.column c).saltReduced ∧
        (t.column c).state =
          (if (s.column c).state = .brine ∨ (s.column c).state = .soak ∨ (s.column c).state = .rinse then .exhausted
            else (s.column c).state)) ∧
      t.soft.position = (if pins.selectorHigh then .a else .b) ∧ t.soft.regen = none ∧ t.soft.holder = .none ∧
      t.soft.progress = .selecting ∧ t.soft.waiting = false ∧ t.soft.fallback = false ∧ t.soft.saltLow = false ∧
      t.soft.exhaustedMark = s.soft.exhaustedMark ∧ t.soft.flipTried = s.soft.flipTried ∧
      t.soft.pulse = none ∧ t.soft.route = (if s.soft.pulse.isSome then .unset else s.soft.route) ∧
      t.soft.rf = s.soft.rf ∧ t.soft.rl = s.soft.rl ∧ t.soft.vFill = s.soft.vFill ∧ t.soft.u = s.soft.u ∧
      t.soft.tLast = none ∧ t.soft.stray = 0 ∧ t.soft.hold = .empty ∧ t.soft.profile = s.soft.profile ∧
      (∀ c, (t.column c).state = .service → (∀ d, d ≠ c → (t.column d).state ≠ .service) → t.soft.position ≠ c →
        ∃ m, t.soft.move = some m ∧ m.purpose = .set ∧ m.target = c ∧ m.driving = false) ∧
      ((∀ c, s.serviceColumn = some c → t.soft.position = c) → t.soft.move = none) ∧
      t.dosing.det = { s.dosing.det with lowTold := false } ∧ t.dosing.rinse = { s.dosing.rinse with lowTold := false } ∧
      t.dosing.dose = none ∧
      t.door = { State.reset.door with
        inputs := pins
        closed := pins.doorClosed
        latch := pins.latchEngaged
        state := if pins.doorClosed then (if pins.latchEngaged then .latched else .closedUnlatched) else .open } ∧
      t.arb = { State.reset.arb with
        active := s.arb.active, shadow := s.arb.shadow, budget := s.arb.budget, zc := s.arb.zc } ∧
      t.trip = { State.reset.trip with
        latch := s.trip.latch
        record := s.trip.record
        tableMark := s.trip.tableMark
        lostRole := s.trip.lostRole
        lossOpen := s.trip.lossOpen
        flowQuiet := if s.trip.latch then some 0 else none } ∧
      t.link = { State.reset.link with
        threshold := s.link.threshold
        timeTag := s.link.timeTag
        resolution := s.link.resolution
        tagPart := s.link.tagPart
        image := s.link.image } ∧
      t.pending = s.pending) ∧
  (∀ (s : State) (pins : InputPins) (c : Side), s.soft.profile.sound = false → s.serviceColumn = some c →
    c ≠ (if pins.selectorHigh then .a else .b) →
    ∃ t : State, exec (.softReset pins) s = .next t ∧ t.trip.faultedSoftener = true ∧ t.softener = .default ∧
      t.trip.integrity = some { table := .profile, bank := none, index := 1 } ∧
      t.link.notices.map Notice.kind = [.integrityError, .profileFault] ∧
      t.soft.move = some { purpose := .set, target := c, timer := 0, driving := false, limit := 8 } ∧
      (∀ d, (t.column d).cap = (s.column d).cap ∧ (t.column d).due = decide ((s.column d).cap ≤ 1200)) ∧
      t.link.mode = .standby ∧ t.eng.state = .idle ∧ t.eng.queue = [] ∧ ∀ l, (t.load l).grant = none)

/-! ## The two lines -/

/-- POLL_DUE (R30, R31): an enabled entry with a due time joins the due set, and a free bus takes the lowest entry of it:
the entry leaves the set, its next due time is one interval later, and its poll frame is sent. POLL_FRAME_END: the
response timer starts and the receiver hunts (R25, R32).
The receiver (R25, R38): bytes without SYNC before a frame are dropped, and the frame that ends goes on as SUMP_FRAME_END; a
byte that comes more than 1 ms after the byte before it finds the partial frame discarded, with no SUMP_BYTE_GAP left for it;
bytes while no attempt waits for a response are lost. The form in which the bytes reach it is the model's choice (log 49). -/
def Obligations.PollingTakesEntries : Prop :=
  (∀ (s : State) (i : Fin 16),
    ((s.link.mode = .standby ∨ s.bus.poll[i].enabled = false ∨ s.bus.run[i].due = none) →
      exec (.pollDue i) s = .next s) ∧
    (s.link.mode ≠ .standby → s.bus.poll[i].enabled = true → s.bus.run[i].due ≠ none →
      (s.bus.tx ≠ none →
        exec (.pollDue i) s =
          .next { s with
            bus.run := s.bus.run.set i { s.bus.run[i] with due := none, inDueSet := true } }) ∧
      (s.bus.tx = none → (∀ j : Fin 16, j < i → s.bus.run[j].inDueSet = false) →
        ∃ t : State, exec (.pollDue i) s = .next t ∧
          t.bus.run[i].inDueSet = false ∧ t.bus.run[i].due = some (s.now + s.bus.poll[i].interval * 10) ∧
          t.bus.run[i].outcome = s.bus.run[i].outcome ∧
          (∀ j : Fin 16, j ≠ i → t.bus.run[j] = s.bus.run[j]) ∧
          t.bus.tx = some
            { entry := i
              satellite := s.bus.poll[i].satellite
              mask := s.bus.poll[i].mask
              timeout := s.bus.poll[i].timeout
              retry := s.bus.poll[i].retry
              second := false
              belongs := true
              waiting := false
              timer := 0 } ∧
          t.bus.sent = pollFrame s.bus.poll[i].satellite s.bus.poll[i].mask ∧
          { t with bus := s.bus } = s)) ∧
    (∀ x, s.bus.tx = some x → x.waiting = false →
      exec .pollFrameEnd s =
        .next { s with
          bus.tx := some { x with waiting := true, timer := 0 }, bus.sent := [], bus.heard := [], bus.byteTimer := 0 })) ∧
  (∀ (s : State) (x : Transaction) (noise frame : List Byte), s.bus.tx = some x → x.waiting = true →
      s.pending.any endsAttempt = false → s.bus.heard = [] → (0xC3 : Byte) ∉ noise → endsReception frame = true →
      (noise ++ 0xC3 :: frame).foldl State.hearSump s =
        { s with bus.byteTimer := 0, pending := s.pending ++ [.sumpFrameEnd frame] }) ∧
  (∀ (s : State) (x : Transaction) (b : Byte), s.bus.tx = some x → x.waiting = true → s.pending.any endsAttempt = false →
      s.bus.heard ≠ [] → 10 < s.bus.byteTimer →
      s.hearSump b =
        { s with
          bus.heard := if b = 0xC3 then [b] else []
          bus.byteTimer := 0
          pending := s.pending.filter (fun c => decide (c ≠ .sumpByteGap s.bus.heard)) }) ∧
  (∀ (s : State) (b : Byte), (∀ x, s.bus.tx = some x → x.waiting = false) → s.hearSump b = s)

/-- An accepted response (R33, R36): the satellite is PRESENT with no failures, the samples of the channels asked for reach
the channel unit in the order of the response and then the misses of those that it omits, in ascending order; the entry's
outcome is OK, RETRIED on the second attempt, or PARTIAL where a requested channel is missing. The bus then takes the lowest
index of the due set, and is free only where that is empty (R31), as it does after FAILED and after STOPPED while polling runs
(`State.busFreed`).
An attempt that ends by the response timer or by a frame that fails a test of R26 (R34 to R37): STOPPED where polling
has stopped; a second attempt with the same frame where the entry has a retry left; else FAILED, with one miss of every
channel of the mask and a failure more of the satellite, which is ABSENT at 8. SATELLITE_BACK tells a satellite that was
ABSENT, SATELLITE_LOST one that becomes it (R36).
That each sample and each miss is taken whole before the next is the model's choice (log 27), and that a PARTIAL response
sets the failure count to 0 is read from R33 (log 39). -/
def Obligations.AttemptsEnd : Prop :=
  (∀ (s : State) (x : Transaction) (frame : List Byte) (gs : List Group) (k : Fin 4),
      s.bus.tx = some x → x.waiting = true → x.satellite = k.val + 1 → acceptedGroups x.satellite frame = some gs →
      ∃ u : State, exec (.sumpFrameEnd frame) s = .next u.settle ∧
        u.bus.sats[k] = { presence := .present, failures := 0 } ∧
        (∀ j : Fin 4, j ≠ k → u.bus.sats[j] = s.bus.sats[j]) ∧
        u.bus.run[x.entry].outcome =
          (if (List.range 16).all (fun c => !x.mask.getLsbD c || gs.any (fun g => decide (g.ch = c))) then
            (if x.second then .retried else .ok)
          else .partialData) ∧
        s.busFreed u x.entry u.bus.run[x.entry].outcome ∧ u.bus.poll = s.bus.poll ∧
        (∃ v : State, v.trip = { s.trip with lossOpen := false } ∧
          { v with bus := s.bus, trip := s.trip, link := s.link } = s ∧
          v.link =
            (if s.bus.sats[k].presence = .absent then
              s.link.post (s.notice .satelliteBack 4 x.satellite x.entry.val)
            else s.link) ∧
          let w := (v.deliver x.satellite
              (gs.filter (fun g => decide (g.ch < 16) && x.mask.getLsbD g.ch))).misses x.satellite
              ((List.range 16).filter (fun c => x.mask.getLsbD c && !gs.any (fun g => decide (g.ch = c))))
          { u with bus := w.bus } = w)) ∧
  (∀ (s : State) (x : Transaction) (c : Instr) (k : Fin 4), s.settled →
      s.bus.tx = some x → x.waiting = true → x.satellite = k.val + 1 →
      (c = .sumpResponseTimeout ∨ ∃ frame, c = .sumpFrameEnd frame ∧ acceptedGroups x.satellite frame = none) →
      (x.belongs = false →
        ∃ t : State, exec c s = .next t ∧ s.busFreed t x.entry .stopped ∧ t.bus.sats = s.bus.sats ∧ t.bus.poll = s.bus.poll ∧
          { t with bus := s.bus } = s) ∧
      (x.belongs = true → x.second = false → x.retry = 1 →
        exec c s =
          .next { s with
            bus.tx := some { x with second := true, waiting := false, timer := 0 }
            bus.sent := pollFrame x.satellite x.mask
            bus.heard := []
            bus.byteTimer := 0 }) ∧
      (x.belongs = true → (x.second = true ∨ x.retry ≠ 1) →
        ∃ u : State, exec c s = .next u.settle ∧ s.busFreed u x.entry .failed ∧
          u.bus.sats[k].failures = min 8 (s.bus.sats[k].failures + 1) ∧
          u.bus.sats[k].presence = (if 7 ≤ s.bus.sats[k].failures then .absent else s.bus.sats[k].presence) ∧
          u.bus.poll = s.bus.poll ∧
          let w := State.misses { s with trip.lossOpen := false } x.satellite
            ((List.range 16).filter (fun c => x.mask.getLsbD c))
          { u with bus := w.bus, link := w.link } = w ∧
          u.link =
            (if 7 ≤ s.bus.sats[k].failures ∧ s.bus.sats[k].presence ≠ .absent then
              w.link.post (w.notice .satelliteLost 2 x.satellite x.entry.val)
            else w.link))) ∧
  (∀ (s : State) (satellite : Nat) (g : Group) (gs : List Group) (n : Nat) (ns : List Nat),
      s.deliver satellite [] = s ∧ s.misses satellite [] = s ∧
      s.deliver satellite (g :: gs) = (s.sample satellite g.ch g.flags g.value).settle.deliver satellite gs ∧
      s.misses satellite (n :: ns) = (s.miss satellite n).settle.misses satellite ns)

/-- A valid sample of a sound entry (R6 to R12): the channel is FRESH with no misses; a FLOW total is taken as it is, and
any other value is clamped to 0 to 4095, converted by its curve and filtered; the limit state is judged on the filtered
value. No other channel changes.
A miss (R13, R14): the count rises to at most 15; at the stale limit a channel that is FRESH or has NO_DATA turns
STALE; the values are held. A faulty sample counts as a miss.
What a sample writes into its store (R10, R13, R20, R21): the single place of LATEST, the write half of PAIRED, which then
is the read half, or the write position of a ring, which moves on; a full ring loses its oldest sample with the overrun mark;
RING_HALF and RING_WRAP tell the middle and the end. A faulty sample under advance-on-valid leaves a single place alone and
waits at the write position of a ring that is not full.
Its notices, shown on the roles whose consumers are not told of one (R9, R14): CHANNEL_LIMIT where the compare turns true, at
the entry's level with the filtered value; CHANNEL_STALE at level 3 with the miss count.
A damaged curve leaves the converted value as it was, and is an integrity error (R7); a damaged entry makes the channel
FAULTED with its values held, and is one too (R15); a FAULTED channel takes neither samples nor misses.
The hand-off (R10, R17, R18): when the channel holds its new values, its limit notice is posted and the sample stored, the
consumers of the role act. TUB_TEMP goes to the engine, to an exit test of a HOLD on that role (R70), and to the trip unit;
TUB_LEVEL to the engine, the exit test, the arbiter (an evaluation is due) and the trip unit; TURBIDITY and CONDUCTIVITY to
the exit test; a FLOW total to the softener's accounting, and from there to the engine's volume or the trip unit's stray flow;
a switch tells its consumer of a changed assertion; GENERAL has no consumer. What each consumer does is said by `FlowAccounting`,
`TripClearClearsLatch`, `FillAndHeatTimeouts`, `HoldTimersEndHold`, `DrainTimersEndDrain` and `DoseRule`. A switch is asserted
while its channel is FRESH with a converted value that is not 0.
A miss that turns a channel STALE, and damage that turns it FAULTED, are told to the consumers of the role (R14, R15, R18): the
thermostat is OFF, an evaluation is due, a switch is told, and a TUB_TEMP or TUB_LEVEL lost under a cycle, or in SERVICE under a
grant, is SENSOR_LOST (R168).
The limit compare of a FLOW channel takes the total and the limit as unsigned numbers (R12).
The order of the steps of a faulty sample is the model's choice (log 25), and so is the switch told before its exit test
(log 7) and the hand-off that itself begins HOLD, which is no update (log 36); the model's readings are the loss of a role from
NO_DATA (log 15) and of two roles in one event (log 51). -/
def Obligations.SamplesAndMisses : Prop :=
  (∀ (s : State) (sat ch : Nat) (flags : Byte) (value : Nat) (i : Fin 32),
      s.channelOf sat ch = some i → s.chan.active[i].sound = true → flags.getLsbD 0 = true → flags.getLsbD 1 = false →
      let e := s.chan.active[i].contents
      let r := s.chan.run[i]
      let t := s.sample sat ch flags value
      (∀ c, ∀ h : c < 8, e.curve = some c → (s.chan.curves[c]'h).sound = false → e.role ≠ .flow →
        t.chan.run[i].raw = min 4095 (value : Int) ∧ t.chan.run[i].converted = r.converted ∧
        t.chan.run[i].filtered = filterStep r.freshness r.filtered r.converted e.shift ∧
        (e.role = .general ∨ e.role = .turbidity → t.trip = (s.integrityError .curve (some .active) c).trip)) ∧
      (e.role = .general ∨ e.role = .turbidity → e.store = .none →
        (∀ c, e.curve = some c → ∃ h : c < 8, (s.chan.curves[c]'h).sound = true) → s.runningIn .hold = false →
        limitHolds e t.chan.run[i].filtered = e.cond.holds t.chan.run[i].filtered e.limit ∧
        { t with chan := s.chan, link := s.link } = s ∧
        t.link =
          (if limitHolds e t.chan.run[i].filtered = true ∧ r.limitActive = false then
            s.link.post (s.notice .channelLimit e.level i.val t.chan.run[i].filtered)
          else s.link))) ∧
  (∀ (s : State) (sat ch : Nat) (i : Fin 32), s.channelOf sat ch = some i →
      let e := s.chan.active[i].contents
      let r := s.chan.run[i]
      let quiet := e.role = .general ∨ e.role = .turbidity ∨ e.role = .flow
      r.freshness ≠ .faulted ∧
      (s.chan.active[i].sound = true → quiet →
        (s.miss sat ch).link =
          (if (r.freshness = .fresh ∨ r.freshness = .noData) ∧ e.staleLimit ≤ min 15 (r.misses + 1) then
            s.link.post (s.notice .channelStale 3 i.val (min 15 (r.misses + 1) : Nat))
          else s.link)) ∧
      (s.chan.active[i].sound = false → ∀ (flags : Byte) (value : Nat),
        s.sample sat ch flags value = s.miss sat ch ∧
        (s.miss sat ch).chan.run = s.chan.run.set i { r with freshness := .faulted } ∧
        (quiet →
          s.miss sat ch =
            { s.integrityError .channel (some .active) i.val with
              chan.run := s.chan.run.set i { r with freshness := .faulted } }))) ∧
  (∀ (s : State) (sat ch : Nat), s.channelOf sat ch = none →
      s.miss sat ch = s ∧ ∀ (flags : Byte) (value : Nat), s.sample sat ch flags value = s) ∧
  (∀ (s : State) (sat ch : Nat) (flags : Byte) (value : Nat) (i : Fin 32),
      s.channelOf sat ch = some i → s.chan.active[i].sound = true → flags.getLsbD 0 = true → flags.getLsbD 1 = false →
      (∀ c, s.chan.active[i].contents.curve = some c → ∃ h : c < 8, (s.chan.curves[c]'h).sound = true) →
      let e := s.chan.active[i].contents
      let r := s.chan.run[i]
      let r' := (s.sample sat ch flags value).chan.run[i]
      r'.freshness = .fresh ∧ r'.misses = 0 ∧
      (e.role = .flow → r'.raw = value ∧ r'.converted = value ∧ r'.filtered = value) ∧
      (e.role ≠ .flow → r'.raw = min 4095 (value : Int) ∧
        (e.curve = none → r'.converted = r'.raw) ∧
        (∀ c, e.curve = some c → ∀ h : c < 8,
          r'.converted = evalPoints (s.chan.curves[c]'h).contents.points r'.raw) ∧
        r'.filtered = filterStep r.freshness r.filtered r'.converted e.shift) ∧
      r'.limitActive = limitHolds e r'.filtered ∧
      (∀ x, e.store = .latest → x = { value := r'.converted, flags := flags, tag := s.link.timeTag : Sample } →
        r'.store = { r.store with place := some x, unreadMark := true }) ∧
      (∀ j : Fin 32, j ≠ i → (s.sample sat ch flags value).chan.run[j] = s.chan.run[j]) ∧
      (s.sample sat ch flags value).chan.active = s.chan.active) ∧
  (∀ (s : State) (sat ch : Nat) (i : Fin 32), s.channelOf sat ch = some i → s.chan.active[i].sound = true →
      let r := s.chan.run[i]
      let r' := (s.miss sat ch).chan.run[i]
      r'.misses = min 15 (r.misses + 1) ∧ r'.raw = r.raw ∧ r'.converted = r.converted ∧ r'.filtered = r.filtered ∧
      r'.limitActive = r.limitActive ∧ r'.store = r.store ∧
      r'.freshness =
        (if (r.freshness = .fresh ∨ r.freshness = .noData) ∧ s.chan.active[i].contents.staleLimit ≤ min 15 (r.misses + 1)
          then .stale else r.freshness) ∧
      (∀ j : Fin 32, j ≠ i → (s.miss sat ch).chan.run[j] = s.chan.run[j]) ∧
      (∀ (flags : Byte) (value : Nat), (flags.getLsbD 0 = false ∨ flags.getLsbD 1 = true) →
        ((s.sample sat ch flags value).chan.run[i]).misses = r'.misses ∧
        ((s.sample sat ch flags value).chan.run[i]).freshness = r'.freshness ∧
        ((s.sample sat ch flags value).chan.run[i]).filtered = r.filtered)) ∧
  (∀ (s : State) (i : Fin 32) (e : ChannelEntry) (good : Bool) (flags : Byte),
      let r := s.chan.run[i]
      let x : Sample := { value := r.converted, flags := flags, tag := s.link.timeTag }
      let t := s.storeSample i e good flags
      let taken := good || !e.advanceValid
      let put := fun (st : SampleStore) => { s with chan.run := s.chan.run.set i { r with store := st } }
      (e.store = .none → t = s) ∧
      (e.store = .latest ∨ e.store = .paired → taken = false → t = s) ∧
      (e.store = .latest → taken = true → t = put { r.store with place := some x, unreadMark := true }) ∧
      (e.store = .paired → taken = true →
        t = put { r.store with place := some x, writeHalf := r.store.place, unreadMark := true }) ∧
      (∀ n, e.store = .ring16 ∧ n = 16 ∨ e.store = .ring64 ∧ n = 64 →
        (taken = false →
          t = put (if r.store.ring.length < n then { r.store with waiting := some x } else r.store)) ∧
        (taken = true → r.store.ring.length ≤ n →
          t.chan = State.chan (put { r.store with
            ring := (r.store.ring ++ [x]).drop (r.store.ring.length + 1 - n)
            writePos := (r.store.writePos + 1) % n
            readPos := if r.store.ring.length = n then (r.store.readPos + 1) % n else r.store.readPos
            overrun := r.store.overrun || decide (r.store.ring.length = n)
            waiting := none }) ∧
          (r.store.writePos = (r.store.readPos + r.store.ring.length) % n →
            t.chan.run[i].store.writePos = (t.chan.run[i].store.readPos + t.chan.run[i].store.ring.length) % n) ∧
          { t with chan := s.chan, link := s.link } = s ∧
          (r.store.writePos + 1 = n / 2 →
            t.link = s.link.post (s.notice .ringHalf 6 i.val (min n (r.store.ring.length + 1) : Nat))) ∧
          (r.store.writePos + 1 = n →
            t.link = s.link.post (s.notice .ringWrap 6 i.val (min n (r.store.ring.length + 1) : Nat))) ∧
          (r.store.writePos + 1 ≠ n / 2 → r.store.writePos + 1 ≠ n → t.link = s.link)))) ∧
  (∀ (s : State) (sat ch : Nat) (flags : Byte) (value : Nat) (i : Fin 32),
      s.channelOf sat ch = some i → s.chan.active[i].sound = true → flags.getLsbD 0 = true → flags.getLsbD 1 = false →
      (∀ c, s.chan.active[i].contents.curve = some c → ∃ h : c < 8, (s.chan.curves[c]'h).sound = true) →
      let e := s.chan.active[i].contents
      let r := s.chan.run[i]
      let t := s.sample sat ch flags value
      let r' := t.chan.run[i]
      let v := { s with
        chan.run := s.chan.run.set i { r' with store := r.store }
        link :=
          if r'.limitActive = true ∧ r.limitActive = false then s.link.post (s.notice .channelLimit e.level i.val r'.filtered)
          else s.link }
      let u := v.storeSample i e true flags
      let updated := fun (x : State) => if s.runningIn .hold then x.roleUpdate e.role else x
      (e.role = .general → t = u) ∧
      (e.role = .tubTemp → t = (updated u.engineTemp).judgeOvertemp) ∧
      (e.role = .tubLevel → t = State.judgeOverfill { updated u.engineLevel with arb.evalDue := true }) ∧
      (e.role = .turbidity ∨ e.role = .conductivity → t = updated u) ∧
      (e.role = .flow → t = u.flowHand value r.freshness) ∧
      (e.role = .leak ∨ e.role = .saltLow ∨ e.role = .detLow ∨ e.role = .rinseLow → t = updated (u.tellSwitch e.role))) ∧
  (∀ (s : State) (total : Nat) (before : Freshness),
      let r := s.flowHandoff total before
      (r.2 = .nothing → s.flowHand total before = r.1) ∧
      (∀ v, r.2 = .volume v → s.flowHand total before = r.1.engineVolume v) ∧
      (∀ v, r.2 = .stray v →
        s.flowHand total before =
          r.1.tripCause { reason := .inletFlow, source := r.1.roleSource .flow, value := v, lost := none })) ∧
  (∀ (s : State),
      (∀ r i, s.bound r = some i →
        (s.asserted r = true ↔ s.chan.run[i].freshness = .fresh ∧ s.chan.run[i].converted ≠ 0)) ∧
      (∀ r, s.bound r = none → s.asserted r = false) ∧
      s.tellSwitch .leak = (if s.asserted .leak = s.trip.leakTold then s else s.leakChange (s.asserted .leak)) ∧
      s.tellSwitch .saltLow = { s with soft.saltLow := s.asserted .saltLow } ∧
      s.tellSwitch .detLow =
        (if s.asserted .detLow = s.dosing.det.lowTold then s else s.lowTold .det (s.asserted .detLow)) ∧
      s.tellSwitch .rinseLow =
        (if s.asserted .rinseLow = s.dosing.rinse.lowTold then s else s.lowTold .rinse (s.asserted .rinseLow))) ∧
  (∀ (e : ChannelEntry) (filtered : Int), -32768 ≤ e.limit → e.limit ≤ 32767 →
      limitHolds e filtered =
        e.cond.holds filtered (if e.role = .flow ∧ e.limit < 0 then e.limit + 65536 else e.limit)) ∧
  (∀ (s : State) (sat ch : Nat) (i : Fin 32), s.channelOf sat ch = some i →
      let e := s.chan.active[i].contents
      let r := s.chan.run[i]
      let misses := min 15 (r.misses + 1)
      let stale := (r.freshness = .fresh ∨ r.freshness = .noData) ∧ e.staleLimit ≤ misses
      (s.chan.active[i].sound = true → ¬stale →
        s.miss sat ch = { s with chan.run := s.chan.run.set i { r with misses := misses } }) ∧
      (s.chan.active[i].sound = true → stale →
        s.miss sat ch =
          State.tellLost
            { s with
              chan.run := s.chan.run.set i { r with misses := misses, freshness := .stale }
              link := s.link.post (s.notice .channelStale 3 i.val (misses : Nat)) }
            e.role r.freshness (some i.val) r.filtered) ∧
      (s.chan.active[i].sound = false →
        s.miss sat ch =
          State.tellLost
            { s.integrityError .channel (some .active) i.val with
              chan.run := s.chan.run.set i { r with freshness := .faulted } }
            e.role r.freshness (some i.val) r.filtered)) ∧
  (∀ (s : State) (before : Freshness) (source : Option Nat) (value : Int),
      let cold :=
        if before = .fresh ∧ (s.runningIn .circulate = true ∨ s.runningIn .hold = true) then
          State.release { s with eng.head := s.eng.head.map (fun h => { h with thermostat := false }) } .heater
        else s
      let lost := fun (r : Role) (x : State) =>
        if (before = .fresh ∨ before = .noData ∧ s.roleFreshness r = .stale) ∧
            (s.link.mode = .run ∧ s.underWay = true ∨ s.link.mode = .service ∧ s.noGrant = false ∨ s.trip.lossOpen = true) then
          x.tripCause { reason := .sensorLost, source := source, value := value, lost := some r }
        else x
      (s.noGrant = true ↔ ∀ l, s.isGranted l = false) ∧
      s.tellLost .tubTemp before source value = lost .tubTemp cold ∧
      s.tellLost .tubLevel before source value = lost .tubLevel { s with arb.evalDue := true } ∧
      (∀ r, r = .leak ∨ r = .saltLow ∨ r = .detLow ∨ r = .rinseLow → s.tellLost r before source value = s.tellSwitch r) ∧
      (∀ r, r = .turbidity ∨ r = .conductivity ∨ r = .flow ∨ r = .general → s.tellLost r before source value = s))

/-! ## The stages of a phase -/

/-- FILL_STALLED (R61, R180) and SETPOINT_MISSED (R66): the fill gives the path back and the engine is SUSPENDED for
NO_WATER; the heat timeout moves CIRCULATE to HOLD with the thermostat as it stands, or on to DRAIN with a hold time of
0. Where the timer does not run, nothing happens.
The end of FILL (R59, R60, R62, R64): a volume report at the volume cap, with LEVEL_NOT_REACHED, or a level at the fill target
gives the path back and enters CIRCULATE with CIRC_PUMP requested, where the thermostat is judged on TUB_TEMP; below either
FILL goes on. In CIRCULATE a FRESH TUB_TEMP below the setpoint asks for HEATER, and one at the setpoint moves to HOLD
(R64, R66).
The timer values written are the model's convention (log 2), and that a head marked cancelling goes on like any other is its
choice (log 71). -/
def Obligations.FillAndHeatTimeouts : Prop :=
  (∀ (s : State), s.settled →
    (s.stallRuns = false → exec .fillStalled s = .next s) ∧
    (s.stallRuns = true → s.inEffect .machine →
      ∃ u : State, exec .fillStalled s = .next u.settle ∧
        u.eng = { s.eng with
          state := .suspended
          susp := { s.eng.susp with noWater := true }
          head := s.eng.head.map (fun h => { h with stallTimer := s.machine.fillStall * 10000 }) } ∧
        u.soft.holder ≠ .fill ∧ (u.load .circPump).own = none ∧ (u.load .heater).own = none ∧
        u.link = s.link.post (s.notice .fillStalled 3 s.headTag s.soft.vFill) ∧ u.chan = s.chan ∧ u.bus = s.bus) ∧
    (s.heatRuns = false → exec .setpointMissed s = .next s) ∧
    (∀ w, s.heatRuns = true → s.washHead = some w →
      ∃ u : State, exec .setpointMissed s = .next u.settle ∧
        u.eng.head.map StageRecord.stage = some (if w.holdTime = 0 then .drain else .hold) ∧
        u.eng.state = .running ∧ u.eng.queue = s.eng.queue ∧
        ((w.dose = none ∨ w.dosePoint = .atCirculate) → w.holdTime ≠ 0 →
          (∀ d, s.dosing.dose = some d → 0 < d.done ∨ s.reservoirEmpty d.reservoir = false) →
          u.link = s.link.post (s.notice .setpointMissed 3 s.headTag (s.roleValue .tubTemp)) ∧
          u.eng.head = s.eng.head.map (fun h =>
            { h with heatTimer := w.heatTimeout * 10000, stage := .hold, holdTimer := 0 })) ∧
        u.chan = s.chan ∧ u.bus = s.bus ∧ u.door = s.door)) ∧
  (∀ (s : State) (w : WashFields) (v : Nat), s.runningIn .fill = true → s.washHead = some w →
      (s.soft.vFill < w.fillCap →
        s.engineVolume v =
          { s with
            eng.totals := { s.eng.totals with fillVolume := min 4294967295 (s.eng.totals.fillVolume + v) }
            eng.head := s.eng.head.map (fun h => { h with stallTimer := if 0 < v then 0 else h.stallTimer }) }) ∧
      (s.roleValue .tubLevel < w.fillTarget → s.engineLevel = s) ∧
      (w.setpoint ≠ 0 → (w.dose = none ∨ w.dosePoint = .atSetpoint) →
        (s.fresh .tubTemp = true → s.roleValue .tubTemp < w.setpoint) →
        (w.fillCap ≤ s.soft.vFill →
          (s.engineVolume v).link = s.link.post (s.notice .levelNotReached 3 s.headTag
            (if s.roleFreshness .tubLevel = .noData then 0 else s.roleValue .tubLevel))) ∧
        ((w.fillTarget : Int) ≤ s.roleValue .tubLevel → s.engineLevel.link = s.link) ∧
        ∀ u, (w.fillCap ≤ s.soft.vFill ∧ u = s.engineVolume v ∨
            (w.fillTarget : Int) ≤ s.roleValue .tubLevel ∧ u = s.engineLevel) →
        u.eng.head.map StageRecord.stage = some .circulate ∧
        u.eng.head.map StageRecord.thermostat = some (s.fresh .tubTemp) ∧ u.eng.state = .running ∧
        u.eng.queue = s.eng.queue ∧ u.soft.holder ≠ .fill ∧ (u.load .circPump).own = some w.speed ∧
        ((u.load .heater).own ≠ none ↔ s.fresh .tubTemp = true) ∧ u.chan = s.chan ∧ u.dosing = s.dosing)) ∧
  (∀ (s : State) (w : WashFields), s.runningIn .circulate = true → s.washHead = some w → s.fresh .tubTemp = true →
      (s.roleValue .tubTemp < w.setpoint →
        s.engineTemp.eng = { s.eng with head := s.eng.head.map (fun h => { h with thermostat := true }) } ∧
        (s.engineTemp.load .heater).own ≠ none ∧ s.engineTemp.link = s.link ∧ s.engineTemp.dosing = s.dosing) ∧
      ((w.setpoint : Int) ≤ s.roleValue .tubTemp → w.holdTime ≠ 0 →
        (w.dose = none ∨ s.eng.head.map StageRecord.doseBegun = some true) → s.dosing.dose = none →
        s.engineTemp.eng =
          { s.eng with head := s.eng.head.map (fun h => { h with stage := .hold, holdTimer := 0, thermostat := false }) } ∧
        (s.engineTemp.load .heater).own = none ∧ s.engineTemp.link = s.link))

/-- MINIMUM_HOLD_ELAPSED and HOLD_TIME_EXPIRY (R68, R71, R72, R123): the hold timer stands at its limit; at the hold time
the extra-rinse test is captured, a dose in flight is abandoned and DRAIN begins with DRAIN_PUMP requested.
In HOLD a TUB_TEMP hand-off judges the thermostat between the setpoint and the setpoint less the hysteresis (R69); an update of
the exit test's role that makes it true after the minimum hold ends HOLD, and any other update changes nothing (R70).
The timer values written are the model's convention (log 2), and that a head marked cancelling goes on like any other is its
choice (log 71). -/
def Obligations.HoldTimersEndHold : Prop :=
  (∀ (s : State), s.settled →
    (s.runningIn .hold = false →
      exec .minimumHoldElapsed s = .next s ∧ exec .holdTimeExpiry s = .next s) ∧
    (∀ h w, s.runningIn .hold = true → s.eng.head = some h → s.washHead = some w →
      exec .minimumHoldElapsed s =
        .next { s with eng.head := some { h with holdTimer := max h.holdTimer (w.minHold * 10000) } } ∧
      ∃ u : State, exec .holdTimeExpiry s = .next u.settle ∧
        u.eng.head = some { h with
          stage := .drain
          holdTimer := w.holdTime * 10000
          drainTimer := 0
          timeoutSpent := false
          thermostat := false
          captured :=
            (match w.extraTest with
             | none => .false
             | some x =>
               if (match x.test.subject with
                   | .flag _ => true
                   | .role r => s.fresh r) && x.test.cond.holds (s.subjectValue x.test.subject) x.test.threshold
               then .true else .false) } ∧
        (u.load .drainPump).own = some 0 ∧ (u.load .circPump).own = none ∧ (u.load .heater).own = none ∧
        u.dosing.dose = none ∧ u.eng.queue = s.eng.queue ∧ u.eng.state = .running ∧ u.chan = s.chan ∧
        u.soft = s.soft ∧ u.door = s.door)) ∧
  (∀ (s : State) (h : StageRecord) (w : WashFields), s.runningIn .hold = true → s.eng.head = some h →
      s.washHead = some w → s.inEffect .machine →
      (∀ on : Bool,
        on = (s.fresh .tubTemp && decide (w.setpoint ≠ 0) &&
          (if h.thermostat then decide (s.roleValue .tubTemp < w.setpoint)
            else decide (s.roleValue .tubTemp ≤ (w.setpoint : Int) - s.machine.hysteresis))) →
        s.engineTemp.eng = { s.eng with head := some { h with thermostat := on } } ∧
        ((s.engineTemp.load .heater).own ≠ none ↔ on = true) ∧ s.engineTemp.link = s.link) ∧
      (∀ x r, w.exitTest = some x →
        (x.subject = .role r → w.minHold * 10000 ≤ h.holdTimer → x.cond.holds (s.roleValue r) x.threshold = true →
          (s.roleUpdate r).eng.head.map StageRecord.stage = some .drain ∧
          ((s.roleUpdate r).load .drainPump).own = some 0 ∧ (s.roleUpdate r).dosing.dose = none) ∧
        (x.subject ≠ .role r ∨ h.holdTimer < w.minHold * 10000 ∨ x.cond.holds (s.roleValue r) x.threshold = false →
          s.roleUpdate r = s)) ∧
      (w.exitTest = none → ∀ r, s.roleUpdate r = s))

/-- DRAIN_MINIMUM_TIME_REACHED (R73, R76, R77, R78, R81, R134): the drain timer stands at the minimum. With the level above the
end level, or not FRESH, that is all. Else the drain ends: a cancelling head ends the cycle; a head with the extra-rinse
test captured true and repeats left runs again from FILL; else the phase is done: its masks are applied, PHASE_DONE carries U
and V_fill of a WASH and 0 of a DRAIN, and the next head starts, SUSPENDED for DOOR where it is a WASH or DRAIN and the door is
not LATCHED, or a queue that is then empty ends the cycle.
DRAIN_TIMEOUT (R74, R169, R170): the timeout is spent; with the level FRESH at or below the end level nothing more
happens, else DRAIN_FAIL trips the part: the latch is set, the engine is TRIPPED and the queue is empty.
The timer values written are the model's convention (log 2). -/
def Obligations.DrainTimersEndDrain : Prop :=
  (∀ (s : State) (h : StageRecord) (d : DrainFields), s.settled → s.runningIn .drain = true → s.eng.head = some h →
      s.drainHead = some d →
      ((s.fresh .tubLevel = false ∨ (d.endLevel : Int) < s.roleValue .tubLevel) →
        exec .drainMinimumTimeReached s =
          .next { s with eng.head := some { h with drainTimer := max h.drainTimer (d.minTime * 10000) } }) ∧
      (s.fresh .tubLevel = true → s.roleValue .tubLevel ≤ (d.endLevel : Int) →
        ∃ u : State, exec .drainMinimumTimeReached s = .next u.settle ∧
          (h.cancelling = true →
            u.eng.state = .idle ∧ u.eng.queue = s.eng.queue.tail ∧ u.eng.head = none ∧
            u.chan = s.chan ∧ u.link = s.link.post (s.notice .cycleCancelled 4 s.headTag s.eng.totals.clock)) ∧
          (∀ w x, h.cancelling = false → s.washHead = some w → w.extraTest = some x → h.captured = .true →
            h.repeats < x.maxRepeats →
            u.eng.head = some { StageRecord.start .fill (h.repeats + 1) false with runMark := .resumed } ∧
            u.eng.queue = s.eng.queue ∧ u.eng.state = .running ∧ u.soft.holder = .fill ∧ u.soft.vFill = 0 ∧
            u.eng.totals.extraRinses = min 65535 (s.eng.totals.extraRinses + 1) ∧ u.chan = s.chan) ∧
          (∀ p rest, h.cancelling = false → s.eng.queue = p :: rest →
            (∀ w, p.body = .wash w → h.captured = .true → (w.extraTest.map ExtraTest.maxRepeats).getD 0 ≤ h.repeats) →
            let value : Int :=
              match p.body with
              | .wash _ => ((s.soft.u % 65536 * 65536 + s.soft.vFill % 65536 : Nat) : Int)
              | _ => 0
            let told := s.link.post (s.notice .phaseDone 5 p.tag value)
            u.chan = { s.chan with flags := (s.chan.flags ||| p.setMask) &&& ~~~p.clearMask } ∧ u.bus = s.bus ∧
            (rest = [] →
              u.eng.state = .idle ∧ u.eng.queue = [] ∧ u.eng.head = none ∧ u.eng.susp = .empty ∧
              u.link = told.post (s.notice .cycleDone 4 p.tag s.eng.totals.clock)) ∧
            (∀ q more, rest = q :: more →
              (∀ w, q.body = .wash w → u.eng.queue = rest ∧
                (s.door.state = .latched →
                  u.eng.state = .running ∧ u.soft.holder = .fill ∧ u.soft.vFill = 0 ∧ u.soft.u = 0 ∧
                  u.eng.head = some { StageRecord.start .fill 0 false with runMark := .resumed }) ∧
                (s.door.state ≠ .latched →
                  u.eng.state = .suspended ∧ u.eng.susp = { s.eng.susp with door := true } ∧
                  u.eng.head = some (StageRecord.start .fill 0 false) ∧ u.soft = s.soft ∧ u.link = told)) ∧
              (∀ w, q.body = .drain w → u.eng.queue = rest ∧ u.eng.head = some (StageRecord.start .drain 0 false) ∧ u.link = told ∧
                (s.door.state = .latched → u.eng.state = .running ∧ (u.load .drainPump).own = some 0) ∧
                (s.door.state ≠ .latched →
                  u.eng.state = .suspended ∧ u.eng.susp = { s.eng.susp with door := true } ∧
                  (u.load .drainPump).own = none)) ∧
              (∀ f, q.body = .dry f → s.door.state = .latched → s.coolEnough f = false → f.condenseMax ≠ 0 →
                u.eng.queue = rest ∧ u.eng.head = some (StageRecord.start .condense 0 false) ∧ u.eng.state = .running ∧
                u.door.dry = some DryRecord.new ∧ (u.load .drainPump).own = none ∧ u.link = told))))) ∧
  (∀ (s : State) (h : StageRecord) (d : DrainFields), s.settled → s.eng.head = some h → s.drainHead = some d →
      s.inEffect .machine →
      ((s.runningIn .drain = false ∨ h.timeoutSpent = true) → exec .drainTimeout s = .next s) ∧
      (s.runningIn .drain = true → h.timeoutSpent = false →
        (s.fresh .tubLevel = true → s.roleValue .tubLevel ≤ (d.endLevel : Int) →
          exec .drainTimeout s =
            .next { s with
              eng.head := some { h with
                drainTimer := max h.drainTimer (s.machine.drainTimeout * 10000), timeoutSpent := true } }) ∧
        ((s.fresh .tubLevel = false ∨ (d.endLevel : Int) < s.roleValue .tubLevel) → s.link.mode = .run →
          s.trip.latch = false →
          ∃ u : State, exec .drainTimeout s = .next u.settle ∧ u.trip.latch = true ∧
            u.trip.record.reason = .drainFail ∧ u.trip.record.secondary = .none ∧
            u.trip.record.tag = s.headRecord.map PhaseRecord.tag ∧ u.trip.record.stage = some .drain ∧
            u.trip.record.timeTag = s.link.timeTag ∧ u.trip.record.source = s.roleSource .tubLevel ∧
            u.eng.state = .tripped ∧ u.eng.queue = [] ∧ u.eng.head = none ∧ u.arb.flood = s.arb.flood ∧
            u.dosing.dose = none ∧ u.soft.regen = none ∧ u.chan = s.chan ∧ u.bus = s.bus)))

/-- CYCLE_CLOCK_TICK counts a second of a cycle under way, saturating, but not before a restored cycle has resumed (R53; that
it resumes at its return to RUNNING is the model's reading, log 64); STROKE_COMPLETE counts a stroke: the estimate
falls by the stroke volume, the next stroke starts, and the last ends the dose, which is counted, with DOSE_DONE (R119,
R122). -/
def Obligations.ClockAndStrokes : Prop :=
  ∀ (s : State), s.settled →
    (s.underWay = true → s.eng.totals.held = false →
      exec .cycleClockTick s =
        .next { s with
          eng.totals := { s.eng.totals with clock := min 4294967295 (s.eng.totals.clock + 1), part := 0 } }) ∧
    ((s.underWay = false ∨ s.eng.totals.held = true) → exec .cycleClockTick s = .next s) ∧
    (s.dosing.dose = none → exec .strokeComplete s = .next s) ∧
    (∀ d, s.dosing.dose = some d → s.strokeRuns d = false → exec .strokeComplete s = .next s) ∧
    (∀ d, s.dosing.dose = some d → s.strokeRuns d = true → s.inEffect (dosingProfileId d.reservoir) →
      ∃ u : State, exec .strokeComplete s = .next u.settle ∧
        (u.reservoir d.reservoir).estimate =
          (s.reservoir d.reservoir).estimate - (s.dosingProfile d.reservoir).strokeVolume ∧
        (∀ r, r ≠ d.reservoir → u.reservoir r = s.reservoir r) ∧
        (d.done + 1 < d.total → u.dosing.dose = some { d with done := d.done + 1, timer := 0 } ∧
          u.arb = s.arb ∧ u.link = s.link ∧ u.eng = s.eng) ∧
        (d.total ≤ d.done + 1 → u.dosing.dose = none ∧ (u.load (pumpOf d.reservoir)).own = none ∧
          u.eng.totals.doses = min 65535 (s.eng.totals.doses + 1) ∧
          u.link = s.link.post (s.notice .doseDone 5 d.tag (d.done + 1 : Nat))) ∧
        u.chan = s.chan ∧ u.bus = s.bus ∧ u.soft = s.soft ∧ u.door = s.door)

/-! ## The softener and the door -/

/-- SELECTOR_POSITION_CHANGE (R85, R86, R91, R92): a reading that is the position already changes nothing but the input; an
unexpected change posts SELECTOR_FAULT with value 2 and takes a misaligned service column OFFLINE; the arrival of a FLIP
puts the ready column in SERVICE, with COLUMN_SWITCHED, and the old one out of it; a SET or BACK that arrives only ends. A fill
that waits in SELECTING then becomes SET on route TUB, and else starts a pulse toward TUB (R92).
SELECTOR_TRAVEL_TIMEOUT (R86): a FLIP or SET that does not arrive posts SELECTOR_FAULT with its target and value 1,
and a BACK move drives toward the other side; a BACK that does not arrive posts value 3, of any subject (a free value,
log 12), and a misaligned service column goes OFFLINE; a fill that waits goes on.
That a timeout makes a DRIVING BACK move also where the position is at its target already is the model's reading (log 13). -/
def Obligations.SelectorMovesEnd : Prop :=
  (∀ (s : State) (side : Side), s.settled →
      (s.soft.position = side →
        ∃ t : State, exec (.selectorPositionChange side) s = .next t ∧ { t with door := s.door } = s) ∧
      (s.soft.position ≠ side → (∀ m, s.soft.move = some m → m.driving = false ∨ m.target ≠ side) →
        ∃ t : State, exec (.selectorPositionChange side) s = .next t ∧ t.soft.position = side ∧
          (∀ c, s.serviceColumn = some c → c ≠ side → t.column c = { s.column c with state := .offline }) ∧
          (s.serviceColumn = none ∨ s.serviceColumn = some side → t.soft = { s.soft with position := side }) ∧
          t.link = s.link.post (s.notice .selectorFault 2 (sideCode side) 2) ∧ t.soft.move = s.soft.move ∧
          t.eng = s.eng ∧ t.arb = s.arb ∧ t.chan = s.chan) ∧
      (∀ m, s.soft.position ≠ side → s.soft.move = some m → m.driving = true → m.target = side →
        s.soft.holder = .none →
        ∃ u : State, exec (.selectorPositionChange side) s = .next u.settle ∧ u.soft.position = side ∧
          u.soft.move = none ∧ (u.load .selectorValve).own = none ∧
          (m.purpose = .flip → (s.column side).state = .ready →
            (u.column side).state = .service ∧ (u.column side).cap = (s.column side).cap ∧
            (u.column (otherSide side)).state ≠ .service ∧
            (u.column (otherSide side)).cap = (s.column (otherSide side)).cap) ∧
          (m.purpose ≠ .flip → u.soft.colA = s.soft.colA ∧ u.soft.colB = s.soft.colB ∧ u.link = s.link) ∧
          u.eng = s.eng ∧ u.chan = s.chan) ∧
      (∀ m, s.soft.position ≠ side → s.soft.move = some m → m.driving = true → m.target = side →
        s.soft.holder = .fill → s.soft.progress = .selecting → s.soft.flipTried = true → s.soft.pulse = none →
        ∃ u : State, exec (.selectorPositionChange side) s = .next u.settle ∧ u.soft.position = side ∧
          u.soft.move = none ∧ (u.load .selectorValve).own = none ∧ u.soft.holder = .fill ∧
          (s.soft.route = .tub → u.soft.progress = .set ∧ u.soft.pulse = none ∧ (u.load .inletValve).own = some 0) ∧
          (s.soft.route ≠ .tub → u.soft.progress = .routing ∧ u.soft.pulse = some { target := .tub, timer := 0 } ∧
            (u.load .routeValve).own = some 1) ∧
          (m.purpose = .flip → (s.column side).state = .ready →
            (u.column side).state = .service ∧ (u.column side).cap = (s.column side).cap ∧
            (u.column (otherSide side)).state ≠ .service) ∧
          (m.purpose ≠ .flip → u.soft.colA = s.soft.colA ∧ u.soft.colB = s.soft.colB ∧ u.link = s.link) ∧
          u.eng = s.eng ∧ u.chan = s.chan) ∧
      (∀ m, s.soft.position ≠ side → s.soft.move = some m → m.driving = true → m.target = side → m.purpose = .flip →
        (s.column side).state = .ready → (s.soft.progress = .selecting → s.soft.flipTried = true) →
        s.soft.saltLow = false → s.inEffect .softener →
        ∃ u : State, exec (.selectorPositionChange side) s = .next u.settle ∧
          u.link = s.link.post (s.notice .columnSwitched 5 (sideCode side) (s.column side).cap))) ∧
  (∀ (s : State) (m : SelectorMove), s.settled → s.soft.move = some m → s.inEffect .softener →
      (s.travelRuns m = false → exec .selectorTravelTimeout s = .next s) ∧
      (s.travelRuns m = true → m.purpose ≠ .back →
        ∃ u : State, exec .selectorTravelTimeout s = .next u.settle ∧
          u.soft = { s.soft with
            move := some
              { purpose := .back
                target := otherSide m.target
                timer := 0
                driving := true
                limit := s.softener.travelTimeout } } ∧
          (u.load .selectorValve).own = some (sideCode (otherSide m.target)) ∧
          u.link = s.link.post (s.notice .selectorFault 2 (sideCode m.target) 1) ∧ u.eng = s.eng ∧ u.chan = s.chan) ∧
      (s.travelRuns m = true → m.purpose = .back → s.soft.holder = .none →
        ∃ u : State, exec .selectorTravelTimeout s = .next u.settle ∧ u.soft.move = none ∧
          (u.load .selectorValve).own = none ∧
          (s.soft.position = m.target → u.link = s.link ∧ u.soft = { s.soft with move := none }) ∧
          (s.soft.position ≠ m.target →
            (∃ subject : Fin 256, u.link = s.link.post (s.notice .selectorFault 2 subject.val 3)) ∧
            (∀ c, s.serviceColumn = some c → c ≠ s.soft.position →
              u.column c = { s.column c with state := .offline })) ∧
          u.eng = s.eng ∧ u.chan = s.chan) ∧
      (s.travelRuns m = true → m.purpose = .back → s.soft.holder = .fill → s.soft.progress = .selecting →
        s.soft.flipTried = true → s.soft.pulse = none →
        ∃ u : State, exec .selectorTravelTimeout s = .next u.settle ∧ u.soft.move = none ∧
          (u.load .selectorValve).own = none ∧ u.soft.holder = .fill ∧ u.soft.position = s.soft.position ∧
          (s.soft.route = .tub → u.soft.progress = .set ∧ u.soft.pulse = none ∧ (u.load .inletValve).own = some 0) ∧
          (s.soft.route ≠ .tub → u.soft.progress = .routing ∧ u.soft.pulse = some { target := .tub, timer := 0 } ∧
            (u.load .routeValve).own = some 1) ∧
          u.eng = s.eng ∧ u.chan = s.chan))

/-- ROUTE_PULSE_END (R89, R92) and SOAK_TIME_EXPIRY (R106, R107): the route is the pulse's, ROUTE_VALVE is released, and
the holder whose route it is becomes SET with its valve requested; a soaked column enters REGEN_RINSE, its stage volume
zeroed, and requests the path. -/
def Obligations.RoutePulseAndSoakEnd : Prop :=
  ∀ (s : State), s.settled →
    (s.soft.pulse = none ∨ s.pulseRuns = false → exec .routePulseEnd s = .next s) ∧
    (∀ p, s.soft.pulse = some p → s.pulseRuns = true →
      ∃ u : State, exec .routePulseEnd s = .next u.settle ∧ u.soft.route = p.target ∧
        (s.soft.holder = .none → u.soft.pulse = none ∧ (u.load .routeValve).own = none) ∧
        (s.soft.holder = .fill → s.soft.progress = .routing → s.soft.move = none → p.target = .tub →
          u.soft.pulse = none ∧ u.soft.progress = .set ∧ (u.load .inletValve).own = some 0) ∧
        (∀ r, s.soft.holder = .regen → s.soft.regen = some r → r.stage = .brine → s.soft.progress = .routing →
          s.soft.move = none → p.target = .regen →
          u.soft.progress = .set ∧ u.soft.regen = some { r with flowing := true } ∧
          (u.load .brineValve).own = some 0) ∧
        u.eng = s.eng ∧ u.chan = s.chan ∧ u.link.notices.length ≤ s.link.notices.length + 1) ∧
    (∀ r, s.soft.regen = some r → s.soakRuns r = false → exec .soakTimeExpiry s = .next s) ∧
    (∀ r, s.soft.regen = some r → s.soakRuns r = true → s.inEffect .softener →
      ∃ u : State, exec .soakTimeExpiry s = .next u.settle ∧
        (∃ r', u.soft.regen = some r' ∧ r'.column = r.column ∧ r'.stage = .rinse ∧ r'.volume = 0) ∧
        (u.column r.column).state = .rinse ∧ (u.column r.column).cap = (s.column r.column).cap ∧
        (s.soft.holder = .none → u.soft.holder = .regen) ∧
        (s.soft.holder = .fill → u.soft.holder = .fill ∧ u.soft.waiting = true) ∧
        u.eng = s.eng ∧ u.chan = s.chan ∧ u.link = s.link)

/-- DOOR_SWITCH_DEBOUNCED (R130 to R135): the reading is taken; a new door state is LATCHED, CLOSED_UNLATCHED or OPEN by
the two readings (AJAR_AUTO while it stays open after one), told by DOOR_CHANGED; a WASH or DRAIN cycle that is RUNNING
when the door leaves LATCHED is SUSPENDED for DOOR, and DOOR joins the set of one that is SUSPENDED already (R133).
A DRY head that is RUNNING (R132, R138, R139, R141, R142): a door that opens within a granted attempt window is AJAR_AUTO, and
opened by the actuator; one that leaves LATCHED in CONDENSE, or opens in OPENING outside a window, is opened by the user; both
begin VENT with DRY_OPENED. A door that shuts in VENT completes the phase. Any other change leaves the stage alone.
SETTLE_TIMER_EXPIRY (R135, R178, R181): DOOR leaves the suspension set; the set staying non-empty the cycle stays
SUSPENDED, and a WASH head in FILL whose set is empty returns to RUNNING and takes the path again. Every other head returns by
the one return whose effects `PauseAndResume` states. That a DRY head marked cancelling completes like any other is the model's
choice (log 71), and so are the state and the timers of an attempt in VENT (log 57); that an opening from CLOSED_UNLATCHED in
OPENING outside a window is the user's is its reading (log 16). -/
def Obligations.DoorSwitchesAndSettling : Prop :=
  (∀ (s : State) (sw : DoorSwitch) (level : Bool), s.settled → s.pushing = false →
      let d := s.door.setReading sw level
      let new : DoorState :=
        if d.closed then (if d.latch then .latched else .closedUnlatched)
        else if s.door.state = .ajarAuto then .ajarAuto else .open
      (s.door.reading sw = level → exec (.doorSwitchDebounced sw level) s = .next { s with door := d }) ∧
      (s.door.reading sw ≠ level → new = s.door.state →
        exec (.doorSwitchDebounced sw level) s = .next { s with door := d }) ∧
      (s.door.reading sw ≠ level → new ≠ s.door.state → s.dryHead = none →
        ∃ u : State, exec (.doorSwitchDebounced sw level) s = .next u.settle ∧ u.door.state = new ∧
          u.door.closed = d.closed ∧ u.door.latch = d.latch ∧
          u.link = s.link.post (s.notice .doorChanged 6 (doorCode new) (doorCode s.door.state)) ∧
          (s.door.state = .latched → u.door.settle = none) ∧
          (s.eng.state = .running → s.door.state = .latched →
            u.eng.state = .suspended ∧ u.eng.susp = { s.eng.susp with door := true } ∧
            (u.load .circPump).own = none ∧ (u.load .heater).own = none ∧ (u.load .drainPump).own = none) ∧
          (s.eng.state = .suspended → s.door.state = .latched →
            u.eng = { s.eng with susp := { s.eng.susp with door := true } }) ∧
          (s.eng.state = .suspended → new = .latched → s.eng.susp.door = true → u.door.settle = some 0) ∧
          (s.underWay = false → u.eng = s.eng) ∧ u.eng.queue = s.eng.queue ∧ u.chan = s.chan)) ∧
  (∀ (s : State) (sw : DoorSwitch) (level : Bool) (f : DryFields), s.settled → s.underWay = true → s.dryHead = some f →
      s.door.reading sw ≠ level →
      let d := s.door.setReading sw level
      let ajar := decide (sw = .closed) && !level && s.pushing
      let new : DoorState :=
        if d.closed then (if d.latch then .latched else .closedUnlatched)
        else if ajar = true ∨ s.door.state = .ajarAuto then .ajarAuto else .open
      let told := s.link.post (s.notice .doorChanged 6 (doorCode new) (doorCode s.door.state))
      let user := s.door.state = .latched ∨ sw = .closed ∧ level = false
      let shut := sw = .closed ∧ level = true
      new ≠ s.door.state →
      ∃ u : State, exec (.doorSwitchDebounced sw level) s = .next u.settle ∧ u.door.state = new ∧ u.bus = s.bus ∧
        (s.runningIn .condense = true ∧ s.door.state ≠ .latched ∨
            s.runningIn .opening = true ∧ ajar = false ∧ (s.pushing = true ∨ ¬user) ∨
            s.runningIn .vent = true ∧ ¬shut ∨ s.eng.state = .suspended →
          u.eng = s.eng ∧ u.door.dry = s.door.dry ∧ u.link = told ∧ u.chan = s.chan) ∧
        (s.runningIn .condense = true ∧ s.door.state = .latched ∨
            s.runningIn .opening = true ∧ s.pushing = false ∧ user →
          f.ventTime ≠ 0 →
          u.eng.head = s.eng.head.map (fun h => { h with stage := .vent }) ∧ u.eng.queue = s.eng.queue ∧
          u.door.dry =
            s.door.dry.map (fun x => { x with openedBy := .user, vent := 0, attState := .none, window := 0, rest := 0 }) ∧
          (u.load .doorActuator).own = none ∧ (f.fan = true → (u.load .fan).own = some 0) ∧
          u.link = told.post (s.notice .dryOpened 5 s.headTag 0) ∧ u.chan = s.chan) ∧
        (∀ x, ajar = true → f.ventTime ≠ 0 → s.door.dry = some x →
          u.eng.head = s.eng.head.map (fun h => { h with stage := .vent }) ∧ u.eng.queue = s.eng.queue ∧
          u.door.dry = some { x with openedBy := .actuator, vent := 0, attState := .none, window := 0, rest := 0 } ∧
          (u.load .doorActuator).own = none ∧ (f.fan = true → (u.load .fan).own = some 0) ∧
          u.link = told.post (s.notice .dryOpened 5 s.headTag x.attempt) ∧ u.chan = s.chan) ∧
        (∀ p, s.runningIn .vent = true → shut → s.eng.queue = [p] →
          u.eng.state = .idle ∧ u.eng.queue = [] ∧ u.door.dry = none ∧ (u.load .fan).own = none ∧
          u.chan = { s.chan with flags := (s.chan.flags ||| p.setMask) &&& ~~~p.clearMask } ∧
          u.link = (told.post (s.notice .phaseDone 5 p.tag 0)).post (s.notice .cycleDone 4 p.tag s.eng.totals.clock))) ∧
  (∀ (s : State), s.settled →
      (s.door.settle = none → exec .settleTimerExpiry s = .next s) ∧
      (s.door.settle ≠ none →
        ∃ u : State, exec .settleTimerExpiry s = .next u.settle ∧ u.door.settle = none ∧
          u = State.returnIfFree { s with door.settle := none, eng.susp := { s.eng.susp with door := false } } ∧
          ({ s.eng.susp with door := false }.isEmpty = false →
            u = { s with door.settle := none, eng.susp := { s.eng.susp with door := false } }) ∧
          (∀ h w, s.eng.state = .suspended → { s.eng.susp with door := false }.isEmpty = true →
            s.eng.head = some h → h.stage = .fill → s.washHead = some w → s.dosing.dose = none →
            u.eng.state = .running ∧ u.eng.susp = .empty ∧ u.soft.holder = .fill ∧
            u.eng.head = some { h with runMark := .resumed } ∧ u.eng.queue = s.eng.queue) ∧
          u.bus = s.bus))

/-- The DRY timers (R137, R139, R140, R142): CONDENSE times out into OPENING with a first attempt; a window that ends with
the door closed rests after the first attempt and gives up after the second, with DOOR_ACTUATOR_FAULT, into VENT; the
rest ends with the second attempt.
VENT_TIME_EXPIRY (R77, R78, R142): the DRY phase completes; its masks are applied and PHASE_DONE is posted with value
0. The last phase ends the cycle with CYCLE_DONE; a WASH behind it starts in FILL with the door LATCHED, and SUSPENDED
for DOOR without it (R134).
The timer values written are the model's convention (log 2), and so are what the timers of an attempt hold once it has ended
(log 57), an attempt that pushes at once where the actuator is granted already (log 52), and a head marked cancelling, which
completes like any other (log 71). -/
def Obligations.DryTimersMoveStages : Prop :=
  (∀ (s : State) (f : DryFields) (d : DryRecord), s.settled → s.dryHead = some f → s.door.dry = some d →
      (s.runningIn .condense = false → exec .condenseTimeout s = .next s) ∧
      (s.runningIn .condense = true →
        ∃ u : State, exec .condenseTimeout s = .next u.settle ∧
          u.eng.head = s.eng.head.map (fun h => { h with stage := .opening }) ∧
          u.door.dry = some { d with
            condense := f.condenseMax * 10000
            attempt := 1
            attState := if (s.load .doorActuator).grant = none then .requested else .pushing
            window := 0
            rest := 0 } ∧
          (u.load .doorActuator).own = some 0 ∧ u.eng.queue = s.eng.queue ∧ u.chan = s.chan ∧ u.link = s.link) ∧
      ((s.pushing = false ∨ s.door.closed = false) → exec .attemptWindowExpiry s = .next s) ∧
      (s.pushing = true → s.door.closed = true →
        (d.attempt ≤ 1 →
          ∃ u : State, exec .attemptWindowExpiry s = .next u.settle ∧
            u.door.dry = some { d with attState := .resting, window := 0, rest := 0 } ∧
            (u.load .doorActuator).own = none ∧ u.eng = s.eng ∧ u.chan = s.chan ∧ u.link = s.link) ∧
        (1 < d.attempt → f.ventTime ≠ 0 →
          ∃ u : State, exec .attemptWindowExpiry s = .next u.settle ∧
            u.eng.head = s.eng.head.map (fun h => { h with stage := .vent }) ∧
            u.door.dry = some { d with openedBy := .fault, vent := 0, attState := .none, window := 0, rest := 0 } ∧
            u.link = s.link.post (s.notice .doorActuatorFault 2 s.headTag 2) ∧
            (f.fan = true → (u.load .fan).own = some 0) ∧ (u.load .doorActuator).own = none ∧
            u.eng.queue = s.eng.queue ∧ u.chan = s.chan)) ∧
      (s.restRuns = false → exec .restTimerExpiry s = .next s) ∧
      (s.restRuns = true →
        ∃ u : State, exec .restTimerExpiry s = .next u.settle ∧
          u.door.dry = some { d with attempt := 2, attState := .requested, rest := 0 } ∧
          (u.load .doorActuator).own = some 0 ∧ u.eng = s.eng ∧ u.chan = s.chan ∧ u.link = s.link)) ∧
  (∀ (s : State) (p : PhaseRecord) (rest : List PhaseRecord) (f : DryFields), s.settled → s.eng.queue = p :: rest →
      p.body = .dry f →
      (s.runningIn .vent = false → exec .ventTimeExpiry s = .next s) ∧
      (s.runningIn .vent = true →
        ∃ u : State, exec .ventTimeExpiry s = .next u.settle ∧
          (rest = [] →
            u.door.dry = none ∧ u.eng.state = .idle ∧ u.eng.queue = [] ∧ u.eng.head = none ∧
            u.chan = { s.chan with flags := (s.chan.flags ||| p.setMask) &&& ~~~p.clearMask } ∧
            (u.load .fan).own = none ∧
            u.link = (s.link.post (s.notice .phaseDone 5 p.tag 0)).post
              (s.notice .cycleDone 4 p.tag s.eng.totals.clock)) ∧
          (∀ q more w, rest = q :: more → q.body = .wash w →
            u.door.dry = none ∧ u.eng.queue = rest ∧
            u.chan = { s.chan with flags := (s.chan.flags ||| p.setMask) &&& ~~~p.clearMask } ∧
            (s.door.state = .latched →
              u.eng.state = .running ∧ u.soft.holder = .fill ∧
              u.eng.head = some { StageRecord.start .fill 0 false with runMark := .resumed }) ∧
            (s.door.state ≠ .latched →
              u.eng.state = .suspended ∧ u.eng.susp.door = true ∧
              u.eng.head = some (StageRecord.start .fill 0 false)))))

/-! ## The arbiter's reports and the mains -/

/-- GRANT_REPORT (R61, R89, R95, R105, R118 to R120, R139, R141, R149): an owner takes an outstanding report once, as the
grant stands; a dose
starts a stroke at a grant, or ends with DOSE_EMPTY where none is counted and the reservoir is empty, and voids it at a
withdrawal; a pulse starts again; INLET_VALVE granted to a holder zeroes the stray volume and restarts the fill's stall timer,
and follows BRINE_VALVE in REGEN_BRINE; an attempt to open the door starts its window at a grant and is void at a withdrawal.
Without an outstanding report nothing happens. It is the same report that an evaluation makes of each grant it changes
(`State.ownerReport`, `EvaluationPlacesGrants`).
That a report may wait as a command of its own is spec only for a loss of mains; else it is log 10. -/
def Obligations.GrantReportReachesOwner : Prop :=
  ∀ (s : State) (l : LoadId), s.settled →
    (s.arb.reports.contains l = false → exec (.grantReport l) s = .next s) ∧
    (s.arb.reports.contains l = true →
      ∃ u : State, exec (.grantReport l) s = .next u.settle ∧ u.arb.reports = s.arb.reports.erase l ∧
        u = State.ownerReport { s with arb.reports := s.arb.reports.erase l } l ∧
        (∀ k, (u.load k).grant = (s.load k).grant) ∧
        (∀ d r, l = pumpOf r → s.dosing.dose = some d → d.reservoir = r → d.state ≠ .paused →
          (s.granted l = false → u.dosing.dose = some { d with state := .requested, timer := 0 }) ∧
          (s.granted l = true → (0 < d.done ∨ s.reservoirEmpty r = false) →
            u.dosing.dose = some { d with state := .stroking, timer := 0 } ∧ u.link = s.link) ∧
          (s.granted l = true → d.done = 0 → s.reservoirEmpty r = true →
            u.dosing.dose = none ∧ (u.load l).own = none ∧
            u.link = s.link.post (s.notice .doseEmpty 2 d.tag (reservoirCode r)))) ∧
        (∀ p, l = .routeValve → s.soft.pulse = some p → (s.load .routeValve).forced = none →
          u.soft.pulse = some { p with timer := 0 } ∧
          (s.granted .routeValve = false → u.soft.route = .unset)) ∧
        (l = .routeValve → s.granted .routeValve = true → (s.load .routeValve).forced ≠ none → u.soft.route = .unset) ∧
        (l = .inletValve →
          u.soft = (if s.granted .inletValve = true ∧ s.soft.holder ≠ .none then { s.soft with stray := 0 } else s.soft) ∧
          u.eng = (if s.granted .inletValve = true ∧ s.soft.holder = .fill then
              { s.eng with head := s.eng.head.map (fun h => { h with stallTimer := 0 }) } else s.eng) ∧
          u.link = s.link) ∧
        (∀ g, l = .brineValve → s.soft.holder = .regen → s.soft.regen = some g → g.stage = .brine →
          (u.load .inletValve).own = (if s.granted .brineValve = true then some 0 else none) ∧ u.soft = s.soft ∧
          u.link = s.link) ∧
        (∀ x, l = .doorActuator → s.runningIn .opening = true → s.door.dry = some x →
          (s.granted .doorActuator = true → (x.attState = .requested ∨ x.attState = .pushing) →
            u.door = { s.door with dry := some { x with attState := .pushing, window := 0 } }) ∧
          (s.granted .doorActuator = false → x.attState = .pushing →
            u.door = { s.door with dry := some { x with attState := .requested, window := 0 } }) ∧
          (x.attState = .resting → u.door = s.door) ∧ u.eng = s.eng ∧ u.link = s.link) ∧
        ((l = .heater ∨ l = .circPump ∨ l = .drainPump ∨ l = .fan ∨ l = .selectorValve) →
          u = { s with arb.reports := s.arb.reports.erase l }) ∧
        u.chan = s.chan ∧ u.bus = s.bus ∧ u.eng.queue = s.eng.queue ∧ u.eng.state = s.eng.state)

/-- ZERO_CROSS_PULSE and ZERO_CROSS_MISSED (R162 to R164): a pulse within 7.0 ms is noise; in PRESENT an accepted one
clears the misses; else the run grows by gaps up to 12.0 ms and mains is PRESENT at 2.0 s. The third miss in PRESENT is
the loss of mains: every grant falls, MAINS_LOST carries the G that stood, and the loss is told to its blocks. The first
crossing has no gap, so it starts the run at 0. Each accepted crossing begins the other half-cycle (log 50).
That ZERO_CROSS_MISSED counts whenever it is commanded, and how a run starts again, is the model's reading (log 29); a crossing at
12.0 ms just after the miss of that instant (log 65) and the time of a loss that was not recorded (log 35) are its choices.
The output pins (R86, R89, R149, R199): a load's drive is on for as long as its grant lasts, and at HALF in every second
half-cycle; the pump's speed, the directions of the two valves and the two line drivers, and ATTN, which is active low. Which
half-cycle conducts (log 50) and the level of SELDIR (log 17) are the model's choices. -/
def Obligations.ZeroCrossWatch : Prop :=
  (∀ (s : State), s.settled →
    (∀ last, s.arb.zc.last = some last → s.now - last < 70 → exec .zeroCrossPulse s = .next s) ∧
    (∀ last, s.arb.zc.last = some last → 70 ≤ s.now - last →
      (s.arb.zc.presence = .present →
        exec .zeroCrossPulse s =
          .next { s with arb.zc := { s.arb.zc with last := some s.now, misses := 0, phase := !s.arb.zc.phase } }) ∧
      (s.arb.zc.presence ≠ .present → s.now - last ≤ 120 → s.arb.zc.run + (s.now - last) < 20000 →
        exec .zeroCrossPulse s =
          .next { s with
            arb.zc := { s.arb.zc with
              last := some s.now, run := s.arb.zc.run + (s.now - last), phase := !s.arb.zc.phase } }) ∧
      (s.arb.zc.presence ≠ .present → 120 < s.now - last →
        exec .zeroCrossPulse s =
          .next { s with arb.zc := { s.arb.zc with last := some s.now, run := 0, phase := !s.arb.zc.phase } }) ∧
      (s.arb.zc.presence ≠ .present → s.now - last ≤ 120 → 20000 ≤ s.arb.zc.run + (s.now - last) →
        ∃ u : State, exec .zeroCrossPulse s = .next u.settle ∧ u.arb.zc.presence = .present ∧
          u.arb.zc.misses = 0 ∧ u.arb.zc.last = some s.now ∧ u.arb.zc.phase = !s.arb.zc.phase ∧ u.arb.evalDue = true ∧
          (s.arb.zc.presence = .absent →
            u.arb.mainsReports.backEngine = true ∧ u.arb.mainsReports.backSoftener = true ∧
            u.link = s.link.post (s.notice .mainsBack 4 0 s.outage)) ∧
          (s.arb.zc.presence = .unknown → u.link = s.link ∧ u.arb.mainsReports = s.arb.mainsReports))) ∧
    (s.arb.zc.last = none →
      exec .zeroCrossPulse s =
        .next { s with
          arb.zc :=
            if s.arb.zc.presence = .present then
              { s.arb.zc with last := some s.now, misses := 0, phase := !s.arb.zc.phase }
            else { s.arb.zc with last := some s.now, run := 0, phase := !s.arb.zc.phase } }) ∧
    (s.arb.zc.presence ≠ .present →
      exec .zeroCrossMissed s = .next { s with arb.zc := { s.arb.zc with run := 0 } }) ∧
    (s.arb.zc.presence = .present → s.arb.zc.misses < 2 →
      exec .zeroCrossMissed s = .next { s with arb.zc := { s.arb.zc with misses := s.arb.zc.misses + 1 } }) ∧
    (s.arb.zc.presence = .present → 2 ≤ s.arb.zc.misses →
      ∃ u : State, exec .zeroCrossMissed s = .next u.settle ∧ u.arb.zc.presence = .absent ∧
        (∀ l, (u.load l).grant = none) ∧ u.arb.mainsReports.lossEngine = true ∧
        u.arb.mainsReports.lossSoftener = true ∧ u.arb.mainsReports.lossSnapshot = true ∧
        u.link = s.link.post (s.notice .mainsLost 1 0 s.totalWatts) ∧
        (∀ l, s.isGranted l = true → u.arb.reports.contains l = true) ∧
        u.eng = s.eng ∧ u.soft = s.soft ∧ u.dosing = s.dosing ∧ u.door = s.door ∧ u.chan = s.chan)) ∧
  (∀ (s : State) (l : LoadId),
    ((s.load l).grant = none → s.drivePin l = false) ∧
    (s.requested l = true → (s.load l).grant = some .full → s.drivePin l = true) ∧
    (s.requested l = true → (s.load l).grant = some .half → s.drivePin l = s.arb.zc.phase) ∧
    (∀ last, s.settled → s.arb.zc.presence = .present → s.arb.zc.last = some last → 70 ≤ s.now - last →
      ∃ t : State, exec .zeroCrossPulse s = .next t ∧
        t.drivePin l = (if (s.load l).grant = some .half then s.requested l && !s.arb.zc.phase else s.drivePin l))) ∧
  (∀ s : State,
    s.pumpSpeed = (if s.granted .circPump = true then s.argument .circPump else none) ∧
    (s.rtdirPin = true ↔ s.argument .routeValve = some 1) ∧ (s.seldirPin = true ↔ s.argument .selectorValve = some 0) ∧
    (s.attnPin = true ↔ s.link.attn = false) ∧ (s.hdirPin = true ↔ s.link.response ≠ none) ∧
    (s.sdirPin = true ↔ ∃ x, s.bus.tx = some x ∧ x.waiting = false))

/-- The mains reports (R108, R178, R183, R184): a loss puts MAINS in the suspension set of a cycle under way, which is
then SUSPENDED, and in the hold set, which takes a regeneration off the path; the return takes MAINS out of each, and the
engine whose set is then empty returns to RUNNING by the one return whose effects `PauseAndResume` states (R181). -/
def Obligations.MainsReportsReachBlocks : Prop :=
  ∀ (s : State),
    (∃ u : State, exec .mainsLossEngine s = .next u.settle ∧ u.arb.mainsReports.lossEngine = false ∧
      (s.underWay = true → u.eng.state = .suspended ∧ u.eng.susp = { s.eng.susp with mains := true }) ∧
      (s.underWay = false → u.eng = s.eng ∧ u.soft = s.soft) ∧ u.eng.queue = s.eng.queue ∧
      u.soft.hold = s.soft.hold ∧ u.chan = s.chan ∧ u.link = s.link) ∧
    (∃ u : State, exec .mainsLossSoftener s = .next u.settle ∧ u.arb.mainsReports.lossSoftener = false ∧
      u.soft.hold = { s.soft.hold with mains := true } ∧
      (s.soft.hold.isEmpty = true → u.soft.holder ≠ .regen ∧ u.soft.waiting = false) ∧
      (∀ c, u.column c = s.column c) ∧ u.eng = s.eng ∧ u.chan = s.chan ∧ u.link = s.link) ∧
    (∃ u : State, exec .mainsBackEngine s = .next u.settle ∧ u.arb.mainsReports.backEngine = false ∧
      u = State.returnIfFree
        { s with arb.mainsReports.backEngine := false, eng.susp := { s.eng.susp with mains := false } } ∧
      ({ s.eng.susp with mains := false }.isEmpty = false →
        u.eng = { s.eng with susp := { s.eng.susp with mains := false } }) ∧
      u.eng.susp.mains = false ∧ u.soft.hold = s.soft.hold ∧ u.bus = s.bus) ∧
    (∃ u : State, exec .mainsBackSoftener s = .next u.settle ∧ u.arb.mainsReports.backSoftener = false ∧
      u.soft.hold = { s.soft.hold with mains := false } ∧
      (∀ r, s.soft.hold = { mains := true, restored := false } → s.soft.regen = some r → r.stage ≠ .soak →
        s.soft.holder = .none → u.soft.holder = .regen) ∧
      u.eng = s.eng ∧ u.chan = s.chan)
end

