-- ==== Sys2Proof/Laws/State.lean ====
section
/-! SUPPORT. One lemma per unit of the state per update: what an update leaves alone, so that no proof unfolds it. -/

namespace Sys2Proof.Machine

@[simp] theorem State.draw_chan (s : State) : s.draw.chan = s.chan := rfl
@[simp] theorem State.draw_bus (s : State) : s.draw.bus = s.bus := rfl
@[simp] theorem State.draw_eng (s : State) : s.draw.eng = s.eng := rfl
@[simp] theorem State.draw_soft (s : State) : s.draw.soft = s.soft := rfl
@[simp] theorem State.draw_dosing (s : State) : s.draw.dosing = s.dosing := rfl
@[simp] theorem State.draw_door (s : State) : s.draw.door = s.door := rfl
@[simp] theorem State.draw_arb (s : State) : s.draw.arb = s.arb := rfl
@[simp] theorem State.draw_trip (s : State) : s.draw.trip = s.trip := rfl
@[simp] theorem State.draw_link (s : State) : s.draw.link = s.link := rfl
@[simp] theorem State.draw_now (s : State) : s.draw.now = s.now := rfl
@[simp] theorem State.draw_pending (s : State) : s.draw.pending = s.pending := rfl
@[simp] theorem State.draw_due (s : State) : s.draw.due = s.due := rfl

@[simp] theorem State.post_chan (s : State) (k : NoticeKind) (l n : Nat) (v : Int) : (s.post k l n v).chan = s.chan := rfl
@[simp] theorem State.post_bus (s : State) (k : NoticeKind) (l n : Nat) (v : Int) : (s.post k l n v).bus = s.bus := rfl
@[simp] theorem State.post_eng (s : State) (k : NoticeKind) (l n : Nat) (v : Int) : (s.post k l n v).eng = s.eng := rfl
@[simp] theorem State.post_soft (s : State) (k : NoticeKind) (l n : Nat) (v : Int) : (s.post k l n v).soft = s.soft := rfl
@[simp] theorem State.post_dosing (s : State) (k : NoticeKind) (l n : Nat) (v : Int) : (s.post k l n v).dosing = s.dosing := rfl
@[simp] theorem State.post_door (s : State) (k : NoticeKind) (l n : Nat) (v : Int) : (s.post k l n v).door = s.door := rfl
@[simp] theorem State.post_arb (s : State) (k : NoticeKind) (l n : Nat) (v : Int) : (s.post k l n v).arb = s.arb := rfl
@[simp] theorem State.post_trip (s : State) (k : NoticeKind) (l n : Nat) (v : Int) : (s.post k l n v).trip = s.trip := rfl
@[simp] theorem State.post_now (s : State) (k : NoticeKind) (l n : Nat) (v : Int) : (s.post k l n v).now = s.now := rfl
@[simp] theorem State.post_draws (s : State) (k : NoticeKind) (l n : Nat) (v : Int) : (s.post k l n v).draws = s.draws := rfl
@[simp] theorem State.post_pending (s : State) (k : NoticeKind) (l n : Nat) (v : Int) : (s.post k l n v).pending = s.pending := rfl
@[simp] theorem State.post_due (s : State) (k : NoticeKind) (l n : Nat) (v : Int) : (s.post k l n v).due = s.due := rfl

@[simp] theorem State.postAll_chan (s : State) (ns : List Notice) : (s.postAll ns).chan = s.chan := rfl
@[simp] theorem State.postAll_bus (s : State) (ns : List Notice) : (s.postAll ns).bus = s.bus := rfl
@[simp] theorem State.postAll_eng (s : State) (ns : List Notice) : (s.postAll ns).eng = s.eng := rfl
@[simp] theorem State.postAll_soft (s : State) (ns : List Notice) : (s.postAll ns).soft = s.soft := rfl
@[simp] theorem State.postAll_dosing (s : State) (ns : List Notice) : (s.postAll ns).dosing = s.dosing := rfl
@[simp] theorem State.postAll_door (s : State) (ns : List Notice) : (s.postAll ns).door = s.door := rfl
@[simp] theorem State.postAll_arb (s : State) (ns : List Notice) : (s.postAll ns).arb = s.arb := rfl
@[simp] theorem State.postAll_trip (s : State) (ns : List Notice) : (s.postAll ns).trip = s.trip := rfl
@[simp] theorem State.postAll_now (s : State) (ns : List Notice) : (s.postAll ns).now = s.now := rfl
@[simp] theorem State.postAll_draws (s : State) (ns : List Notice) : (s.postAll ns).draws = s.draws := rfl
@[simp] theorem State.postAll_pending (s : State) (ns : List Notice) : (s.postAll ns).pending = s.pending := rfl
@[simp] theorem State.postAll_due (s : State) (ns : List Notice) : (s.postAll ns).due = s.due := rfl

@[simp] theorem State.markEval_chan (s : State) : s.markEval.chan = s.chan := rfl
@[simp] theorem State.markEval_bus (s : State) : s.markEval.bus = s.bus := rfl
@[simp] theorem State.markEval_eng (s : State) : s.markEval.eng = s.eng := rfl
@[simp] theorem State.markEval_soft (s : State) : s.markEval.soft = s.soft := rfl
@[simp] theorem State.markEval_dosing (s : State) : s.markEval.dosing = s.dosing := rfl
@[simp] theorem State.markEval_door (s : State) : s.markEval.door = s.door := rfl
@[simp] theorem State.markEval_trip (s : State) : s.markEval.trip = s.trip := rfl
@[simp] theorem State.markEval_link (s : State) : s.markEval.link = s.link := rfl
@[simp] theorem State.markEval_now (s : State) : s.markEval.now = s.now := rfl
@[simp] theorem State.markEval_draws (s : State) : s.markEval.draws = s.draws := rfl
@[simp] theorem State.markEval_pending (s : State) : s.markEval.pending = s.pending := rfl
@[simp] theorem State.markEval_due (s : State) : s.markEval.due = s.due := rfl

@[simp] theorem State.setLoad_chan (s : State) (l : LoadId) (x : LoadState) : (s.setLoad l x).chan = s.chan := rfl
@[simp] theorem State.setLoad_bus (s : State) (l : LoadId) (x : LoadState) : (s.setLoad l x).bus = s.bus := rfl
@[simp] theorem State.setLoad_eng (s : State) (l : LoadId) (x : LoadState) : (s.setLoad l x).eng = s.eng := rfl
@[simp] theorem State.setLoad_soft (s : State) (l : LoadId) (x : LoadState) : (s.setLoad l x).soft = s.soft := rfl
@[simp] theorem State.setLoad_dosing (s : State) (l : LoadId) (x : LoadState) : (s.setLoad l x).dosing = s.dosing := rfl
@[simp] theorem State.setLoad_door (s : State) (l : LoadId) (x : LoadState) : (s.setLoad l x).door = s.door := rfl
@[simp] theorem State.setLoad_trip (s : State) (l : LoadId) (x : LoadState) : (s.setLoad l x).trip = s.trip := rfl
@[simp] theorem State.setLoad_link (s : State) (l : LoadId) (x : LoadState) : (s.setLoad l x).link = s.link := rfl
@[simp] theorem State.setLoad_now (s : State) (l : LoadId) (x : LoadState) : (s.setLoad l x).now = s.now := rfl
@[simp] theorem State.setLoad_draws (s : State) (l : LoadId) (x : LoadState) : (s.setLoad l x).draws = s.draws := rfl
@[simp] theorem State.setLoad_pending (s : State) (l : LoadId) (x : LoadState) : (s.setLoad l x).pending = s.pending := rfl
@[simp] theorem State.setLoad_due (s : State) (l : LoadId) (x : LoadState) : (s.setLoad l x).due = s.due := rfl

@[simp] theorem State.setGrant_chan (s : State) (l : LoadId) (g : Option Step) : (s.setGrant l g).chan = s.chan := rfl
@[simp] theorem State.setGrant_bus (s : State) (l : LoadId) (g : Option Step) : (s.setGrant l g).bus = s.bus := rfl
@[simp] theorem State.setGrant_eng (s : State) (l : LoadId) (g : Option Step) : (s.setGrant l g).eng = s.eng := rfl
@[simp] theorem State.setGrant_soft (s : State) (l : LoadId) (g : Option Step) : (s.setGrant l g).soft = s.soft := rfl
@[simp] theorem State.setGrant_dosing (s : State) (l : LoadId) (g : Option Step) : (s.setGrant l g).dosing = s.dosing := rfl
@[simp] theorem State.setGrant_door (s : State) (l : LoadId) (g : Option Step) : (s.setGrant l g).door = s.door := rfl
@[simp] theorem State.setGrant_trip (s : State) (l : LoadId) (g : Option Step) : (s.setGrant l g).trip = s.trip := rfl
@[simp] theorem State.setGrant_link (s : State) (l : LoadId) (g : Option Step) : (s.setGrant l g).link = s.link := rfl
@[simp] theorem State.setGrant_now (s : State) (l : LoadId) (g : Option Step) : (s.setGrant l g).now = s.now := rfl
@[simp] theorem State.setGrant_draws (s : State) (l : LoadId) (g : Option Step) : (s.setGrant l g).draws = s.draws := rfl
@[simp] theorem State.setGrant_pending (s : State) (l : LoadId) (g : Option Step) : (s.setGrant l g).pending = s.pending := rfl
@[simp] theorem State.setGrant_due (s : State) (l : LoadId) (g : Option Step) : (s.setGrant l g).due = s.due := rfl

@[simp] theorem State.request_chan (s : State) (l : LoadId) (a : Nat) : (s.request l a).chan = s.chan := rfl
@[simp] theorem State.request_bus (s : State) (l : LoadId) (a : Nat) : (s.request l a).bus = s.bus := rfl
@[simp] theorem State.request_eng (s : State) (l : LoadId) (a : Nat) : (s.request l a).eng = s.eng := rfl
@[simp] theorem State.request_soft (s : State) (l : LoadId) (a : Nat) : (s.request l a).soft = s.soft := rfl
@[simp] theorem State.request_dosing (s : State) (l : LoadId) (a : Nat) : (s.request l a).dosing = s.dosing := rfl
@[simp] theorem State.request_door (s : State) (l : LoadId) (a : Nat) : (s.request l a).door = s.door := rfl
@[simp] theorem State.request_trip (s : State) (l : LoadId) (a : Nat) : (s.request l a).trip = s.trip := rfl
@[simp] theorem State.request_link (s : State) (l : LoadId) (a : Nat) : (s.request l a).link = s.link := rfl
@[simp] theorem State.request_now (s : State) (l : LoadId) (a : Nat) : (s.request l a).now = s.now := rfl
@[simp] theorem State.request_draws (s : State) (l : LoadId) (a : Nat) : (s.request l a).draws = s.draws := rfl
@[simp] theorem State.request_pending (s : State) (l : LoadId) (a : Nat) : (s.request l a).pending = s.pending := rfl
@[simp] theorem State.request_due (s : State) (l : LoadId) (a : Nat) : (s.request l a).due = s.due := rfl

@[simp] theorem State.release_chan (s : State) (l : LoadId) : (s.release l).chan = s.chan := by unfold State.release; split <;> rfl
@[simp] theorem State.release_bus (s : State) (l : LoadId) : (s.release l).bus = s.bus := by unfold State.release; split <;> rfl
@[simp] theorem State.release_eng (s : State) (l : LoadId) : (s.release l).eng = s.eng := by unfold State.release; split <;> rfl
@[simp] theorem State.release_soft (s : State) (l : LoadId) : (s.release l).soft = s.soft := by unfold State.release; split <;> rfl
@[simp] theorem State.release_dosing (s : State) (l : LoadId) : (s.release l).dosing = s.dosing := by unfold State.release; split <;> rfl
@[simp] theorem State.release_door (s : State) (l : LoadId) : (s.release l).door = s.door := by unfold State.release; split <;> rfl
@[simp] theorem State.release_trip (s : State) (l : LoadId) : (s.release l).trip = s.trip := by unfold State.release; split <;> rfl
@[simp] theorem State.release_link (s : State) (l : LoadId) : (s.release l).link = s.link := by unfold State.release; split <;> rfl
@[simp] theorem State.release_now (s : State) (l : LoadId) : (s.release l).now = s.now := by unfold State.release; split <;> rfl
@[simp] theorem State.release_draws (s : State) (l : LoadId) : (s.release l).draws = s.draws := by unfold State.release; split <;> rfl
@[simp] theorem State.release_pending (s : State) (l : LoadId) : (s.release l).pending = s.pending := by unfold State.release; split <;> rfl
@[simp] theorem State.release_due (s : State) (l : LoadId) : (s.release l).due = s.due := by unfold State.release; split <;> rfl

@[simp] theorem State.withHead_chan (s : State) (f : StageRecord → StageRecord) : (s.withHead f).chan = s.chan := rfl
@[simp] theorem State.withHead_bus (s : State) (f : StageRecord → StageRecord) : (s.withHead f).bus = s.bus := rfl
@[simp] theorem State.withHead_soft (s : State) (f : StageRecord → StageRecord) : (s.withHead f).soft = s.soft := rfl
@[simp] theorem State.withHead_dosing (s : State) (f : StageRecord → StageRecord) : (s.withHead f).dosing = s.dosing := rfl
@[simp] theorem State.withHead_door (s : State) (f : StageRecord → StageRecord) : (s.withHead f).door = s.door := rfl
@[simp] theorem State.withHead_arb (s : State) (f : StageRecord → StageRecord) : (s.withHead f).arb = s.arb := rfl
@[simp] theorem State.withHead_trip (s : State) (f : StageRecord → StageRecord) : (s.withHead f).trip = s.trip := rfl
@[simp] theorem State.withHead_link (s : State) (f : StageRecord → StageRecord) : (s.withHead f).link = s.link := rfl
@[simp] theorem State.withHead_now (s : State) (f : StageRecord → StageRecord) : (s.withHead f).now = s.now := rfl
@[simp] theorem State.withHead_draws (s : State) (f : StageRecord → StageRecord) : (s.withHead f).draws = s.draws := rfl
@[simp] theorem State.withHead_pending (s : State) (f : StageRecord → StageRecord) : (s.withHead f).pending = s.pending := rfl
@[simp] theorem State.withHead_due (s : State) (f : StageRecord → StageRecord) : (s.withHead f).due = s.due := rfl

@[simp] theorem State.withDry_chan (s : State) (f : DryRecord → DryRecord) : (s.withDry f).chan = s.chan := rfl
@[simp] theorem State.withDry_bus (s : State) (f : DryRecord → DryRecord) : (s.withDry f).bus = s.bus := rfl
@[simp] theorem State.withDry_eng (s : State) (f : DryRecord → DryRecord) : (s.withDry f).eng = s.eng := rfl
@[simp] theorem State.withDry_soft (s : State) (f : DryRecord → DryRecord) : (s.withDry f).soft = s.soft := rfl
@[simp] theorem State.withDry_dosing (s : State) (f : DryRecord → DryRecord) : (s.withDry f).dosing = s.dosing := rfl
@[simp] theorem State.withDry_arb (s : State) (f : DryRecord → DryRecord) : (s.withDry f).arb = s.arb := rfl
@[simp] theorem State.withDry_trip (s : State) (f : DryRecord → DryRecord) : (s.withDry f).trip = s.trip := rfl
@[simp] theorem State.withDry_link (s : State) (f : DryRecord → DryRecord) : (s.withDry f).link = s.link := rfl
@[simp] theorem State.withDry_now (s : State) (f : DryRecord → DryRecord) : (s.withDry f).now = s.now := rfl
@[simp] theorem State.withDry_draws (s : State) (f : DryRecord → DryRecord) : (s.withDry f).draws = s.draws := rfl
@[simp] theorem State.withDry_pending (s : State) (f : DryRecord → DryRecord) : (s.withDry f).pending = s.pending := rfl
@[simp] theorem State.withDry_due (s : State) (f : DryRecord → DryRecord) : (s.withDry f).due = s.due := rfl

@[simp] theorem State.withRun_bus (s : State) (i : Fin 32) (f : ChannelRun → ChannelRun) : (s.withRun i f).bus = s.bus := rfl
@[simp] theorem State.withRun_eng (s : State) (i : Fin 32) (f : ChannelRun → ChannelRun) : (s.withRun i f).eng = s.eng := rfl
@[simp] theorem State.withRun_soft (s : State) (i : Fin 32) (f : ChannelRun → ChannelRun) : (s.withRun i f).soft = s.soft := rfl
@[simp] theorem State.withRun_dosing (s : State) (i : Fin 32) (f : ChannelRun → ChannelRun) : (s.withRun i f).dosing = s.dosing := rfl
@[simp] theorem State.withRun_door (s : State) (i : Fin 32) (f : ChannelRun → ChannelRun) : (s.withRun i f).door = s.door := rfl
@[simp] theorem State.withRun_arb (s : State) (i : Fin 32) (f : ChannelRun → ChannelRun) : (s.withRun i f).arb = s.arb := rfl
@[simp] theorem State.withRun_trip (s : State) (i : Fin 32) (f : ChannelRun → ChannelRun) : (s.withRun i f).trip = s.trip := rfl
@[simp] theorem State.withRun_link (s : State) (i : Fin 32) (f : ChannelRun → ChannelRun) : (s.withRun i f).link = s.link := rfl
@[simp] theorem State.withRun_now (s : State) (i : Fin 32) (f : ChannelRun → ChannelRun) : (s.withRun i f).now = s.now := rfl
@[simp] theorem State.withRun_draws (s : State) (i : Fin 32) (f : ChannelRun → ChannelRun) : (s.withRun i f).draws = s.draws := rfl
@[simp] theorem State.withRun_pending (s : State) (i : Fin 32) (f : ChannelRun → ChannelRun) : (s.withRun i f).pending = s.pending := rfl
@[simp] theorem State.withRun_due (s : State) (i : Fin 32) (f : ChannelRun → ChannelRun) : (s.withRun i f).due = s.due := rfl

@[simp] theorem State.withPoll_chan (s : State) (i : Fin 16) (f : PollRun → PollRun) : (s.withPoll i f).chan = s.chan := rfl
@[simp] theorem State.withPoll_eng (s : State) (i : Fin 16) (f : PollRun → PollRun) : (s.withPoll i f).eng = s.eng := rfl
@[simp] theorem State.withPoll_soft (s : State) (i : Fin 16) (f : PollRun → PollRun) : (s.withPoll i f).soft = s.soft := rfl
@[simp] theorem State.withPoll_dosing (s : State) (i : Fin 16) (f : PollRun → PollRun) : (s.withPoll i f).dosing = s.dosing := rfl
@[simp] theorem State.withPoll_door (s : State) (i : Fin 16) (f : PollRun → PollRun) : (s.withPoll i f).door = s.door := rfl
@[simp] theorem State.withPoll_arb (s : State) (i : Fin 16) (f : PollRun → PollRun) : (s.withPoll i f).arb = s.arb := rfl
@[simp] theorem State.withPoll_trip (s : State) (i : Fin 16) (f : PollRun → PollRun) : (s.withPoll i f).trip = s.trip := rfl
@[simp] theorem State.withPoll_link (s : State) (i : Fin 16) (f : PollRun → PollRun) : (s.withPoll i f).link = s.link := rfl
@[simp] theorem State.withPoll_now (s : State) (i : Fin 16) (f : PollRun → PollRun) : (s.withPoll i f).now = s.now := rfl
@[simp] theorem State.withPoll_draws (s : State) (i : Fin 16) (f : PollRun → PollRun) : (s.withPoll i f).draws = s.draws := rfl
@[simp] theorem State.withPoll_pending (s : State) (i : Fin 16) (f : PollRun → PollRun) : (s.withPoll i f).pending = s.pending := rfl
@[simp] theorem State.withPoll_due (s : State) (i : Fin 16) (f : PollRun → PollRun) : (s.withPoll i f).due = s.due := rfl

@[simp] theorem State.withSat_chan (s : State) (n : Nat) (f : Satellite → Satellite) : (s.withSat n f).chan = s.chan := by unfold State.withSat; split <;> rfl
@[simp] theorem State.withSat_eng (s : State) (n : Nat) (f : Satellite → Satellite) : (s.withSat n f).eng = s.eng := by unfold State.withSat; split <;> rfl
@[simp] theorem State.withSat_soft (s : State) (n : Nat) (f : Satellite → Satellite) : (s.withSat n f).soft = s.soft := by unfold State.withSat; split <;> rfl
@[simp] theorem State.withSat_dosing (s : State) (n : Nat) (f : Satellite → Satellite) : (s.withSat n f).dosing = s.dosing := by unfold State.withSat; split <;> rfl
@[simp] theorem State.withSat_door (s : State) (n : Nat) (f : Satellite → Satellite) : (s.withSat n f).door = s.door := by unfold State.withSat; split <;> rfl
@[simp] theorem State.withSat_arb (s : State) (n : Nat) (f : Satellite → Satellite) : (s.withSat n f).arb = s.arb := by unfold State.withSat; split <;> rfl
@[simp] theorem State.withSat_trip (s : State) (n : Nat) (f : Satellite → Satellite) : (s.withSat n f).trip = s.trip := by unfold State.withSat; split <;> rfl
@[simp] theorem State.withSat_link (s : State) (n : Nat) (f : Satellite → Satellite) : (s.withSat n f).link = s.link := by unfold State.withSat; split <;> rfl
@[simp] theorem State.withSat_now (s : State) (n : Nat) (f : Satellite → Satellite) : (s.withSat n f).now = s.now := by unfold State.withSat; split <;> rfl
@[simp] theorem State.withSat_draws (s : State) (n : Nat) (f : Satellite → Satellite) : (s.withSat n f).draws = s.draws := by unfold State.withSat; split <;> rfl
@[simp] theorem State.withSat_pending (s : State) (n : Nat) (f : Satellite → Satellite) : (s.withSat n f).pending = s.pending := by unfold State.withSat; split <;> rfl
@[simp] theorem State.withSat_due (s : State) (n : Nat) (f : Satellite → Satellite) : (s.withSat n f).due = s.due := by unfold State.withSat; split <;> rfl

@[simp] theorem State.setColumn_chan (s : State) (c : Side) (x : Column) : (s.setColumn c x).chan = s.chan := by cases c <;> rfl
@[simp] theorem State.setColumn_bus (s : State) (c : Side) (x : Column) : (s.setColumn c x).bus = s.bus := by cases c <;> rfl
@[simp] theorem State.setColumn_eng (s : State) (c : Side) (x : Column) : (s.setColumn c x).eng = s.eng := by cases c <;> rfl
@[simp] theorem State.setColumn_dosing (s : State) (c : Side) (x : Column) : (s.setColumn c x).dosing = s.dosing := by cases c <;> rfl
@[simp] theorem State.setColumn_door (s : State) (c : Side) (x : Column) : (s.setColumn c x).door = s.door := by cases c <;> rfl
@[simp] theorem State.setColumn_arb (s : State) (c : Side) (x : Column) : (s.setColumn c x).arb = s.arb := by cases c <;> rfl
@[simp] theorem State.setColumn_trip (s : State) (c : Side) (x : Column) : (s.setColumn c x).trip = s.trip := by cases c <;> rfl
@[simp] theorem State.setColumn_link (s : State) (c : Side) (x : Column) : (s.setColumn c x).link = s.link := by cases c <;> rfl
@[simp] theorem State.setColumn_now (s : State) (c : Side) (x : Column) : (s.setColumn c x).now = s.now := by cases c <;> rfl
@[simp] theorem State.setColumn_draws (s : State) (c : Side) (x : Column) : (s.setColumn c x).draws = s.draws := by cases c <;> rfl
@[simp] theorem State.setColumn_pending (s : State) (c : Side) (x : Column) : (s.setColumn c x).pending = s.pending := by cases c <;> rfl
@[simp] theorem State.setColumn_due (s : State) (c : Side) (x : Column) : (s.setColumn c x).due = s.due := by cases c <;> rfl

@[simp] theorem State.setReservoir_chan (s : State) (r : Reservoir) (x : ReservoirState) : (s.setReservoir r x).chan = s.chan := by cases r <;> rfl
@[simp] theorem State.setReservoir_bus (s : State) (r : Reservoir) (x : ReservoirState) : (s.setReservoir r x).bus = s.bus := by cases r <;> rfl
@[simp] theorem State.setReservoir_eng (s : State) (r : Reservoir) (x : ReservoirState) : (s.setReservoir r x).eng = s.eng := by cases r <;> rfl
@[simp] theorem State.setReservoir_soft (s : State) (r : Reservoir) (x : ReservoirState) : (s.setReservoir r x).soft = s.soft := by cases r <;> rfl
@[simp] theorem State.setReservoir_door (s : State) (r : Reservoir) (x : ReservoirState) : (s.setReservoir r x).door = s.door := by cases r <;> rfl
@[simp] theorem State.setReservoir_arb (s : State) (r : Reservoir) (x : ReservoirState) : (s.setReservoir r x).arb = s.arb := by cases r <;> rfl
@[simp] theorem State.setReservoir_trip (s : State) (r : Reservoir) (x : ReservoirState) : (s.setReservoir r x).trip = s.trip := by cases r <;> rfl
@[simp] theorem State.setReservoir_link (s : State) (r : Reservoir) (x : ReservoirState) : (s.setReservoir r x).link = s.link := by cases r <;> rfl
@[simp] theorem State.setReservoir_now (s : State) (r : Reservoir) (x : ReservoirState) : (s.setReservoir r x).now = s.now := by cases r <;> rfl
@[simp] theorem State.setReservoir_draws (s : State) (r : Reservoir) (x : ReservoirState) : (s.setReservoir r x).draws = s.draws := by cases r <;> rfl
@[simp] theorem State.setReservoir_pending (s : State) (r : Reservoir) (x : ReservoirState) : (s.setReservoir r x).pending = s.pending := by cases r <;> rfl
@[simp] theorem State.setReservoir_due (s : State) (r : Reservoir) (x : ReservoirState) : (s.setReservoir r x).due = s.due := by cases r <;> rfl

@[simp] theorem State.setFaulted_chan (s : State) (p : ProfileId) (b : Bool) : (s.setFaulted p b).chan = s.chan := by cases p <;> rfl
@[simp] theorem State.setFaulted_bus (s : State) (p : ProfileId) (b : Bool) : (s.setFaulted p b).bus = s.bus := by cases p <;> rfl
@[simp] theorem State.setFaulted_eng (s : State) (p : ProfileId) (b : Bool) : (s.setFaulted p b).eng = s.eng := by cases p <;> rfl
@[simp] theorem State.setFaulted_soft (s : State) (p : ProfileId) (b : Bool) : (s.setFaulted p b).soft = s.soft := by cases p <;> rfl
@[simp] theorem State.setFaulted_dosing (s : State) (p : ProfileId) (b : Bool) : (s.setFaulted p b).dosing = s.dosing := by cases p <;> rfl
@[simp] theorem State.setFaulted_door (s : State) (p : ProfileId) (b : Bool) : (s.setFaulted p b).door = s.door := by cases p <;> rfl
@[simp] theorem State.setFaulted_arb (s : State) (p : ProfileId) (b : Bool) : (s.setFaulted p b).arb = s.arb := by cases p <;> rfl
@[simp] theorem State.setFaulted_link (s : State) (p : ProfileId) (b : Bool) : (s.setFaulted p b).link = s.link := by cases p <;> rfl
@[simp] theorem State.setFaulted_now (s : State) (p : ProfileId) (b : Bool) : (s.setFaulted p b).now = s.now := by cases p <;> rfl
@[simp] theorem State.setFaulted_draws (s : State) (p : ProfileId) (b : Bool) : (s.setFaulted p b).draws = s.draws := by cases p <;> rfl
@[simp] theorem State.setFaulted_pending (s : State) (p : ProfileId) (b : Bool) : (s.setFaulted p b).pending = s.pending := by cases p <;> rfl
@[simp] theorem State.setFaulted_due (s : State) (p : ProfileId) (b : Bool) : (s.setFaulted p b).due = s.due := by cases p <;> rfl

@[simp] theorem State.clearIntegrity_chan (s : State) : s.clearIntegrity.chan = s.chan := rfl
@[simp] theorem State.clearIntegrity_bus (s : State) : s.clearIntegrity.bus = s.bus := rfl
@[simp] theorem State.clearIntegrity_eng (s : State) : s.clearIntegrity.eng = s.eng := rfl
@[simp] theorem State.clearIntegrity_soft (s : State) : s.clearIntegrity.soft = s.soft := rfl
@[simp] theorem State.clearIntegrity_dosing (s : State) : s.clearIntegrity.dosing = s.dosing := rfl
@[simp] theorem State.clearIntegrity_door (s : State) : s.clearIntegrity.door = s.door := rfl
@[simp] theorem State.clearIntegrity_arb (s : State) : s.clearIntegrity.arb = s.arb := rfl
@[simp] theorem State.clearIntegrity_link (s : State) : s.clearIntegrity.link = s.link := rfl
@[simp] theorem State.clearIntegrity_now (s : State) : s.clearIntegrity.now = s.now := rfl
@[simp] theorem State.clearIntegrity_draws (s : State) : s.clearIntegrity.draws = s.draws := rfl
@[simp] theorem State.clearIntegrity_pending (s : State) : s.clearIntegrity.pending = s.pending := rfl

@[simp] theorem State.setThreshold_chan (s : State) (n : Nat) : (s.setThreshold n).chan = s.chan := rfl
@[simp] theorem State.setThreshold_bus (s : State) (n : Nat) : (s.setThreshold n).bus = s.bus := rfl
@[simp] theorem State.setThreshold_eng (s : State) (n : Nat) : (s.setThreshold n).eng = s.eng := rfl
@[simp] theorem State.setThreshold_soft (s : State) (n : Nat) : (s.setThreshold n).soft = s.soft := rfl
@[simp] theorem State.setThreshold_dosing (s : State) (n : Nat) : (s.setThreshold n).dosing = s.dosing := rfl
@[simp] theorem State.setThreshold_door (s : State) (n : Nat) : (s.setThreshold n).door = s.door := rfl
@[simp] theorem State.setThreshold_arb (s : State) (n : Nat) : (s.setThreshold n).arb = s.arb := rfl
@[simp] theorem State.setThreshold_trip (s : State) (n : Nat) : (s.setThreshold n).trip = s.trip := rfl
@[simp] theorem State.setThreshold_now (s : State) (n : Nat) : (s.setThreshold n).now = s.now := rfl
@[simp] theorem State.setThreshold_draws (s : State) (n : Nat) : (s.setThreshold n).draws = s.draws := rfl
@[simp] theorem State.setThreshold_pending (s : State) (n : Nat) : (s.setThreshold n).pending = s.pending := rfl
@[simp] theorem State.setThreshold_due (s : State) (n : Nat) : (s.setThreshold n).due = s.due := rfl

@[simp] theorem State.clearHeard_chan (s : State) : s.clearHeard.chan = s.chan := rfl
@[simp] theorem State.clearHeard_eng (s : State) : s.clearHeard.eng = s.eng := rfl
@[simp] theorem State.clearHeard_soft (s : State) : s.clearHeard.soft = s.soft := rfl
@[simp] theorem State.clearHeard_dosing (s : State) : s.clearHeard.dosing = s.dosing := rfl
@[simp] theorem State.clearHeard_door (s : State) : s.clearHeard.door = s.door := rfl
@[simp] theorem State.clearHeard_arb (s : State) : s.clearHeard.arb = s.arb := rfl
@[simp] theorem State.clearHeard_trip (s : State) : s.clearHeard.trip = s.trip := rfl
@[simp] theorem State.clearHeard_link (s : State) : s.clearHeard.link = s.link := rfl
@[simp] theorem State.clearHeard_now (s : State) : s.clearHeard.now = s.now := rfl
@[simp] theorem State.clearHeard_draws (s : State) : s.clearHeard.draws = s.draws := rfl
@[simp] theorem State.clearHeard_due (s : State) : s.clearHeard.due = s.due := rfl
@[simp] theorem State.clearHeard_pending (s : State) : s.clearHeard.pending = s.pending := rfl
@[simp] theorem State.clearHeard_bus_poll (s : State) : s.clearHeard.bus.poll = s.bus.poll := rfl
@[simp] theorem State.clearHeard_bus_run (s : State) : s.clearHeard.bus.run = s.bus.run := rfl
@[simp] theorem State.clearHeard_bus_tx (s : State) : s.clearHeard.bus.tx = s.bus.tx := rfl
@[simp] theorem State.clearHeard_bus_sats (s : State) : s.clearHeard.bus.sats = s.bus.sats := rfl
@[simp] theorem State.clearHeard_bus_sent (s : State) : s.clearHeard.bus.sent = s.bus.sent := rfl
@[simp] theorem State.clearHeard_bus_heard (s : State) : s.clearHeard.bus.heard = [] := rfl
@[simp] theorem State.clearHeard_bus_byteTimer (s : State) : s.clearHeard.bus.byteTimer = 0 := rfl

@[simp] theorem State.snapshot_chan (s : State) (n : Nat) : (s.snapshot n).chan = s.chan := rfl
@[simp] theorem State.snapshot_bus (s : State) (n : Nat) : (s.snapshot n).bus = s.bus := rfl
@[simp] theorem State.snapshot_eng (s : State) (n : Nat) : (s.snapshot n).eng = s.eng := rfl
@[simp] theorem State.snapshot_soft (s : State) (n : Nat) : (s.snapshot n).soft = s.soft := rfl
@[simp] theorem State.snapshot_dosing (s : State) (n : Nat) : (s.snapshot n).dosing = s.dosing := rfl
@[simp] theorem State.snapshot_door (s : State) (n : Nat) : (s.snapshot n).door = s.door := rfl
@[simp] theorem State.snapshot_arb (s : State) (n : Nat) : (s.snapshot n).arb = s.arb := rfl
@[simp] theorem State.snapshot_trip (s : State) (n : Nat) : (s.snapshot n).trip = s.trip := rfl
@[simp] theorem State.snapshot_now (s : State) (n : Nat) : (s.snapshot n).now = s.now := rfl
@[simp] theorem State.snapshot_draws (s : State) (n : Nat) : (s.snapshot n).draws = s.draws := rfl
@[simp] theorem State.snapshot_pending (s : State) (n : Nat) : (s.snapshot n).pending = s.pending := rfl
@[simp] theorem State.snapshot_due (s : State) (n : Nat) : (s.snapshot n).due = s.due := rfl

@[simp] theorem State.respond_chan (s : State) (c : Byte) (st : Status) (p : List Byte) : (s.respond c st p).chan = s.chan := rfl
@[simp] theorem State.respond_bus (s : State) (c : Byte) (st : Status) (p : List Byte) : (s.respond c st p).bus = s.bus := rfl
@[simp] theorem State.respond_eng (s : State) (c : Byte) (st : Status) (p : List Byte) : (s.respond c st p).eng = s.eng := rfl
@[simp] theorem State.respond_soft (s : State) (c : Byte) (st : Status) (p : List Byte) : (s.respond c st p).soft = s.soft := rfl
@[simp] theorem State.respond_dosing (s : State) (c : Byte) (st : Status) (p : List Byte) : (s.respond c st p).dosing = s.dosing := rfl
@[simp] theorem State.respond_door (s : State) (c : Byte) (st : Status) (p : List Byte) : (s.respond c st p).door = s.door := rfl
@[simp] theorem State.respond_arb (s : State) (c : Byte) (st : Status) (p : List Byte) : (s.respond c st p).arb = s.arb := rfl
@[simp] theorem State.respond_trip (s : State) (c : Byte) (st : Status) (p : List Byte) : (s.respond c st p).trip = s.trip := rfl
@[simp] theorem State.respond_now (s : State) (c : Byte) (st : Status) (p : List Byte) : (s.respond c st p).now = s.now := rfl
@[simp] theorem State.respond_draws (s : State) (c : Byte) (st : Status) (p : List Byte) : (s.respond c st p).draws = s.draws := rfl
@[simp] theorem State.respond_pending (s : State) (c : Byte) (st : Status) (p : List Byte) : (s.respond c st p).pending = s.pending := rfl
@[simp] theorem State.respond_due (s : State) (c : Byte) (st : Status) (p : List Byte) : (s.respond c st p).due = s.due := rfl

end Sys2Proof.Machine
end

