-- ==== Sys2Proof/Laws/Image.lean ====
section
/-! SUPPORT. What the fields of an image record read as: a number written in its place is read back, the bytes that follow
the listed ones are 0 (10 10.5). -/

namespace Sys2Proof.Machine

/-- A byte of a record is that of the bytes given to it, and 0 behind them. -/
theorem byteAt_padRecord (l : List Byte) (i : Nat) (h : i < 16) : byteAt (padRecord l) i = byteAt l i := by
  unfold byteAt padRecord
  rw [List.getElem?_take_of_lt h, List.getElem?_append]
  split
  · rfl
  · rename_i hl
    rw [List.getElem?_replicate, List.getElem?_eq_none (by omega : l.length ≤ i)]
    split <;> simp

/-- A byte behind a field is that of the bytes behind it. -/
theorem byteAt_append (a b : List Byte) (i : Nat) :
    byteAt (a ++ b) i = if i < a.length then byteAt a i else byteAt b (i - a.length) := by
  unfold byteAt
  rw [List.getElem?_append]
  split <;> rfl

@[simp] theorem byteAt_u8 (n : Nat) : byteAt (u8 n) 0 = n % 256 := by simp [byteAt, u8]

/-- A number of two bytes is read back modulo its width. -/
@[simp] theorem wordAt_u16 (n : Nat) : wordAt (u16 n) 0 = n % 65536 := by
  simp [wordAt, byteAt, u16]; omega

/-- A number of four bytes is read back modulo its width. -/
@[simp] theorem wordAt_u32 (n : Nat) : wordAt (u32 n) 0 * 65536 + wordAt (u32 n) 2 = n % 4294967296 := by
  simp [wordAt, byteAt, u32]; omega

/-- A number of three bytes is read back modulo its width. -/
@[simp] theorem byteAt_u24 (n : Nat) : byteAt (u24 n) 0 * 65536 + wordAt (u24 n) 1 = n % 16777216 := by
  simp [wordAt, byteAt, u24]; omega

end Sys2Proof.Machine
end

