-- ==== Sys2Proof/Laws/Outer.lean ====
section
/-! SUPPORT. What the end of an event (R148) can never change: `State.outer` blanks what the arbiter's evaluation, its
trips and its reports may write, and every operation that they call keeps the rest. -/

namespace Sys2Proof.Machine

/-- A column without its state and its salt-reduced flag. -/
def Column.outer (c : Column) : Column := { c with state := .offline, saltReduced := false }

/-- The state with everything blanked that the end of an event may write. -/
def State.outer (s : State) : State :=
  { s with
    eng := { s.eng with queue := [], state := .idle, head := none, susp := .empty, totals := .zero }
    soft :=
      { s.soft with
        colA := s.soft.colA.outer
        colB := s.soft.colB.outer
        move := none
        route := .unset
        holder := .none
        progress := .selecting
        waiting := false
        pulse := none
        stray := 0
        regen := none }
    dosing := { s.dosing with dose := none }
    door := { s.door with settle := none, dry := none }
    arb := { s.arb with loads := Vector.replicate 11 .idle, flood := false, reports := [], evalDue := false }
    trip := State.reset.trip
    link := { s.link with notices := [], overrun := false, attn := false }
    draws := 0 }

/-! ## Basic operations -/

@[simp] theorem State.outer_draw (s : State) : s.draw.outer = s.outer := rfl
@[simp] theorem State.outer_markEval (s : State) : s.markEval.outer = s.outer := rfl
@[simp] theorem State.outer_setLoad (s : State) (l : LoadId) (x : LoadState) : (s.setLoad l x).outer = s.outer := rfl
@[simp] theorem State.outer_setGrant (s : State) (l : LoadId) (g : Option Step) : (s.setGrant l g).outer = s.outer := rfl
@[simp] theorem State.outer_request (s : State) (l : LoadId) (a : Nat) : (s.request l a).outer = s.outer := rfl

@[simp] theorem State.outer_release (s : State) (l : LoadId) : (s.release l).outer = s.outer := by
  unfold State.release; split <;> rfl

theorem LinkUnit.post_rest (l : LinkUnit) (n : Notice) :
    { l.post n with notices := [], overrun := false, attn := false }
      = { l with notices := [], overrun := false, attn := false } := by
  unfold LinkUnit.post LinkUnit.judgeAttn
  split
  · rfl
  · split <;> rfl

theorem LinkUnit.posts_rest (ns : List Notice) (l : LinkUnit) :
    { ns.foldl LinkUnit.post l with notices := [], overrun := false, attn := false }
      = { l with notices := [], overrun := false, attn := false } := by
  induction ns generalizing l with
  | nil => rfl
  | cons n ns ih => rw [List.foldl_cons, ih, LinkUnit.post_rest]

@[simp] theorem State.outer_post (s : State) (k : NoticeKind) (l n : Nat) (v : Int) : (s.post k l n v).outer = s.outer := by
  simp [State.post, State.outer, LinkUnit.post_rest]

@[simp] theorem State.outer_postAll (s : State) (ns : List Notice) : (s.postAll ns).outer = s.outer := by
  simp [State.postAll, State.outer, LinkUnit.posts_rest]

@[simp] theorem State.outer_withHead (s : State) (f : StageRecord → StageRecord) : (s.withHead f).outer = s.outer := rfl
@[simp] theorem State.outer_withDry (s : State) (f : DryRecord → DryRecord) : (s.withDry f).outer = s.outer := rfl

theorem State.outer_setColumn (s : State) (c : Side) (x : Column) (h : x.outer = (s.column c).outer) :
    (s.setColumn c x).outer = s.outer := by
  cases c <;> simp_all [State.setColumn, State.column, State.outer]

/-! ## Profiles and integrity -/

@[simp] theorem State.outer_integrityError (s : State) (t : TableId) (b : Option Bank) (i : Nat) :
    (s.integrityError t b i).outer = s.outer := by
  unfold State.integrityError
  simp only
  split
  · exact State.outer_post ..
  · split <;> rfl

@[simp] theorem State.outer_setFaulted (s : State) (p : ProfileId) (b : Bool) : (s.setFaulted p b).outer = s.outer := by
  cases p <;> rfl

@[simp] theorem State.outer_lowerQueued (s : State) : s.lowerQueuedSetpoints.outer = s.outer := rfl

@[simp] theorem State.outer_useMachine (s : State) : (s.useProfile .machine).outer = s.outer := by
  unfold State.useProfile
  split
  · rfl
  · simp [State.profileChanged]

/-! ## The softener, the dosing unit and the door unit as a trip or a report moves them -/

@[simp] theorem State.outer_startPulse (s : State) (r : Route) : (s.startPulse r).outer = s.outer := rfl

@[simp] theorem State.outer_becomeSet (s : State) : s.becomeSet.outer = s.outer := by
  unfold State.becomeSet
  simp only
  split
  · rfl
  · rfl
  · split
    · rfl
    · split
      · split <;> rfl
      · rfl
      · rfl

@[simp] theorem State.outer_routeHolder (s : State) : s.routeHolder.outer = s.outer := by
  unfold State.routeHolder
  split
  · exact State.outer_becomeSet s
  · rfl

@[simp] theorem State.outer_regenGiveBack (s : State) : s.regenGiveBack.outer = s.outer := by
  unfold State.regenGiveBack
  simp only
  split
  · have h : ∀ t : State, t.outer = s.outer →
        (State.markEval { ((t.release .inletValve).release .brineValve) with
          soft.holder := .none, soft.progress := .selecting }).outer = s.outer := by
      intro t ht
      trans ((t.release .inletValve).release .brineValve).outer
      · rfl
      · simpa using ht
    exact h _ rfl
  · rfl

@[simp] theorem State.outer_abortRegen (s : State) : s.abortRegen.outer = s.outer := by
  unfold State.abortRegen
  split
  · rfl
  · rename_i r _
    rw [State.outer_setColumn _ _ _ (by rfl)]
    exact State.outer_regenGiveBack s

/-- The path served without a flip: the holder is a regeneration. -/
theorem State.outer_servePath (s : State) (h : s.soft.holder = .regen) : s.servePath.outer = s.outer := by
  unfold State.servePath
  split
  · rfl
  · split
    · rfl
    · rfl
    · simp_all
    · exact State.outer_routeHolder s

@[simp] theorem State.outer_fillGiveBack (s : State) : s.fillGiveBack.outer = s.outer := by
  unfold State.fillGiveBack
  split
  · simp only
    split
    · rw [State.outer_servePath _ rfl]
      trans (s.release .inletValve).outer
      · rfl
      · exact State.outer_release ..
    · trans (s.release .inletValve).outer
      · rfl
      · exact State.outer_release ..
  · rfl

@[simp] theorem State.outer_releaseEngine (s : State) : s.releaseEngine.outer = s.outer := by
  simp [State.releaseEngine]

@[simp] theorem State.outer_dropDry (s : State) : s.dropDry.outer = s.outer := by
  trans ((s.release .fan).release .doorActuator).outer
  · rfl
  · simp

@[simp] theorem State.outer_endCycle (s : State) : s.endCycle.outer = s.outer := rfl

@[simp] theorem State.outer_engineTrip (s : State) : s.engineTrip.outer = s.outer := by
  unfold State.engineTrip
  trans ((if s.underWay then ((s.fillGiveBack).releaseEngine).dropDry else s)).outer
  · rfl
  · split <;> simp

@[simp] theorem State.outer_dropDose (s : State) : s.dropDose.outer = s.outer := by
  unfold State.dropDose
  split
  · rfl
  · rename_i d _
    trans (State.release { s with dosing.dose := none } (pumpOf d.reservoir)).outer
    · rfl
    · rw [State.outer_release]; rfl

/-! ## Trips -/

@[simp] theorem State.outer_tripBlocks (s : State) : s.tripBlocks.outer = s.outer := by
  unfold State.tripBlocks
  split
  · split <;> simp
  · simp

@[simp] theorem State.outer_postTripNotices (s : State) (ns : List Notice) : (s.postTripNotices ns).outer = s.outer := by
  unfold State.postTripNotices; split <;> simp

@[simp] theorem State.outer_setLatch (s : State) (c : Cause) : (s.setLatch c).outer = s.outer := by
  unfold State.setLatch
  simp only [State.outer_markEval, State.outer_postTripNotices]
  split
  · have h : ∀ t : State, ({ t with arb.flood := true } : State).outer = t.outer := fun _ => rfl
    rw [h, State.outer_tripBlocks]; rfl
  · rw [State.outer_tripBlocks]; rfl

@[simp] theorem State.outer_tripCause (s : State) (c : Cause) : (s.tripCause c).outer = s.outer := by
  have hq : (s.restartQuiet c).outer = s.outer := by unfold State.restartQuiet; split <;> rfl
  unfold State.tripCause
  simp only
  split
  · exact hq
  · split
    · split
      · exact hq
      · exact hq
    · rw [State.outer_setLatch, hq]

@[simp] theorem State.outer_judgeRoleNow (s : State) (r : Role) : (s.judgeRoleNow r).outer = s.outer := by
  unfold State.judgeRoleNow; split <;> simp

@[simp] theorem State.outer_judgeSensorsNow (s : State) : s.judgeSensorsNow.outer = s.outer := by
  simp [State.judgeSensorsNow]

/-! ## The arbiter -/

theorem State.outer_fold {α : Type} (f : State → α → State) (h : ∀ s a, (f s a).outer = s.outer) (l : List α) (s : State) :
    (l.foldl f s).outer = s.outer := by
  induction l generalizing s with
  | nil => rfl
  | cons a l ih => rw [List.foldl_cons, ih, h]

@[simp] theorem State.outer_withdraw (s : State) (l : LoadId) : (s.withdraw l).outer = s.outer := by
  unfold State.withdraw; split <;> rfl

@[simp] theorem State.outer_passOne (s : State) : s.passOne.outer = s.outer := by
  have h : ∀ s l, (State.recheck s l).outer = s.outer := by
    intro s l; unfold State.recheck; split <;> simp
  rw [State.passOne, h, State.outer_fold _ h]

@[simp] theorem State.outer_budgetCut (n : Nat) (s : State) : (State.budgetCut n s).outer = s.outer := by
  induction n generalizing s with
  | zero => rfl
  | succ n ih =>
    unfold State.budgetCut
    split
    · split
      · rfl
      · rw [ih, State.outer_withdraw]
    · rfl

@[simp] theorem State.outer_shed (cand : LoadId) (need n : Nat) (s : State) : (State.shed cand need n s).outer = s.outer := by
  induction n generalizing s with
  | zero => rfl
  | succ n ih =>
    unfold State.shed
    split
    · rfl
    · split
      · rfl
      · rw [ih]; simp

theorem State.outer_preempt (s t : State) (cand : LoadId) (need : Nat) (h : s.preempt cand need = some t) :
    t.outer = s.outer := by
  unfold State.preempt at h
  simp only at h
  split at h
  · split at h
    · cases h; simp
    · cases h
  · cases h

@[simp] theorem State.outer_place (s : State) (l : LoadId) : (s.place l).outer = s.outer := by
  unfold State.place
  simp only
  split
  · rfl
  · split
    · rfl
    · split
      · rename_i h
        exact (State.outer_setGrant ..).trans (State.outer_preempt s _ _ _ h)
      · rename_i h
        split at h
        · exact (State.outer_setGrant ..).trans (State.outer_preempt s _ _ _ h)
        · cases h
      · rfl

@[simp] theorem State.outer_turn (s : State) (l : LoadId) : (s.turn l).outer = s.outer := by
  unfold State.turn; split <;> simp

@[simp] theorem State.outer_walk (d : Bool) (ls : List LoadId) (s : State) : (State.walk d ls s).outer = s.outer := by
  induction ls generalizing d s with
  | nil => rfl
  | cons l ls ih =>
    unfold State.walk
    split
    · split <;> simp [ih]
    · simp only [ih]; split <;> simp
    · simp [ih]

@[simp] theorem State.outer_passes (s : State) : s.passes.outer = s.outer := by
  have hc : s.checkHeater.checkEntries.outer = s.outer := by
    unfold State.checkEntries
    rw [State.outer_fold]
    · unfold State.checkHeater; split <;> simp
    · intro s l; split <;> simp
  have hu : ∀ s : State, s.upgrade.outer = s.outer := by
    intro s; unfold State.upgrade; simp only; split <;> rfl
  have hs : ∀ s : State, s.setCauses.outer = s.outer := by
    intro s; unfold State.setCauses; rw [State.outer_fold]; intros; rfl
  have hg : ∀ s : State, s.grantPass.outer = s.outer := by
    intro s; unfold State.grantPass; simp only [State.outer_walk]; split <;> simp
  have he : ∀ s : State, ({ s with arb.evalDue := false } : State).outer = s.outer := fun _ => rfl
  rw [State.passes, he, hs, hu, hg, State.outer_budgetCut, State.outer_passOne, hc]

@[simp] theorem State.outer_dropReleased (s : State) : s.dropReleased.outer = s.outer := by
  unfold State.dropReleased
  rw [State.outer_fold]
  intro t l; split <;> rfl

/-! ## The end of an event -/

@[simp] theorem State.outer_tableTrip (s : State) (l : LoadId) : (s.tableTrip l).outer = s.outer := by
  unfold State.tableTrip; split <;> simp

@[simp] theorem State.outer_firstGrant (s b : State) : (s.firstGrant b).outer = s.outer := by
  unfold State.firstGrant; split <;> simp

@[simp] theorem State.outer_softenerReport (s : State) (l : LoadId) : (s.softenerReport l).outer = s.outer := by
  unfold State.softenerReport
  split
  · split <;> rfl
  · split
    · split
      · split <;> simp
      · rfl
    · rfl
  · split
    · rfl
    · split
      · rfl
      · simp only; split <;> rfl
  · rfl

@[simp] theorem State.outer_engineInlet (s : State) : s.engineInlet.outer = s.outer := by
  unfold State.engineInlet; split <;> rfl

@[simp] theorem State.outer_startStroke (s : State) (d : Dose) : (s.startStroke d).outer = s.outer := by
  unfold State.startStroke
  split
  · unfold State.doseEmpty
    have h : ∀ t : State, ({ t with dosing.dose := none } : State).outer = t.outer := fun _ => rfl
    rw [h]; simp
  · rfl

@[simp] theorem State.outer_dosingReport (s : State) (r : Reservoir) : (s.dosingReport r).outer = s.outer := by
  unfold State.dosingReport
  split
  · rfl
  · split
    · split
      · exact State.outer_startStroke ..
      · rfl
    · rfl

@[simp] theorem State.outer_actuatorReport (s : State) : s.actuatorReport.outer = s.outer := by
  unfold State.actuatorReport
  split
  · split
    · split <;> rfl
    · split <;> rfl
  · rfl

@[simp] theorem State.outer_ownerReport (s : State) (l : LoadId) : (s.ownerReport l).outer = s.outer := by
  cases l <;> simp [State.ownerReport]

@[simp] theorem State.outer_round (s : State) : s.round.outer = s.outer := by
  unfold State.round
  simp only
  rw [State.outer_fold _ (fun s l => State.outer_ownerReport s l)]
  simp

@[simp] theorem State.outer_settleFor (n : Nat) (s : State) : (State.settleFor n s).outer = s.outer := by
  induction n generalizing s with
  | zero =>
    unfold State.settleFor
    split
    · have h : ∀ (t : State) (r : List LoadId), ({ t with arb.reports := r } : State).outer = t.outer := fun _ _ => rfl
      rw [State.lastRound, h]; simp
    · rfl
  | succ n ih =>
    unfold State.settleFor
    split
    · simp [ih]
    · rfl

/-- The end of an event keeps everything outside `State.outer`'s blanks. -/
@[simp] theorem State.outer_settle (s : State) : s.settle.outer = s.outer := State.outer_settleFor 8 s

theorem State.of_outer {α : Type} (f : State → α) {s t : State} (h : s.outer = t.outer) : f s.outer = f t.outer := congrArg f h

theorem State.settle_of_settled (s : State) (h : s.settled) : s.settle = s := by
  simp only [State.settled] at h
  simp [State.settle, State.settleFor, h]

@[simp] theorem State.settle_chan (s : State) : s.settle.chan = s.chan := State.of_outer (fun t => t.chan) (State.outer_settle s)
@[simp] theorem State.settle_bus (s : State) : s.settle.bus = s.bus := State.of_outer (fun t => t.bus) (State.outer_settle s)
@[simp] theorem State.settle_now (s : State) : s.settle.now = s.now := State.of_outer (fun t => t.now) (State.outer_settle s)
@[simp] theorem State.settle_pending (s : State) : s.settle.pending = s.pending :=
  State.of_outer (fun t => t.pending) (State.outer_settle s)
@[simp] theorem State.settle_due (s : State) : s.settle.due = s.due := State.of_outer (fun t => t.due) (State.outer_settle s)
@[simp] theorem State.settle_mode (s : State) : s.settle.link.mode = s.link.mode :=
  State.of_outer (fun t => t.link.mode) (State.outer_settle s)
@[simp] theorem State.settle_image (s : State) : s.settle.link.image = s.link.image :=
  State.of_outer (fun t => t.link.image) (State.outer_settle s)
@[simp] theorem State.settle_timeTag (s : State) : s.settle.link.timeTag = s.link.timeTag :=
  State.of_outer (fun t => t.link.timeTag) (State.outer_settle s)
@[simp] theorem State.settle_threshold (s : State) : s.settle.link.threshold = s.link.threshold :=
  State.of_outer (fun t => t.link.threshold) (State.outer_settle s)
@[simp] theorem State.settle_staging (s : State) : s.settle.link.staging = s.link.staging :=
  State.of_outer (fun t => t.link.staging) (State.outer_settle s)
@[simp] theorem State.settle_budget (s : State) : s.settle.arb.budget = s.arb.budget :=
  State.of_outer (fun t => t.arb.budget) (State.outer_settle s)
@[simp] theorem State.settle_active (s : State) : s.settle.arb.active = s.arb.active :=
  State.of_outer (fun t => t.arb.active) (State.outer_settle s)
@[simp] theorem State.settle_shadow (s : State) : s.settle.arb.shadow = s.arb.shadow :=
  State.of_outer (fun t => t.arb.shadow) (State.outer_settle s)
@[simp] theorem State.settle_zc (s : State) : s.settle.arb.zc = s.arb.zc :=
  State.of_outer (fun t => t.arb.zc) (State.outer_settle s)
@[simp] theorem State.settle_hold (s : State) : s.settle.soft.hold = s.soft.hold :=
  State.of_outer (fun t => t.soft.hold) (State.outer_settle s)

end Sys2Proof.Machine
end

