-- ==== Sys2Proof/Laws/Link.lean ====
section
/-! SUPPORT. How a request is taken and answered (R191, R192): one lemma for each form of verdict, so that no proof on a
request unfolds the link port. -/

namespace Sys2Proof.Machine

/-- A request that is heard is judged and answered. -/
theorem State.handle_heard (s : State) (code : Byte) (p : List Byte) (judge : State → Verdict) (h : s.link.rxOff = false)
    (hp : p.length ≤ 59) : s.handle code p judge = (judge s).answer code := by
  simp [State.handle, State.request?, h, maxPayload, hp]

/-- A request that is not heard is lost. -/
theorem State.handle_lost (s : State) (code : Byte) (p : List Byte) (judge : State → Verdict)
    (h : s.link.rxOff = true ∨ 59 < p.length) : s.handle code p judge = s := by
  rcases h with h | h
  · simp [State.handle, State.request?, h]
  · have : ¬ p.length ≤ 59 := by omega
    simp [State.handle, State.request?, maxPayload, this]

/-- An answer is the response joined to the end of the event. -/
theorem Verdict.answer_eq (v : Verdict) (code : Byte) :
    v.answer code = v.state.settle.respond code v.status (v.payload v.state.settle) := rfl

theorem answer_refuse (s : State) (h : s.settled) (st : Status) (code : Byte) :
    (refuse s st).answer code = s.respond code st [] := by
  rw [Verdict.answer_eq]; simp only [refuse]; rw [State.settle_of_settled s h]

theorem answer_refuseWith (s : State) (h : s.settled) (st : Status) (p : List Byte) (code : Byte) :
    (refuseWith s st p).answer code = s.respond code st p := by
  rw [Verdict.answer_eq]; simp only [refuseWith]; rw [State.settle_of_settled s h]

theorem answer_accept (u : State) (f : State → List Byte) (code : Byte) :
    (accept u f).answer code = u.settle.respond code .ok (f u.settle) := rfl

theorem answer_acceptWith (u : State) (p : List Byte) (code : Byte) :
    (acceptWith u p).answer code = u.settle.respond code .ok p := rfl

theorem answer_acceptBare (u : State) (code : Byte) : (acceptBare u).answer code = u.settle.respond code .ok [] := rfl

/-- An accepted request whose own effect calls for no evaluation. -/
theorem answer_acceptWith_settled (u : State) (h : u.settled) (p : List Byte) (code : Byte) :
    (acceptWith u p).answer code = u.respond code .ok p := by
  rw [answer_acceptWith, State.settle_of_settled u h]

/-- The response changes the link port only. -/
theorem State.respond_outer (s : State) (code : Byte) (st : Status) (p : List Byte) :
    { s.respond code st p with link := s.link } = s := rfl

end Sys2Proof.Machine
end

