-- ==== Sys2Proof/Laws/Ops.lean ====
section
/-! SUPPORT. What the accessors of loads, columns, reservoirs and table places read after each update, and what a use of
a profile in effect does: one lemma per operation, for later proofs to cite. -/

namespace Sys2Proof.Machine

/-! ## Places of a table -/

theorem upd_same {α : Type} {n : Nat} (v : Vector α n) (i : Fin n) (x : α) : (upd v i x)[i] = x := by simp [upd]

theorem upd_other {α : Type} {n : Nat} (v : Vector α n) (i j : Fin n) (x : α) (h : j ≠ i) : (upd v i x)[j] = v[j] := by
  have : i.val ≠ j.val := fun e => h (Fin.ext e.symm)
  simp [upd, Vector.getElem_set_ne, this]

theorem State.withRun_run (s : State) (i j : Fin 32) (f : ChannelRun → ChannelRun) :
    (s.withRun i f).chan.run[j] = if j = i then f s.chan.run[i] else s.chan.run[j] := by
  by_cases h : j = i
  · subst h; simp [State.withRun, upd]
  · simp [State.withRun, h, upd_other _ _ _ _ h]

theorem State.withPoll_run (s : State) (i j : Fin 16) (f : PollRun → PollRun) :
    (s.withPoll i f).bus.run[j] = if j = i then f s.bus.run[i] else s.bus.run[j] := by
  by_cases h : j = i
  · subst h; simp [State.withPoll, upd]
  · simp [State.withPoll, h, upd_other _ _ _ _ h]

/-! ## Loads -/

theorem loadIndex_injective {k l : LoadId} (h : loadIndex k = loadIndex l) : k = l := by
  revert h; cases k <;> cases l <;> decide

theorem State.setLoad_load (s : State) (l k : LoadId) (x : LoadState) :
    (s.setLoad l x).load k = if k = l then x else s.load k := by
  unfold State.load State.setLoad
  by_cases h : k = l
  · subst h; simp [upd]
  · rw [if_neg h]
    exact upd_other _ _ _ _ (fun e => h (loadIndex_injective e))

/-- A request is the owner's, with its argument; every other load, and the grant, stay. -/
theorem State.request_load (s : State) (l k : LoadId) (a : Nat) :
    (s.request l a).load k = if k = l then { s.load l with own := some a } else s.load k :=
  State.setLoad_load s l k _

theorem State.request_own (s : State) (l k : LoadId) (a : Nat) :
    ((s.request l a).load k).own = if k = l then some a else (s.load k).own := by
  rw [State.request_load]; split <;> simp_all

/-- A release ends the owner's request and nothing else of any load. -/
theorem State.release_load (s : State) (l k : LoadId) :
    (s.release l).load k = if k = l then { s.load l with own := none } else s.load k := by
  unfold State.release
  split
  · exact State.setLoad_load s l k _
  · rename_i h
    have hn : (s.load l).own = none := by simpa using h
    split
    · subst k; rw [← hn]
    · rfl

theorem State.release_own (s : State) (l k : LoadId) :
    ((s.release l).load k).own = if k = l then none else (s.load k).own := by
  rw [State.release_load]; split <;> simp_all

theorem State.release_grant (s : State) (l k : LoadId) : ((s.release l).load k).grant = (s.load k).grant := by
  rw [State.release_load]; split <;> simp_all

theorem State.setGrant_load (s : State) (l k : LoadId) (g : Option Step) :
    (s.setGrant l g).load k = if k = l then { s.load l with grant := g } else s.load k :=
  State.setLoad_load s l k _

/-- A withdrawal ends the grant of the load, and that of HEATER with CIRC_PUMP. -/
theorem State.withdraw_grant (s : State) (l k : LoadId) :
    ((s.withdraw l).load k).grant = if k = l ∨ (l = .circPump ∧ k = .heater) then none else (s.load k).grant := by
  unfold State.withdraw
  split
  · subst l
    rw [State.setGrant_load, State.setGrant_load, State.setGrant_load]
    by_cases h1 : k = .heater
    · simp [h1]
    · by_cases h2 : k = .circPump
      · simp [h2]
      · simp [h1, h2]
  · rename_i h
    rw [State.setGrant_load]
    by_cases h1 : k = l
    · simp [h1]
    · simp [h1, h]

/-! ## Columns, reservoirs, profiles -/

theorem State.setColumn_column (s : State) (c d : Side) (x : Column) :
    (s.setColumn c x).column d = if d = c then x else s.column d := by cases c <;> cases d <;> rfl

theorem State.setReservoir_reservoir (s : State) (r q : Reservoir) (x : ReservoirState) :
    (s.setReservoir r x).reservoir q = if q = r then x else s.reservoir q := by cases r <;> cases q <;> rfl

theorem State.setColumn_load (s : State) (c : Side) (x : Column) (k : LoadId) : (s.setColumn c x).load k = s.load k := by
  cases c <;> rfl

/-- RUNNING in a stage says what the engine and its head are. -/
theorem State.runningIn_iff (s : State) (st : Stage) :
    s.runningIn st = true ↔ s.eng.state = .running ∧ s.eng.head.map StageRecord.stage = some st := by
  simp [State.runningIn]

end Sys2Proof.Machine
end

