-- ==== Sys2Proof/Laws/Path.lean ====
section
/-! SUPPORT. What the operations on the water path and the suspension of the engine do and leave alone: the path given
back by a fill (R94, R95) and the engine leaving RUNNING (R180). -/

namespace Sys2Proof.Machine

theorem State.withDry_load (s : State) (f : DryRecord → DryRecord) (k : LoadId) : (s.withDry f).load k = s.load k := rfl

/-- The units of the state that the operations on the water path leave alone. -/
def State.besidePath (s t : State) : Prop :=
  t.eng = s.eng ∧ t.link = s.link ∧ t.chan = s.chan ∧ t.bus = s.bus ∧ t.door = s.door ∧ t.dosing = s.dosing ∧ t.trip = s.trip

/-- The loads that the softener unit owns on the path. -/
def ofPath (k : LoadId) : Prop := k = .inletValve ∨ k = .routeValve ∨ k = .brineValve

theorem State.becomeSet_besidePath (s : State) : s.besidePath s.becomeSet := by
  unfold State.besidePath State.becomeSet; simp only
  split
  · simp
  · simp
  · split
    · simp
    · split
      · split <;> simp
      · simp
      · simp

theorem State.becomeSet_holder (s : State) : s.becomeSet.soft.holder = s.soft.holder := by
  unfold State.becomeSet; simp only
  split
  · rfl
  · rfl
  · split
    · rfl
    · split
      · split <;> rfl
      · rfl
      · rfl

theorem State.becomeSet_own (s : State) (k : LoadId) (h : ¬ ofPath k) :
    (s.becomeSet.load k).own = (s.load k).own := by
  unfold ofPath at h; push Not at h
  unfold State.becomeSet; simp only
  split
  · rfl
  · rw [State.request_own, if_neg h.1]; rfl
  · split
    · rfl
    · split
      · split
        · rw [State.request_own, if_neg h.1, State.request_own, if_neg h.2.2]; rfl
        · rw [State.request_own, if_neg h.2.2]; rfl
      · rw [State.request_own, if_neg h.1]; rfl
      · rfl

theorem State.routeHolder_besidePath (s : State) : s.besidePath s.routeHolder := by
  unfold State.routeHolder; split
  · exact s.becomeSet_besidePath
  · simp [State.besidePath, State.startPulse]

theorem State.routeHolder_holder (s : State) : s.routeHolder.soft.holder = s.soft.holder := by
  unfold State.routeHolder; split
  · exact s.becomeSet_holder
  · rfl

theorem State.routeHolder_own (s : State) (k : LoadId) (h : ¬ ofPath k) :
    (s.routeHolder.load k).own = (s.load k).own := by
  unfold State.routeHolder; split
  · exact s.becomeSet_own k h
  · unfold ofPath at h; push Not at h
    unfold State.startPulse; rw [State.request_own, if_neg h.2.1]; rfl

/-- The path served for a regeneration keeps it the holder and touches no other unit. -/
theorem State.servePath_regen (s : State) (h : s.soft.holder = .regen) :
    s.besidePath s.servePath ∧ s.servePath.soft.holder = .regen ∧
      ∀ k, ¬ ofPath k → (s.servePath.load k).own = (s.load k).own := by
  unfold State.servePath; split
  · exact ⟨by simp [State.besidePath], h, fun _ _ => rfl⟩
  · split
    · simp_all
    · exact ⟨by simp [State.besidePath], h, fun _ _ => rfl⟩
    · simp_all
    · exact ⟨s.routeHolder_besidePath, by rw [s.routeHolder_holder, h], fun k hk => s.routeHolder_own k hk⟩

/-- After a fill has given the path back it holds it no more; a waiting regeneration may. No other unit is touched, and
no load but those of the path. -/
theorem State.fillGiveBack_spec (s : State) :
    s.besidePath s.fillGiveBack ∧ s.fillGiveBack.soft.holder ≠ .fill ∧
      ∀ k, ¬ ofPath k → (s.fillGiveBack.load k).own = (s.load k).own := by
  have base : ∀ k, ¬ ofPath k → ((s.release .inletValve).load k).own = (s.load k).own := by
    intro k hk; unfold ofPath at hk; push Not at hk
    rw [State.release_own, if_neg hk.1]
  unfold State.fillGiveBack; split
  · simp only; split
    · obtain ⟨a, b, c⟩ := State.servePath_regen
        { State.markEval { s.release .inletValve with soft.holder := .none, soft.progress := .selecting } with
          soft.waiting := false, soft.holder := .regen, soft.progress := .routing } rfl
      refine ⟨?_, by rw [b]; simp, fun k hk => (c k hk).trans (base k hk)⟩
      obtain ⟨a1, a2, a3, a4, a5, a6, a7⟩ := a
      exact ⟨by rw [a1]; simp, by rw [a2]; simp, by rw [a3]; simp, by rw [a4]; simp, by rw [a5]; simp, by rw [a6]; simp,
        by rw [a7]; simp⟩
    · exact ⟨by simp [State.besidePath], by simp, fun k hk => base k hk⟩
  · exact ⟨by simp [State.besidePath], by assumption, fun _ _ => rfl⟩

/-- A paused dose releases its pump; nothing else changes but the loads. -/
theorem State.pauseDose_spec (s : State) :
    s.pauseDose.eng = s.eng ∧ s.pauseDose.link = s.link ∧ s.pauseDose.chan = s.chan ∧ s.pauseDose.bus = s.bus ∧
      s.pauseDose.soft = s.soft ∧
      s.pauseDose.dosing.dose = s.dosing.dose.map (fun d => { d with state := .paused, timer := 0 }) ∧
      ∀ k, (s.pauseDose.load k).own = none ∨ (s.pauseDose.load k).own = (s.load k).own := by
  unfold State.pauseDose; split
  · rename_i h; simp [h]
  · rename_i d h
    refine ⟨by simp, by simp, by simp, by simp, by simp, by simp [h], fun k => ?_⟩
    rw [State.release_own]; split
    · exact .inl rfl
    · exact .inr rfl

/-- The engine leaves RUNNING: it is SUSPENDED, a FILL gives the path back, its loads and the door unit's are released,
and a dose is paused (R122, R180). -/
theorem State.leaveRunning_spec (s : State) :
    s.leaveRunning.eng = { s.eng with state := .suspended } ∧ s.leaveRunning.link = s.link ∧
      s.leaveRunning.chan = s.chan ∧ s.leaveRunning.bus = s.bus ∧
      (s.runningIn .fill = true → s.leaveRunning.soft.holder ≠ .fill) ∧
      s.leaveRunning.dosing.dose = s.dosing.dose.map (fun d => { d with state := .paused, timer := 0 }) ∧
      ∀ l, l = .heater ∨ l = .circPump ∨ l = .drainPump ∨ l = .fan ∨ l = .doorActuator →
        (s.leaveRunning.load l).own = none := by
  obtain ⟨x, hx⟩ : ∃ x : State, x = (if s.runningIn .fill then State.fillGiveBack { s with eng.state := .suspended }
      else { s with eng.state := .suspended }) := ⟨_, rfl⟩
  have he : s.leaveRunning = ((x.releaseEngine).stopDry).pauseDose := by rw [hx]; rfl
  have h1 : x.eng = { s.eng with state := .suspended } ∧ x.link = s.link ∧ x.chan = s.chan ∧ x.bus = s.bus ∧
      x.dosing = s.dosing := by
    rw [hx]; split
    · obtain ⟨⟨a, b, c, d, -, f, -⟩, -, -⟩ := State.fillGiveBack_spec { s with eng.state := .suspended }
      exact ⟨a, b, c, d, f⟩
    · simp
  have h2 : s.runningIn .fill = true → x.soft.holder ≠ .fill := by
    intro h; rw [hx, if_pos h]; exact (State.fillGiveBack_spec _).2.1
  obtain ⟨a, b, c, d, e, f, g⟩ := State.pauseDose_spec ((x.releaseEngine).stopDry)
  rw [he]
  refine ⟨?_, ?_, ?_, ?_, ?_, ?_, ?_⟩
  · rw [a]; simp [State.stopDry, State.releaseEngine, h1.1]
  · rw [b]; simp [State.stopDry, State.releaseEngine, h1.2.1]
  · rw [c]; simp [State.stopDry, State.releaseEngine, h1.2.2.1]
  · rw [d]; simp [State.stopDry, State.releaseEngine, h1.2.2.2.1]
  · intro h; rw [e]; simpa [State.stopDry, State.releaseEngine] using h2 h
  · rw [f]; simp [State.stopDry, State.releaseEngine, h1.2.2.2.2]
  · intro l hl
    rcases g l with h | h
    · exact h
    · rw [h]; unfold State.stopDry State.releaseEngine
      rw [State.withDry_load]
      simp only [State.release_own]
      rcases hl with rfl | rfl | rfl | rfl | rfl <;> simp

end Sys2Proof.Machine
end

