-- ==== Sys2Proof/Laws/Time.lean ====
section
/-! SUPPORT. What the operations of the idle step, of a stroke, of a route pulse and of the receiver can do: one lemma for
each, for later proofs to cite. -/

namespace Sys2Proof.Machine

/-! ## Free orders and the idle step (logs 1, 3) -/

theorem freeOrder_perm {α : Type} (n k : Nat) (l : List α) (h : l.length ≤ n) : (freeOrder n k l).Perm l := by
  induction n generalizing k l with
  | zero => rfl
  | succ n ih =>
    cases l with
    | nil => rfl
    | cons x l =>
      have hi : k % (l.length + 1) < (x :: l).length := Nat.mod_lt _ (Nat.succ_pos _)
      have hl : ((x :: l).eraseIdx (k % (l.length + 1))).length ≤ n := by
        rw [List.length_eraseIdx_of_lt hi]; exact Nat.sub_le_of_le_add h
      simp only [freeOrder, List.getElem?_eq_getElem hi, Option.getD_some]
      exact ((ih _ _ hl).cons _).trans (List.getElem_cons_eraseIdx_perm hi)

/-- A free order only orders. -/
theorem freelyOrdered_perm {α : Type} (k : Nat) (l : List α) : (freelyOrdered k l).Perm l := by
  unfold freelyOrdered
  split
  · rfl
  · rfl
  · exact freeOrder_perm _ _ _ (Nat.le_refl _)

/-- What falls due is noted, in some order, and nothing else happens. -/
theorem State.fallDue_spec (s : State) (l : List Instr) :
    (s.fallDue l).due.Perm l ∧ { s.fallDue l with due := s.due, draws := s.draws } = s := by
  unfold State.fallDue
  split
  · exact ⟨List.Perm.refl _, rfl⟩
  · exact ⟨List.Perm.refl _, rfl⟩
  · exact ⟨freelyOrdered_perm _ _, rfl⟩

/-- Reports join the queue, in some order, and nothing else happens. -/
theorem State.raise_spec (s : State) (l : List Instr) :
    (s.raise l).pending.Perm (s.pending ++ l) ∧ { s.raise l with pending := s.pending, draws := s.draws } = s := by
  unfold State.raise
  split
  · exact ⟨by simp, rfl⟩
  · exact ⟨List.Perm.refl _, rfl⟩
  · exact ⟨(freelyOrdered_perm _ _).append_left _, rfl⟩

/-- With the profiles in effect the limits of the timers are used without a finding. -/
theorem State.useLimits_of_inEffect (s : State) (h : ∀ p, s.inEffect p) : s.useLimits = s := by
  have used : ∀ p, s.useProfile p = s := fun p => by
    unfold State.useProfile
    rcases h p with e | e <;> simp [e]
  unfold State.useLimits
  generalize s.limitProfiles = l
  induction l with
  | nil => rfl
  | cons p l ih => rw [List.foldl_cons, used, ih]

/-! ## Strokes and pulses -/

/-- A stroke starts, or the dose ends with DOSE_EMPTY where none is counted and the reservoir is empty (R118, R119). -/
theorem State.startStroke_cases (s : State) (d : Dose) :
    (d.done = 0 ∧ s.reservoirEmpty d.reservoir = true ∧ s.startStroke d = s.doseEmpty d.reservoir d.tag) ∨
      ((d.done ≠ 0 ∨ s.reservoirEmpty d.reservoir = false) ∧
        s.startStroke d = { s with dosing.dose := some { d with state := .stroking, timer := 0 } }) := by
  unfold State.startStroke
  by_cases h : d.done = 0 <;> by_cases e : s.reservoirEmpty d.reservoir = true <;> simp [h, e]

/-- The dosing unit takes a report of a pump: it is not its dose's, or the pump is granted and a stroke starts, or it is not
and the stroke is void (R119, R120). -/
theorem State.dosingReport_cases (s : State) (r : Reservoir) :
    (s.dosingReport r = s ∧ ∀ d, s.dosing.dose = some d → d.reservoir ≠ r ∨ d.state = .paused) ∨
      ∃ d, s.dosing.dose = some d ∧ d.reservoir = r ∧ d.state ≠ .paused ∧
        ((s.granted (pumpOf r) = true ∧ s.dosingReport r = s.startStroke d) ∨
          (s.granted (pumpOf r) = false ∧ s.dosingReport r = { s with dosing.dose := some d.void })) := by
  unfold State.dosingReport
  cases h : s.dosing.dose with
  | none => exact .inl ⟨rfl, fun _ h => nomatch h⟩
  | some d =>
    by_cases c : d.reservoir = r ∧ d.state ≠ .paused
    · refine .inr ⟨d, rfl, c.1, c.2, ?_⟩
      cases g : s.granted (pumpOf r) <;> simp [c]
    · refine .inl ⟨by simp [c], fun x hx => ?_⟩
      cases hx
      by_cases e : d.reservoir = r
      · exact .inr (Decidable.of_not_not (fun n => c ⟨e, n⟩))
      · exact .inl e

/-- An abandoned pulse leaves the route UNSET and its valve released, and touches no other load (R89). -/
theorem State.dropPulse_spec (s : State) :
    (s.soft.pulse = none → s.dropPulse = s) ∧
      (s.soft.pulse ≠ none →
        s.dropPulse.soft = { s.soft with pulse := none, route := .unset } ∧ s.dropPulse.eng = s.eng ∧
        ∀ k, (s.dropPulse.load k).own = if k = .routeValve then none else (s.load k).own) := by
  unfold State.dropPulse
  split
  · rename_i h; simp [h]
  · rename_i p h
    refine ⟨fun e => by simp [h] at e, fun _ => ⟨?_, ?_, fun k => ?_⟩⟩
    · simp [State.release]; split <;> rfl
    · simp [State.release]; split <;> rfl
    · exact State.release_own { s with soft.pulse := none, soft.route := .unset } .routeValve k

/-! ## The receivers (R25, R191) -/

/-- The link's receiver takes a byte: the frame it has heard, its timer and the queue are all that can change, and of the
queue only a LINK_BYTE_TIMEOUT can go. -/
theorem State.hear_spec (s : State) (b : Byte) :
    s.hear b = s ∨ ∃ heard kept more,
      s.hear b = { s with link.heard := heard, link.byteTimer := 0, pending := kept ++ more } ∧
      (kept = s.pending ∨ kept = s.pending.filter (fun c => decide (c ≠ .linkByteTimeout s.link.heard))) := by
  unfold State.hear
  split
  · exact .inl rfl
  · unfold State.dropLate
    split
    · exact .inr ⟨_, _, _, rfl, .inl rfl⟩
    · exact .inr ⟨_, _, _, rfl, .inr rfl⟩

/-- The sump bus's receiver takes a byte: the frame it has heard, its timer and the queue are all that can change, and of
the queue only a SUMP_BYTE_GAP can go. -/
theorem State.hearSump_spec (s : State) (b : Byte) :
    s.hearSump b = s ∨ ∃ heard kept more,
      s.hearSump b = { s with bus.heard := heard, bus.byteTimer := 0, pending := kept ++ more } ∧
      (kept = s.pending ∨ kept = s.pending.filter (fun c => decide (c ≠ .sumpByteGap s.bus.heard))) := by
  unfold State.hearSump
  split
  · unfold State.dropSumpLate
    split
    · exact .inr ⟨_, _, _, rfl, .inl rfl⟩
    · exact .inr ⟨_, _, _, rfl, .inr rfl⟩
  · exact .inl rfl

/-- A receiver that hunts drops every byte but the first of a frame. -/
theorem assemble_hunting (first b : Byte) (ends : List Byte → Bool) (h : b ≠ first) :
    assemble first ends [] b = ([], none) := by
  simp [assemble, h]

/-- A byte within a frame joins it, and ends it where the frame is then whole. -/
theorem assemble_heard (first b : Byte) (ends : List Byte → Bool) (heard : List Byte) (h : heard ≠ []) :
    assemble first ends heard b = if ends (heard ++ [b]) then ([], some (heard ++ [b])) else (heard ++ [b], none) := by
  simp [assemble, h]

/-- Where no dose is in flight there is none to abandon (R123). -/
theorem State.abandonDose_none (s : State) (h : s.dosing.dose = none) : s.abandonDose = s := by
  simp [State.abandonDose, State.shortNotice, State.dropDose, State.postAll, h]

/-- RESUME is the return of the engine and the end of the softener's hold, in one order or the other (R179, R90). -/
theorem State.resume_cases (s : State) :
    s.resume = s.resumeEngine.resumeSoftener ∨
      (s.resumeOrderOpen = true ∧
        (s.resume = s.draw.resumeEngine.resumeSoftener ∨ s.resume = s.draw.resumeSoftener.resumeEngine)) := by
  unfold State.resume
  split
  · rename_i h
    split
    · exact .inr ⟨h, .inr rfl⟩
    · exact .inr ⟨h, .inl rfl⟩
  · exact .inl rfl

/-! ## Trips, the sump bus and the evaluations of an event -/

/-- The notices of a trip join the queue in some order, and nothing else changes but the counter of draws (R170; log 8). -/
theorem State.postTripNotices_cases (s : State) (ns : List Notice) :
    ∃ ms : List Notice, ms.Perm ns ∧ (s.postTripNotices ns).link = ms.foldl LinkUnit.post s.link ∧
      { s.postTripNotices ns with link := s.link, draws := s.draws } = s := by
  unfold State.postTripNotices
  split
  · exact ⟨ns, List.Perm.refl _, rfl, rfl⟩
  · exact ⟨_, freelyOrdered_perm _ _, rfl, rfl⟩

/-- A bus in use, polling stopped, or nobody due leaves the bus as it is; else the lowest index of the due set is taken
(R31). -/
theorem State.takeIfFree_cases (s : State) :
    ((s.polling = false ∨ s.bus.tx ≠ none ∨ ∀ i : Fin 16, s.bus.run[i].inDueSet = false) ∧ s.takeIfFree = s) ∨
      ∃ i : Fin 16, s.polling = true ∧ s.bus.tx = none ∧ s.bus.run[i].inDueSet = true ∧
        (∀ j : Fin 16, j < i → s.bus.run[j].inDueSet = false) ∧ s.takeIfFree = s.take i := by
  unfold State.takeIfFree
  split
  · rename_i h
    simp only [Bool.and_eq_true, Option.isNone_iff_eq_none] at h
    split
    · rename_i i hi
      rw [List.find?_eq_some_iff_getElem] at hi
      obtain ⟨hd, k, hk, rfl, hl⟩ := hi
      refine .inr ⟨_, h.1, h.2, hd, fun j hj => ?_, rfl⟩
      have := hl j.val (by simpa [Fin.lt_def] using hj)
      simpa using this
    · rename_i hn
      rw [List.find?_eq_none] at hn
      exact .inl ⟨.inr (.inr fun i => by simpa using hn i (List.mem_finRange i)), rfl⟩
  · rename_i h
    simp only [Bool.and_eq_true, Option.isNone_iff_eq_none, not_and_or] at h
    exact .inl ⟨h.elim (fun a => .inl (by simpa using a)) (fun b => .inr (.inl b)), rfl⟩

/-- The evaluations of an event end at once where none is due, and go on after one round where one is (R148). -/
theorem State.settleFor_succ (n : Nat) (s : State) :
    State.settleFor (n + 1) s = if s.arb.evalDue then State.settleFor n s.round else s := rfl

end Sys2Proof.Machine
end

