-- ==== Sys2Proof/Tests/Slice0.lean ====
section
/-! SUPPORT. Named tests. First the worked cases of the spec, one step or one operation each; then the smoke test of
`WellFormed`; then, for each statement of Obligations.lean that has hypotheses, a witness: concrete states and operands
that meet them, clause by clause. -/

open Sys2Proof Sys2Proof.Machine

set_option maxRecDepth 16000

namespace Sys2Proof.Tests

/-! ## Small states -/

/-- The state after a command. -/
def after (c : Instr) (s : State) : Option State :=
  match exec c s with
  | .next t => some t
  | _ => none

/-- The payload of the response after a command, status first. -/
def answer (c : Instr) (s : State) : Option (List Byte) :=
  (after c s).bind (fun t => t.link.response.map (fun r => (r.drop 3).take (r.length - 5)))

def wash1 : WashFields where
  fillTarget := 90
  fillCap := 4500
  setpoint := 550
  speed := 80
  heatTimeout := 1800
  holdTime := 1200
  minHold := 300
  dose := none
  dBase := 200
  dosePoint := .atSetpoint
  exitTest := none
  extraTest := none
  endLevel := 10
  minTime := 30

def extra1 : ExtraTest := { test := { subject := .flag 0, cond := .always, threshold := 0 }, maxRepeats := 1 }
def drain1 : DrainFields := { endLevel := 10, minTime := 30 }
def dry1 : DryFields := { condenseMax := 900, openTemp := 450, ventTime := 1200, fan := true }
def record (tag : Nat) (body : PhaseBody) : PhaseRecord := { tag := tag, setMask := 1, clearMask := 2, body := body }

/-- The reset state in a mode. -/
def inMode (m : Mode) : State := { State.reset with link.mode := m }

/-- A cycle under way in RUN mode. -/
def cycle (body : PhaseBody) (stage : Stage) : State :=
  { inMode .run with
    eng.queue := [record 11 body]
    eng.state := .running
    eng.head := some (StageRecord.start stage 0 false) }

/-- A DRY cycle with its DRY record. -/
def drying (stage : Stage) (d : DryRecord) : State := { cycle (.dry dry1) stage with door.dry := some d }

def suspended (s : State) (x : SuspSet) : State := { s with eng.state := .suspended, eng.susp := x }
def latched (s : State) : State := { s with trip.latch := true }

def loadE (rated half priority : Nat) (shed : Bool) : Stored LoadEntry :=
  { contents := { enabled := true, rated := rated, half := half, priority := priority, sheddable := shed }, sound := true }

/-- The typical load table of 08 8.1 with B 2200 and mains PRESENT. -/
def powered (s : State) : State :=
  { s with
    arb.active :=
      #v[loadE 2000 1000 5 true, loadE 90 0 2 false, loadE 35 0 1 false, loadE 5 0 1 false, loadE 8 0 2 false,
        loadE 6 0 2 false, loadE 5 0 4 false, loadE 6 0 3 false, loadE 6 0 3 false, loadE 12 0 2 false, loadE 8 0 6 true]
    arb.budget := 2200
    arb.zc := { presence := .present, misses := 0, run := 0, last := some 0, lostAt := none, phase := false } }

/-- A sound channel entry of satellite 1 that binds a role. -/
def chanE (n : Nat) (role : Role) (store : StoreMode) : Stored ChannelEntry :=
  { contents :=
      { ChannelEntry.blank with
        enabled := true, satellite := 1, satChannel := n, role := role, curve := none, store := store, staleLimit := 3 }
    sound := true }

/-- Binds a role to a channel with a FRESH value. -/
def withRole (s : State) (i : Fin 32) (role : Role) (value : Int) : State :=
  { s with
    chan.active := s.chan.active.set i (chanE i.val role .none)
    chan.run :=
      s.chan.run.set i
        { ChannelRun.blank with freshness := .fresh, raw := value, converted := value, filtered := value } }

def granted (s : State) (l : LoadId) (arg : Nat) : State :=
  s.setLoad l { s.load l with own := some arg, grant := some .full }

/-- A fill that holds the path on TUB with INLET_VALVE granted. -/
def filling : State :=
  granted
    { powered (cycle (.wash wash1) .fill) with
      soft.holder := .fill, soft.progress := .set, soft.route := .tub, soft.colA.state := .service }
    .inletValve 0

/-- CIRCULATE with CIRC_PUMP and HEATER requested, the level at 91 mm. -/
def heating : State :=
  ((withRole (powered (cycle (.wash wash1) .circulate)) 1 .tubLevel 91).request .circPump 80).request .heater 0

def dose1 : Dose := { reservoir := .det, tag := 11, dose := 230, total := 52, done := 51, state := .stroking, timer := 0 }
def regen1 (stage : RegenStage) : Regen := { column := .b, stage := stage, flowing := false, volume := 350, soakTimer := 0 }

/-! ## Worked cases of the spec -/

def curve2 : List (Nat × Int) :=
  [(0, 0), (400, 100), (900, 250), (1500, 420), (2100, 600), (2800, 800), (3500, 1050), (4095, 1300)]
def curve5 : List (Nat × Int) := [(500, 900), (1500, 600), (2500, 300), (3500, 100)]
def curve4 : List (Nat × Int) := [(100, 230), (300, 256), (1000, 330), (2000, 400)]
def curve3 : List (Nat × Int) := [(0, 200), (250, 256), (500, 300), (750, 360), (1000, 420)]

/-- 01, "Worked case: two curves and a filter". -/
theorem test_curves :
    [1800, 2100, 1500, 1650, 4095, 0].map (evalPoints curve2) = [510, 600, 420, 465, 1300, 0] ∧
      [300, 1700, 1733, 2500, 3900].map (evalPoints curve5) = [900, 540, 531, 300, 100] := by decide

/-- 01, the same table: 510, 532, 504, 495 at k = 2, with −39 shifted to −9. -/
theorem test_filter :
    filterStep .noData 0 510 2 = 510 ∧ filterStep .fresh 510 600 2 = 532 ∧ filterStep .fresh 532 420 2 = 504 ∧
      filterStep .fresh 504 465 2 = 495 ∧ filterStep .stale 495 510 2 = 510 := by decide

/-- 02 R24, by hand: 1 + 1 + 2 + 0x00 + 0x0F = 0x13, and 0x13 + 0xED = 0x100. -/
theorem test_poll_frame : pollFrame 1 0x000F = [0xC3, 1, 1, 2, 0x00, 0x0F, 0xED] := by decide

/-- 11 R191, by hand: the register 0xFFFF over one byte 0x00 with 0x1021, the most significant bit first. -/
theorem test_crc : crc16 [0x00] = 0xE1F0 := by decide

/-- 05, "Worked case B": U 1032 over V_fill 4200 gives h_tub 295. -/
theorem test_tub_hardness : { State.reset with soft.vFill := 4200, soft.u := 1032 }.tubHardness = 295 := by decide

/-- 06, "Worked case: one dose": F_h 230 and F_s 328 give 23.0 mL in 52 strokes; F_h 255 gives 25.5 mL in 57. -/
theorem test_dose :
    evalPoints curve4 50 = 230 ∧ evalPoints curve4 295 = 255 ∧ evalPoints curve3 620 = 328 ∧
      computeDose .default 200 230 328 = 230 ∧ strokesFor .default 230 = 52 ∧
      computeDose .default 200 255 328 = 255 ∧ strokesFor .default 255 = 57 := by decide

/-- The state of 05, "Worked case A: one flow sample". -/
def caseA : State :=
  { withRole filling 3 .conductivity 510 with
    soft.rf := 200, soft.rl := 650, soft.tLast := some 10000, soft.vFill := 1500
    soft.colA := { state := .service, cap := 1230, due := false, saltReduced := false } }

/-- 05, "Worked case A": V_fill 1577, r_f 240, r_l 70, C 1194 and due. -/
theorem test_flow_sample :
    (let s := (caseA.flowHandoff 10037 .fresh).1
     (s.soft.vFill, s.soft.rf, s.soft.rl, s.soft.colA.cap, s.soft.colA.due, s.soft.u))
      = (1577, 240, 70, 1194, true, 0) := by decide

/-- 08, "Worked case: a budget cut": CIRC_PUMP and HEATER FULL draw 2090. -/
theorem test_grants : heating.settle.totalWatts = 2090 ∧ (heating.settle.load .heater).grant = some .full := by decide

/-- 08, the same case: BUDGET 1800 puts HEATER at HALF. -/
theorem test_budget_cut :
    (after (.budget [7, 8]) heating.settle).map (fun t => ((t.load .heater).grant, t.totalWatts))
      = some (some .half, 1090) := by decide

/-- 03, "Worked sequence", step 2: setpoint 700 and speed 120 are stored as 650 and 100. -/
theorem test_submit_clamps :
    answer
      (.phaseSubmit
        (recordBytes (record 11 (.wash { wash1 with setpoint := 700, speed := 120 }))))
      { inMode .run with eng.profile.contents.maxSetpoint := 650, eng.queue := [record 10 (.drain drain1)] }
      = some [0, 1, 2, 0x02, 0x8A, 100] := by decide

/-- 03, the same sequence, step 3: a minimum hold above the hold time is BAD_FIELD. -/
theorem test_submit_fields :
    answer (.phaseSubmit (recordBytes (record 12 (.wash { wash1 with holdTime := 600, minHold := 900 })))) (inMode .run)
      = some [3] := by decide

/-- 07, "a door opened in HOLD": the latch debounced released suspends the engine for DOOR. -/
theorem test_door_opened :
    (after (.doorSwitchDebounced .latch false) (cycle (.wash wash1) .hold)).map
        (fun t => (t.door.state, t.eng.state, t.eng.susp.door, t.link.notices.map (fun n => (n.subject, n.value))))
      = some (.closedUnlatched, .suspended, true, [(1, 0)]) := by decide

/-- 07, "drying with one failed attempt": the leaf opens in the second attempt: AJAR_AUTO, DRY_OPENED with value 2. -/
theorem test_dry_opened :
    (after (.doorSwitchDebounced .closed false)
        (granted
          (powered { drying .opening { DryRecord.new with attempt := 2, attState := .pushing } with
            door.latch := false, door.state := .closedUnlatched })
          .doorActuator 0)).map
        (fun t => (t.door.state, t.eng.head.map StageRecord.stage, (t.link.notices.map (fun n => (n.subject, n.value))).drop 1))
      = some (.ajarAuto, some .vent, [(13 - 2, 2)]) := by decide

/-- 09, "a flood, a stuck valve": a TRIP_CLEAR while LEAK is asserted is CAUSE_PRESENT with FLOOD. -/
theorem test_clear_refused :
    answer (.tripClear [])
        { withRole (withRole (latched (inMode .run)) 9 .leak 1) 1 .tubLevel 12 with
          trip.record := { TripRecord.empty with reason := .flood } }
      = some [16, 2] := by decide

/-- 10, "mains lost in HOLD": the third missed crossing drops the grants, and MAINS_LOST carries the G that stood. -/
theorem test_mains_lost :
    (after .zeroCrossMissed { heating.settle with arb.zc.misses := 2 }).map
        (fun t => (t.arb.zc.presence, t.totalWatts, t.link.notices.map (fun n => (n.kind, n.value))))
      = some (.absent, 0, [(.mainsLost, 2090)]) := by decide

def note (level : Nat) : Notice := { kind := .phaseDone, level := level, tag := 0, subject := 0, value := 0 }

/-- The queue of 11, "Worked sequence: a full queue". -/
def fullLink : LinkUnit :=
  { State.reset.link with notices := List.replicate 29 (note 6) ++ [note 5, note 5, note 3] }

/-- 11, the same sequence: a level-2 notice takes the place of the newest of level 6, a level-3 notice is dropped. -/
theorem test_full_queue :
    (fullLink.post (note 2)).notices = List.replicate 28 (note 6) ++ [note 5, note 5, note 3, note 2] ∧
      (fullLink.post (note 2)).attn = true ∧ (fullLink.post (note 2)).overrun = true ∧
      (fullLink.post (note 3)).notices = fullLink.notices := by decide

/-- A block: the table gives no bits, so no word spells a command. -/
theorem test_no_bits : decodeTableWord 32 0x00000012 = none := rfl

/-! ## WellFormed refuses an ill-formed term of each kind -/

theorem test_wellFormed :
    WellFormed (.pause []) = true ∧
    WellFormed (.pause (List.replicate 60 0)) = false ∧
    WellFormed (.tblWriteCurve [0, 1, 2]) = false ∧
    WellFormed (.linkFrameDiscarded (buildFrame 0x14 [])) = false ∧
    WellFormed (.linkByteTimeout (buildFrame 0x14 [])) = false ∧
    WellFormed (.sumpFrameEnd [0x81, 2, 1, 0]) = false ∧
    WellFormed (.sumpFrameEnd [0x81, 2, 0x42]) = true ∧
    WellFormed (.sumpByteGap [0x81, 2]) = false ∧
    WellFormed (.sumpByteGap [0xC3, 0x81, 2, 0x42]) = false ∧
    WellFormed (.sumpByteGap [0xC3, 0x81]) = true := by decide

/-! ## Witnesses: the hypotheses of each statement, clause by clause -/

theorem witness_StepRunsFrontCommand :
    { State.reset with pending := [.timeTagTick] }.pending = .timeTagTick :: [] := rfl

theorem witness_IdleStepPassesTime :
    State.reset.pending = [] ∧ State.reset.dueReports = [] ∧
      { State.reset with arb.mainsReports.backEngine := true }.pending = [] ∧
      { State.reset with arb.mainsReports.backEngine := true }.dueReports ≠ [] := by decide

/-- HEATER and CIRC_PUMP granted at 2090 W of 2200, a BUDGET of 1800 waiting. -/
def lit : State := { heating.settle with pending := [.budget [7, 8]] }

theorem witness_StepKeepsBudgetAndMains :
    lit.budgetKept ∧ lit.mainsKept ∧ lit.settled ∧ ∃ t, step lit = .next t :=
  ⟨by unfold State.budgetKept; decide, fun h => (h (by decide)).elim, by unfold State.settled; decide, _, rfl⟩

/-- A FLOOD trip in RUN mode with DRAIN_PUMP granted. -/
def flooded : State :=
  granted
    { powered (latched (inMode .run)) with
      eng.state := .tripped, arb.flood := true, trip.record := { TripRecord.empty with reason := .flood } }
    .drainPump 0

theorem witness_StepKeepsTripLocks :
    flooded.floodKept ∧ flooded.tripGrantsKept ∧ flooded.tripEngineKept ∧ flooded.settled ∧ ∃ t, step flooded = .next t :=
  ⟨fun _ => ⟨rfl, rfl⟩, fun _ l => by cases l <;> decide, fun _ => ⟨rfl, by decide⟩, rfl, _, rfl⟩

theorem witness_StepKeepsQueuesAndColumns :
    { State.reset with link.notices := List.replicate 32 (note 6) }.noticesKept ∧
      (∃ t, step { State.reset with link.notices := List.replicate 32 (note 6) } = .next t) ∧
      (cycle (.wash wash1) .fill).queueKept ∧ (cycle (.wash wash1) .fill).stagingKept ∧
      (∃ t, step (cycle (.wash wash1) .fill) = .next t) ∧ filling.serviceKept ∧ ∃ t, step filling = .next t :=
  ⟨by unfold State.noticesKept; decide, ⟨_, rfl⟩, by unfold State.queueKept; decide, by unfold State.stagingKept; decide,
    ⟨_, rfl⟩, by unfold State.serviceKept; decide, _, rfl⟩

/-- A fill about to be granted its inlet on TUB. -/
def inletDue : State := { filling with arb.evalDue := true }

theorem witness_EvaluationPlacesGrants :
    heating.arb.evalDue = true ∧ heating.floodKept ∧ heating.settle.isGranted .heater = true ∧
      inletDue.arb.evalDue = true ∧ inletDue.floodKept ∧ inletDue.settle.isGranted .inletValve = true ∧
      inletDue.settle.soft.route = .tub ∧
      { flooded with arb.evalDue := true }.floodKept ∧ { flooded with arb.evalDue := true }.settle.trip.latch = true ∧
      ({ flooded with arb.evalDue := true }.settle.load .drainPump).grant ≠ none :=
  ⟨by decide, fun h => absurd h (by decide), by decide, by decide, fun h => absurd h (by decide), by decide, by decide,
    fun _ => ⟨rfl, rfl⟩, by decide, by decide⟩

/-- At 31 a posting joins; at 32 level 2 replaces level 6, and level 2 below 32 notices of level 2 is dropped. -/
theorem witness_PostingRule :
    (List.replicate 31 (note 6)).length < 32 ∧ 32 ≤ fullLink.notices.length ∧
      (∃ x ∈ (fullLink.post (note 2)).notices, x.level ≤ fullLink.threshold) ∧
      32 ≤ (List.replicate 32 (note 2)).length ∧ ∀ x ∈ List.replicate 32 (note 2), x.level ≤ (note 2).level := by decide

theorem witness_FramesAndRequestsAgree :
    WellFormed (.pause []) = true ∧ frameOf (.pause []) = some (buildFrame 0x14 []) ∧
      WellFormed (.budget [7, 8]) = true ∧ frameOf (.budget [7, 8]) = some (buildFrame 0x20 [7, 8]) ∧
      isRequest (buildFrame 0x14 []) = true ∧ isRequest [0x5A, 1] = false := by decide

def channel1 : List Byte := [1, 4, 15, 9, 255, 4, 7, 0x80, 0, 7, 4, 1, 15]
def poll1 : List Byte := [1, 4, 0, 1, 0x27, 0x10, 20, 1]
def load1 : List Byte := [1, 0x0B, 0xB8, 0, 0, 7, 1]

theorem witness_RecordsAndEntriesReadBack :
    readRecord (recordBytes (record 11 (.wash { wash1 with extraTest := some extra1 })))
        = some (record 11 (.wash { wash1 with extraTest := some extra1 })) ∧
      readRecord (recordBytes (record 255 (.dry dry1))) = some (record 255 (.dry dry1)) ∧
      (readChannel channel1).isSome = true ∧ (readPoll poll1).isSome = true ∧ (readLoad 1 load1).isSome = true ∧
      readPoints [0x0F, 0xFF, 0x80, 0] = some [(4095, -32768)] ∧
      MachineProfile.default.inRange = true ∧ SoftenerProfile.default.inRange = true ∧
      readDosing (dosingBytes .default) = some .default := by decide

theorem witness_ConditionsAndFilter :
    8 ≤ 8 ∧ Freshness.fresh ≠ .noData ∧ Freshness.fresh ≠ .stale ∧ ((3 : Int) - 0).natAbs < 2 ^ 2 := by decide

/-- The two ends and the inside of the worked curve; a segment holds its first x and not its last. -/
theorem witness_CurveEvaluation :
    pointsValid curve5 = true ∧ (∀ p ∈ curve5, p.1 ≤ 4095 ∧ -32768 ≤ p.2 ∧ p.2 ≤ 32767) ∧
      curve5 = (500, 900) :: [(1500, 600), (2500, 300), (3500, 100)] ∧
      curve5 = [(500, 900), (1500, 600), (2500, 300)] ++ [(3500, 100)] ∧
      curve5 = [(500, 900)] ++ (1500, 600) :: (2500, 300) :: [(3500, 100)] ∧ (1500 : Int) ≤ 2499 ∧ (2499 : Int) < 2500 := by
  decide

theorem witness_FlowAccounting :
    caseA.inEffect .softener ∧ 0 < caseA.softener.k ∧ caseA.inletTo .fill = true ∧ caseA.serviceColumn = some .a ∧
      { caseA with soft.colA.state := .offline }.inletTo .fill = true ∧
      { caseA with soft.colA.state := .offline }.serviceColumn = none ∧
      State.reset.inEffect .softener ∧ State.reset.inletTo .fill = false ∧ State.reset.inletTo .regen = false :=
  ⟨.inr rfl, by decide, by decide, by decide, by decide, by decide, .inr rfl, by decide, by decide⟩

theorem witness_DoseRule :
    State.reset.soft.vFill = 0 ∧ caseA.soft.vFill ≠ 0 ∧ caseA.soft.u = 0 ∧ caseA.softener.hRes ≤ 2000 ∧
      DosingProfile.default.inRange = true ∧
      strokesFor .default (computeDose .default 200 230 328) < 255 ∧
      { DosingProfile.default with dMin := 0 }.inRange = true ∧ { DosingProfile.default with dMin := 0 }.dMin = 0 := by decide


theorem witness_LostBytesChangeNothing :
    codeOf (.pause []) = some (0x14, []) ∧ { State.reset with link.rxOff := true }.link.rxOff = true ∧
      codeOf (.phaseSubmit (List.replicate 60 0)) = some (0x10, List.replicate 60 0) ∧
      59 < (List.replicate 60 (0 : Byte)).length ∧ State.reset.bus.tx = none ∧ State.reset.settled :=
  ⟨rfl, rfl, rfl, by decide, rfl, rfl⟩

theorem witness_TableWriteReplacesEntry :
    State.reset.ready ∧ (readChannel channel1).isSome = true ∧
      ((2 : Byte).toNat ≤ 8 ∧ readPoints [0, 0, 0, 0, 0x0F, 0xFF, 0, 9] = some [(0, 0), (4095, 9)]) ∧
      (readPoll poll1).isSome = true ∧ State.reset.link.mode = .standby ∧ State.reset.bus.tx = none ∧
      (readLoad 10 load1).isSome = true ∧
      (32 ≤ (32 : Byte).toNat ∧ readChannel [] = none) ∧ (8 < (9 : Byte).toNat) ∧
      ((inMode .run).ready ∧ (inMode .run).link.mode ≠ .standby) ∧ 16 ≤ (16 : Byte).toNat ∧ readPoll [] = none ∧
      11 ≤ (11 : Byte).toNat ∧ readLoad 0 [] = none :=
  ⟨⟨rfl, rfl⟩, by decide, by decide, by decide, rfl, rfl, by decide, by decide, by decide,
    ⟨⟨rfl, rfl⟩, by decide⟩, by decide, rfl, by decide, rfl⟩

theorem witness_TableReadAnswers : State.reset.ready := ⟨rfl, rfl⟩

/-- The machine profile damaged. -/
def damaged : State := { State.reset with eng.profile.sound := false }

theorem witness_DamagedEntriesAndProfiles :
    State.reset.trip.integrity = none ∧
      { State.reset with trip.integrity := some { table := .load, bank := some .active, index := 3 } }.trip.integrity
        = some { table := .load, bank := some .active, index := 3 } ∧
      State.reset.inEffect .machine ∧ ¬ damaged.inEffect .machine ∧
      ¬ { State.reset with soft.profile.sound := false }.inEffect .softener ∧
      ¬ { State.reset with dosing.rinse.profile.sound := false }.inEffect .rinse ∧ ProfileId.rinse = dosingProfileId .rinse :=
  ⟨rfl, rfl, .inr rfl, by unfold State.inEffect; decide, by unfold State.inEffect; decide, by unfold State.inEffect; decide,
    rfl⟩

/-- A SHADOW whose entry 31 names a curve that is not valid. -/
def badShadow : State :=
  { State.reset with
    chan.shadow := State.reset.chan.shadow.set 31 { chanE 3 .turbidity .none with contents.curve := some 7 } }

/-- A SHADOW load table that RUN could use. -/
def goodLoads : State := { State.reset with arb.shadow := (powered State.reset).arb.active }

theorem witness_BankSwapByMask :
    (badShadow.ready ∧ readMask 1 = some { channels := true, curves := false, loads := false } ∧
      offending (badShadow.governingChannels { channels := true, curves := false, loads := false })
        (badShadow.governingCurves { channels := true, curves := false, loads := false }) = some 31) ∧
      ((inMode .run).ready ∧
        offending ((inMode .run).governingChannels { channels := true, curves := false, loads := false })
          ((inMode .run).governingCurves { channels := true, curves := false, loads := false }) = none ∧
        bindsForRun ((inMode .run).governingChannels { channels := true, curves := false, loads := false }) = false) ∧
      (State.reset.ready ∧ readMask 4 = some { channels := false, curves := false, loads := true } ∧
        loadFailure State.reset.arb.shadow = some 2) ∧
      (goodLoads.ready ∧ readMask 7 = some { channels := true, curves := true, loads := true } ∧
        loadFailure goodLoads.arb.shadow = none ∧
        rebound goodLoads.chan.active[31].contents goodLoads.chan.shadow[31].contents goodLoads.chan.run[31] = false) :=
  ⟨⟨⟨rfl, rfl⟩, by decide, by decide⟩, ⟨⟨rfl, rfl⟩, by decide, by decide⟩, ⟨⟨rfl, rfl⟩, by decide, by decide⟩,
    ⟨⟨rfl, rfl⟩, by decide, by decide, by decide⟩⟩

theorem witness_ProfileWriteReplaces :
    State.reset.ready ∧ (machineBytes .default).length = 14 ∧ readMachine (machineBytes .default) = some .default ∧
      State.reset.eng.state = .idle ∧
      (softenerBytes .default).length = 19 ∧ readSoftener (softenerBytes .default) = some .default ∧
      State.reset.soft.holder = .none ∧ State.reset.soft.regen = none ∧
      reservoirOfSelector 2 = some .det ∧ reservoirOfSelector 3 = some .rinse ∧ (dosingBytes .default).length = 17 ∧
      readDosing (dosingBytes .default) = some .default ∧ State.reset.dosing.dose = none ∧
      (cycle (.wash wash1) .fill).ready ∧ (cycle (.wash wash1) .fill).eng.state ≠ .idle ∧
      filling.ready ∧ filling.soft.holder ≠ .none ∧
      { State.reset with dosing.dose := some dose1 }.ready ∧ { State.reset with dosing.dose := some dose1 }.dosing.dose ≠ none :=
  ⟨⟨rfl, rfl⟩, by decide, by decide, rfl, by decide, by decide, rfl, rfl, by decide, by decide, by decide, by decide, rfl,
    ⟨rfl, rfl⟩, by decide, ⟨rfl, rfl⟩, by decide, ⟨rfl, rfl⟩, by decide⟩

theorem witness_ProfileReadAnswers : damaged.ready ∧ reservoirOfSelector 3 = some .rinse := ⟨⟨rfl, rfl⟩, by decide⟩

/-- Tables that RUN can start with. -/
def runnable : State := withRole (withRole (withRole (powered State.reset) 0 .tubTemp 200) 1 .tubLevel 12) 4 .flow 0

theorem witness_SetModeChangesMode :
    State.reset.ready ∧ State.reset.link.mode = .standby ∧
      ((cycle (.wash wash1) .fill).ready ∧ (cycle (.wash wash1) .fill).link.mode = .run ∧
        (cycle (.wash wash1) .fill).eng.state ≠ .idle ∧ (cycle (.wash wash1) .fill).eng.state ≠ .tripped) ∧
      State.reset.tablesReady = false ∧ runnable.ready ∧ runnable.tablesReady = true ∧
      (flooded.ready ∧ flooded.link.mode = .run ∧ flooded.eng.state = .tripped) ∧
      (inMode .service).ready ∧ (latched runnable).ready ∧ (latched runnable).tablesReady = true :=
  ⟨⟨rfl, rfl⟩, rfl, ⟨⟨rfl, rfl⟩, rfl, by decide, by decide⟩, by decide, ⟨rfl, rfl⟩, by decide, ⟨⟨rfl, rfl⟩, rfl, rfl⟩,
    ⟨rfl, rfl⟩, ⟨rfl, rfl⟩, by decide⟩

def submitted : List Byte := recordBytes (record 12 (.wash wash1))

/-- Seven records, tags 20 to 26. -/
def seven : State := { inMode .run with eng.queue := (List.range 7).map (fun n => record (20 + n) (.drain drain1)) }

theorem witness_PhaseSubmitAddsRecord :
    (seven.ready ∧ seven.inEffect .machine ∧ recordLengthGood submitted = true ∧
      readRecord submitted = some (record 12 (.wash wash1)) ∧ seven.trip.latch = false ∧ seven.cancelling = false ∧
      seven.eng.queue.length < 8 ∧ ∀ q ∈ seven.eng.queue, q.tag ≠ 12) ∧
      (200 ≤ 200 ∧ wash1.setpoint ≠ 0 ∧ ∀ w, (record 1 (.dry dry1)).body ≠ .wash w) ∧
      submitted.length ≤ 59 ∧ submitLengthGood [1] = false ∧ submitLengthGood submitted = true ∧
      (latched seven).trip.latch = true ∧
      { seven with eng.head := some (StageRecord.start .drain 0 true) }.cancelling = true ∧
      8 ≤ { seven with eng.queue := record 19 (.dry dry1) :: seven.eng.queue }.eng.queue.length ∧
      (submitLengthGood [1, 9] = true ∧ readRecord [1, 9] = none) ∧
      { seven with eng.queue := [record 12 (.drain drain1)] }.eng.queue.any (fun q => decide (q.tag = 12)) = true :=
  ⟨⟨⟨rfl, rfl⟩, .inr rfl, by decide, by decide, rfl, by decide, by decide, by decide⟩,
    ⟨by decide, by decide, fun _ h => PhaseBody.noConfusion h⟩, by decide, by decide, by decide, rfl, by decide, by decide,
    by decide, by decide⟩

theorem witness_PhaseWithdrawRemovesRecord :
    (seven.ready ∧ ∀ q ∈ seven.eng.queue, q.tag ≠ (11 : Byte).toNat) ∧
      ((cycle (.wash wash1) .fill).ready ∧ (cycle (.wash wash1) .fill).eng.queue = record 11 (.wash wash1) :: [] ∧
        (record 11 (.wash wash1)).tag = (11 : Byte).toNat ∧ (cycle (.wash wash1) .fill).eng.state = .running) ∧
      (seven.eng.queue = (seven.eng.queue.take 6) ++ record 26 (.drain drain1) :: [] ∧
        ∀ x ∈ seven.eng.queue.take 6, x.tag ≠ 26) :=
  ⟨⟨⟨rfl, rfl⟩, by decide⟩, ⟨⟨rfl, rfl⟩, rfl, by decide, rfl⟩, by decide, by decide⟩

/-- RUN mode, IDLE, one record, the door LATCHED. -/
def startable (body : PhaseBody) : State := { inMode .run with eng.queue := [record 11 body] }

theorem witness_CycleStartStartsHead :
    ((startable (.wash wash1)).ready ∧ (startable (.wash wash1)).door.state = .latched ∧
      (startable (.wash wash1)).roleFreshness .tubTemp = .noData ∧ (startable (.wash wash1)).roleFreshness .tubLevel = .noData ∧
      (startable (.wash wash1)).eng.queue = record 11 (.wash wash1) :: []) ∧
      (startable (.drain drain1)).eng.queue = record 11 (.drain drain1) :: [] ∧
      ((startable (.dry dry1)).coolEnough dry1 = false ∧ dry1.condenseMax ≠ 0) ∧
      (withRole (startable (.dry dry1)) 0 .tubTemp 450).coolEnough dry1 = true ∧
      State.reset.link.mode ≠ .run ∧ (latched (inMode .run)).trip.latch = true ∧
      (cycle (.wash wash1) .fill).eng.state ≠ .idle ∧ (inMode .run).eng.queue = [] ∧
      { startable (.wash wash1) with door.state := .open }.door.state ≠ .latched ∧
      { withRole (startable (.wash wash1)) 0 .tubTemp 450 with
        chan.run := State.reset.chan.run.set 0 { ChannelRun.blank with freshness := .stale } }.roleFreshness .tubTemp = .stale :=
  ⟨⟨⟨rfl, rfl⟩, rfl, by decide, by decide, rfl⟩, rfl, ⟨by decide, by decide⟩, by decide, by decide, rfl, by decide, rfl,
    by decide, by decide⟩

theorem witness_CycleCancelDrainsOrEnds :
    (flooded.ready ∧ flooded.eng.state = .tripped) ∧ State.reset.eng.state = .idle ∧
      ((cycle (.wash wash1) .hold).ready ∧ (cycle (.wash wash1) .hold).eng.queue = record 11 (.wash wash1) :: [] ∧
        (cycle (.wash wash1) .hold).eng.head = some (StageRecord.start .hold 0 false) ∧
        (cycle (.wash wash1) .hold).eng.state = .running) ∧
      ((drying .vent .new).ready ∧ (drying .vent .new).eng.queue = record 11 (.dry dry1) :: [] ∧
        (drying .vent .new).eng.state = .running) :=
  ⟨⟨⟨rfl, rfl⟩, rfl⟩, rfl, ⟨⟨rfl, rfl⟩, rfl, rfl, rfl⟩, ⟨rfl, rfl⟩, rfl, rfl⟩

def byHost : SuspSet := { SuspSet.empty with host := true }

theorem witness_PauseAndResume :
    (latched State.reset).trip.latch = true ∧ State.reset.underWay = false ∧
      ((suspended (cycle (.wash wash1) .hold) byHost).ready ∧
        (suspended (cycle (.wash wash1) .hold) byHost).eng.state = .suspended) ∧
      (filling.ready ∧ filling.eng.state = .running ∧ filling.runningIn .fill = true) ∧
      (suspended (cycle (.wash wash1) .hold) { byHost with door := true }).eng.susp.door = true ∧
      (State.reset.ready ∧ State.reset.eng.susp.host = false ∧ State.reset.soft.hold.restored = false) :=
  ⟨rfl, by decide, ⟨⟨rfl, rfl⟩, rfl⟩, ⟨⟨rfl, rfl⟩, rfl, by decide⟩, rfl, ⟨rfl, rfl⟩, rfl, rfl⟩

theorem witness_FlagsApplyMasks :
    (cycle (.wash wash1) .hold).ready ∧ State.reset.ready ∧ State.reset.runningIn .hold = false :=
  ⟨⟨rfl, rfl⟩, ⟨rfl, rfl⟩, by decide⟩

theorem witness_BudgetSetsLimit : State.reset.link.rxOff = false := rfl

theorem witness_LoadForceRequests :
    (State.reset.ready ∧ State.reset.link.mode ≠ .service) ∧
      ((inMode .service).ready ∧ (inMode .service).link.mode = .service ∧ 11 ≤ (11 : Byte).toNat) ∧
      (loadOfId (4 : Byte).toNat = some .routeValve ∧ forceArgument .routeValve 3 = none) ∧
      (loadOfId (1 : Byte).toNat = some .circPump ∧ forceArgument .circPump 29 = some 30) ∧
      (loadOfId (10 : Byte).toNat = some .fan ∧ forceArgument .fan 255 = some 0) :=
  ⟨⟨⟨rfl, rfl⟩, by decide⟩, ⟨⟨rfl, rfl⟩, rfl, by decide⟩, by decide, by decide, by decide⟩

theorem witness_ColumnSetWritesColumn :
    (State.reset.ready ∧ State.reset.inEffect .softener ∧ State.reset.link.mode ≠ .service ∧ State.reset.eng.state = .idle ∧
      State.reset.soft.regen = none ∧ State.reset.soft.move = none ∧ State.reset.soft.position ≠ .b ∧
      (State.reset.column .a).state ≠ .service) ∧
      ((inMode .service).ready ∧ (inMode .service).link.mode = .service) ∧ 2 ≤ (2 : Byte).toNat ∧ 4 ≤ (4 : Byte).toNat ∧
      { State.reset with soft.regen := some (regen1 .soak) }.soft.regen ≠ none ∧
      (sideOfCode (1 : Byte).toNat = some .b ∧
        ({ State.reset with soft.colA.state := .service }.column (otherSide .b)).state = .service) :=
  ⟨⟨⟨rfl, rfl⟩, .inr rfl, by decide, rfl, rfl, rfl, by decide, by decide⟩, ⟨⟨rfl, rfl⟩, rfl⟩, by decide, by decide,
    by decide, by decide⟩

/-- RUN mode with column B exhausted. -/
def exhausted : State := { inMode .run with soft.colB.state := .exhausted }

theorem witness_RegenStartBegins :
    State.reset.link.mode ≠ .run ∧ (latched (inMode .run)).trip.latch = true ∧
      { inMode .run with soft.hold.mains := true }.soft.hold.isEmpty = false ∧
      { inMode .run with soft.regen := some (regen1 .brine) }.soft.regen ≠ none ∧
      ((inMode .run).column .a).state ≠ .exhausted ∧
      (exhausted.ready ∧ exhausted.trip.latch = false ∧ exhausted.soft.hold.isEmpty = true ∧ exhausted.soft.regen = none ∧
        (exhausted.column .b).state = .exhausted ∧ exhausted.soft.holder = .none) ∧
      { exhausted with soft.holder := .fill }.soft.holder = .fill :=
  ⟨by decide, rfl, by decide, by decide, by decide, ⟨⟨rfl, rfl⟩, rfl, by decide, rfl, by decide, rfl⟩, rfl⟩

theorem witness_ReservoirAdjustSetsEstimate :
    State.reset.ready ∧ State.reset.inEffect (dosingProfileId .det) ∧ be32 0 0 0 0 = (State.reset.reservoir .det).estimate ∧
      be32 0 0 0 1 ≠ (State.reset.reservoir .det).estimate ∧ 2 ≤ (2 : Byte).toNat :=
  ⟨⟨rfl, rfl⟩, .inr rfl, by decide, by decide, by decide⟩

/-- An image in the buffer. -/
def imaged : State := State.reset.snapshot 2

theorem witness_ReadsChangeNothing :
    State.reset.ready ∧ (State.reset.page 4).isSome = true ∧ 5 ≤ (5 : Byte).toNat ∧ 32 ≤ (32 : Byte).toNat ∧
      16 ≤ (16 : Byte).toNat ∧ ((15 : Byte).toNat ≤ 15 ∧ State.reset.link.image = none) ∧
      imaged.ready ∧ imaged.link.image = some (State.reset.image 2) :=
  ⟨⟨rfl, rfl⟩, by decide, by decide, by decide, by decide, ⟨by decide, rfl⟩, ⟨rfl, rfl⟩, rfl⟩

theorem witness_AttentionFollowsQueue : State.reset.ready ∧ (7 : Byte).toNat ≤ 7 ∧ 8 ≤ (8 : Byte).toNat :=
  ⟨⟨rfl, rfl⟩, by decide, by decide⟩

def stored (m : StoreMode) (st : SampleStore) : State :=
  { State.reset with
    chan.active := State.reset.chan.active.set 31 (chanE 0 .turbidity m)
    chan.run := State.reset.chan.run.set 31 { ChannelRun.blank with store := st } }

def sample1 : Sample := { value := 5, flags := 1, tag := 0 }

theorem witness_SamplesReadTakesSamples :
    State.reset.ready ∧ State.reset.chan.active[31].contents.enabled = false ∧ 32 ≤ (32 : Byte).toNat ∧
      ((stored .latest .empty).ready ∧ (stored .latest .empty).chan.run[31].store.unreadMark = false) ∧
      ((stored .ring64 .empty).ready ∧ (stored .ring64 .empty).chan.active[31].contents.enabled = true ∧
        (stored .ring64 .empty).chan.active[31].contents.store = .ring64) ∧
      ((stored .paired { SampleStore.empty with place := some sample1, unreadMark := true }).ready ∧
        (stored .paired { SampleStore.empty with place := some sample1, unreadMark := true }).chan.run[31].store.place
          = some sample1) :=
  ⟨⟨rfl, rfl⟩, by decide, by decide, ⟨⟨rfl, rfl⟩, by decide⟩, ⟨⟨rfl, rfl⟩, by decide, by decide⟩, ⟨rfl, rfl⟩, by decide⟩

theorem witness_SnapshotsFillImage :
    (latched State.reset).ready ∧ (cycle (.wash wash1) .hold).ready ∧ (cycle (.wash wash1) .hold).eng.state = .running ∧
      State.reset.ready ∧ State.reset.trip.latch = false ∧ State.reset.eng.state ≠ .running :=
  ⟨⟨rfl, rfl⟩, ⟨rfl, rfl⟩, rfl, ⟨rfl, rfl⟩, rfl, by decide⟩

/-- STANDBY with the first records of the image of a cycle staged. -/
def staging (n : Nat) : State :=
  { runnable with
    link.staging :=
      { records := ((startable (.wash wash1)).image 2).records.take n
        phases := ([some (record 11 (.wash wash1))] ++ List.replicate 7 none).take (n - 1) } }

def rec0 (n : Nat) : List Byte := (((startable (.wash wash1)).image 2).records[n]?).getD []

theorem witness_ContextWriteStagesAndRestores :
    (State.reset.ready ∧ (rec0 0).length = 16 ∧ contextLengthGood 0 (rec0 0) [] = true ∧ headerGood (rec0 0) = true ∧
      headerGood (rec0 9) = false) ∧
      ((inMode .run).ready ∧ (inMode .run).link.mode ≠ .standby ∧ (startable (.wash wash1)).eng.queue ≠ []) ∧
      ((staging 1).ready ∧ (staging 1).link.staging.records.length = 1 ∧
        contextLengthGood 1 (rec0 1) (recordBytes (record 11 (.wash wash1))) = true ∧
        slotChecks (rec0 1) (recordBytes (record 11 (.wash wash1))) = true ∧ byteAt (rec0 1) 0 = 1 ∧
        (staging 1).link.staging.slotGood (recordBytes (record 11 (.wash wash1))) = some (record 11 (.wash wash1)) ∧
        slotChecks (rec0 1) [] = false) ∧
      ((staging 2).link.staging.records.length = 2 ∧ slotChecks (rec0 2) [] = true ∧ byteAt (rec0 2) 0 = 0 ∧
        (staging 2).link.staging.slotGood (recordBytes (record 11 (.wash wash1))) = none) ∧
      (staging 14).link.staging.records.length = 14 :=
  ⟨⟨⟨rfl, rfl⟩, by decide, by decide, by decide, by decide⟩, ⟨⟨rfl, rfl⟩, by decide, by decide⟩,
    ⟨⟨rfl, rfl⟩, by decide, by decide, by decide, by decide, by decide, by decide⟩,
    ⟨by decide, by decide, by decide, by decide⟩, by decide⟩

/-- Record 15: a sum that matches and one that does not, and each refusal after it. -/
theorem witness_ContextWriteRecord15 :
    (staging 15).ready ∧ (staging 15).link.mode = .standby ∧ (staging 15).eng.queue = [] ∧
      (staging 15).link.staging.records.length = 15 ∧
      imageSum (staging 15).link.staging.records = wordAt (rec0 15) 14 ∧
      imageSum (staging 15).link.staging.records ≠ wordAt (rec0 0) 14 ∧
      (staging 15).link.staging.consistent = true ∧ (staging 15).tablesReady = true ∧ (staging 15).trip.latch = false ∧
      byteAt ((staging 15).link.staging.record 9) 0 = 0 :=
  ⟨⟨rfl, rfl⟩, rfl, rfl, by decide, by decide, by decide, by decide, by decide, rfl, by decide⟩

theorem witness_TripClearClearsLatch :
    flooded.ready ∧ flooded.inEffect .machine ∧ flooded.trip.latch = true ∧ flooded.condition flooded.trip.record.reason = true ∧
      State.reset.trip.latch = false ∧
      (withRole flooded 1 .tubLevel 12).ready ∧ (withRole flooded 1 .tubLevel 12).condition .flood = false :=
  ⟨⟨rfl, rfl⟩, .inr rfl, rfl, by decide, rfl, ⟨rfl, rfl⟩, by decide⟩

theorem witness_SyncResetAndLinkTicks :
    State.reset.ready ∧ 3 ≤ (3 : Byte).toNat ∧ { State.reset with link.timeTag := 65535 }.link.timeTag = 65535 ∧
      State.reset.link.resetPending = false ∧ { State.reset with link.resetPending := true }.link.resetPending = true :=
  ⟨⟨rfl, rfl⟩, by decide, rfl, rfl, rfl⟩

theorem witness_SoftResetKeepsAndClears :
    filling.soft.profile.sound = true ∧
      (match exec (.softReset { doorClosed := true, latchEngaged := true, selectorHigh := false }) filling with
        | .next t => decide ((t.column .a).state = .service ∧ (t.column .b).state ≠ .service ∧ t.soft.position ≠ .a)
        | _ => false) = true := ⟨rfl, by decide⟩

/-- SERVICE mode, poll entry 15 enabled with a due time. -/
def polled : State :=
  { inMode .service with
    bus.poll := State.reset.bus.poll.set 15 { enabled := true, satellite := 4, mask := 1, interval := 10, timeout := 2, retry := 1 }
    bus.run := State.reset.bus.run.set 15 { due := some 0, inDueSet := false, outcome := .none } }

def tx1 (second belongs waiting : Bool) : Transaction :=
  { entry := 15, satellite := 4, mask := 1, timeout := 2, retry := 1, second := second, belongs := belongs
    waiting := waiting, timer := 0 }

def inFlight (x : Transaction) : State := { polled with bus.tx := some x }

theorem witness_PollingTakesEntries :
    State.reset.link.mode = .standby ∧ polled.bus.poll[14].enabled = false ∧
      (polled.link.mode ≠ .standby ∧ polled.bus.poll[15].enabled = true ∧ polled.bus.run[15].due ≠ none ∧
        polled.bus.tx = none ∧ ∀ j : Fin 16, j < 15 → polled.bus.run[j].inDueSet = false) ∧
      (inFlight (tx1 false true true)).bus.tx ≠ none ∧ (tx1 false true false).waiting = false := by decide

/-- The lowest and the highest satellite, and a first attempt with a retry left that times out. -/
theorem witness_PollFrameRule :
    1 ≤ 1 ∧ 1 ≤ 4 ∧ 4 ≤ 4 ∧ (readPoll poll1).isSome = true ∧
      ((inFlight (tx1 false true true)).bus.tx = some (tx1 false true true) ∧ (tx1 false true true).waiting = true ∧
        (tx1 false true true).belongs = true ∧ (tx1 false true true).second = false ∧ (tx1 false true true).retry = 1) ∧
      ∃ t, exec .sumpResponseTimeout (inFlight (tx1 false true true)) = .next t :=
  ⟨by decide, by decide, by decide, by decide, by decide, _, rfl⟩

/-- A response of satellite 4 with channel 0. -/
def response4 : List Byte := [0x84, 2, 5, 1, 0, 1, 0, 7, 0x6C]

theorem witness_AttemptsEnd :
    ((inFlight (tx1 true true true)).bus.tx = some (tx1 true true true) ∧ (tx1 true true true).waiting = true ∧
      (tx1 true true true).satellite = 3 + 1 ∧ (acceptedGroups 4 response4).isSome = true) ∧
      (inFlight (tx1 false true true)).settled ∧ acceptedGroups 4 [0x84, 2, 5, 1, 0, 1, 0, 7, 0x6D] = none ∧
      (tx1 false false true).belongs = false ∧
      ((tx1 false true true).belongs = true ∧ (tx1 false true true).second = false ∧ (tx1 false true true).retry = 1) ∧
      (tx1 true true true).second = true :=
  ⟨⟨rfl, rfl, rfl, by decide⟩, rfl, by decide, rfl, ⟨rfl, rfl, rfl⟩, rfl⟩

theorem witness_SamplesAndMisses :
    (withRole State.reset 4 .flow 0).channelOf 1 4 = some 4 ∧ (withRole State.reset 4 .flow 0).chan.active[4].sound = true ∧
      (1 : Byte).getLsbD 0 = true ∧ (1 : Byte).getLsbD 1 = false ∧
      (withRole State.reset 4 .flow 0).chan.active[4].contents.curve = none ∧
      (withRole State.reset 3 .turbidity 0).channelOf 1 3 = some 3 ∧
      (0 : Byte).getLsbD 0 = false ∧ (3 : Byte).getLsbD 1 = true := by decide

/-- CIRCULATE with HEATER granted to the engine. -/
def heated (w : WashFields) : State := granted (powered (cycle (.wash w) .circulate)) .heater 0

theorem witness_FillAndHeatTimeouts :
    (State.reset.settled ∧ State.reset.stallRuns = false ∧ State.reset.heatRuns = false) ∧
      (filling.settled ∧ filling.stallRuns = true ∧ filling.inEffect .machine) ∧
      ((heated wash1).settled ∧ (heated wash1).heatRuns = true ∧ (heated wash1).washHead = some wash1 ∧
        wash1.dose = none ∧ wash1.holdTime ≠ 0) ∧
      (heated { wash1 with holdTime := 0 }).heatRuns = true :=
  ⟨⟨rfl, by decide, by decide⟩, ⟨rfl, by decide, .inr rfl⟩, ⟨rfl, by decide, rfl, rfl, by decide⟩, by decide⟩

theorem witness_HoldTimersEndHold :
    (State.reset.settled ∧ State.reset.runningIn .hold = false) ∧
      ((cycle (.wash wash1) .hold).settled ∧ (cycle (.wash wash1) .hold).runningIn .hold = true ∧
        (cycle (.wash wash1) .hold).eng.head = some (StageRecord.start .hold 0 false) ∧
        (cycle (.wash wash1) .hold).washHead = some wash1) :=
  ⟨⟨rfl, by decide⟩, rfl, by decide, rfl, rfl⟩

/-- DRAIN with the level at a value. -/
def draining (h : StageRecord) (body : PhaseBody) (level : Int) : State :=
  withRole { cycle body .drain with eng.head := some h } 1 .tubLevel level

def drainHead0 : StageRecord := StageRecord.start .drain 0 false

theorem witness_DrainTimersEndDrain :
    ((draining drainHead0 (.wash wash1) 11).settled ∧ (draining drainHead0 (.wash wash1) 11).runningIn .drain = true ∧
      (draining drainHead0 (.wash wash1) 11).drainHead = some drain1 ∧
      (drain1.endLevel : Int) < (draining drainHead0 (.wash wash1) 11).roleValue .tubLevel) ∧
      ((draining drainHead0 (.wash wash1) 10).fresh .tubLevel = true ∧
        (draining drainHead0 (.wash wash1) 10).roleValue .tubLevel ≤ (drain1.endLevel : Int) ∧
        drainHead0.captured ≠ .true ∧ (draining drainHead0 (.wash wash1) 10).eng.queue = [record 11 (.wash wash1)]) ∧
      (draining { drainHead0 with cancelling := true } (.drain drain1) 10).fresh .tubLevel = true ∧
      ((draining { drainHead0 with captured := .true } (.wash { wash1 with extraTest := some extra1 }) 10).washHead
          = some { wash1 with extraTest := some extra1 } ∧ drainHead0.repeats < extra1.maxRepeats) ∧
      (cycle (.drain drain1) .drain).inEffect .machine ∧
      { drainHead0 with timeoutSpent := true }.timeoutSpent = true ∧
      ((cycle (.drain drain1) .drain).fresh .tubLevel = false ∧ (cycle (.drain drain1) .drain).link.mode = .run ∧
        (cycle (.drain drain1) .drain).trip.latch = false) :=
  ⟨⟨rfl, by decide, rfl, by decide⟩, ⟨by decide, by decide, by decide, rfl⟩, by decide, ⟨rfl, by decide⟩, .inr rfl, rfl,
    by decide, rfl, rfl⟩

/-- The last stroke of a dose under way. -/
def stroking (d : Dose) : State :=
  granted { powered (cycle (.wash wash1) .hold) with dosing.dose := some d } .doseDet 0

theorem witness_ClockAndStrokes :
    ((cycle (.wash wash1) .hold).settled ∧ (cycle (.wash wash1) .hold).underWay = true) ∧ State.reset.underWay = false ∧
      State.reset.dosing.dose = none ∧ { stroking dose1 with eng.state := .suspended }.strokeRuns dose1 = false ∧
      ((stroking dose1).settled ∧ (stroking dose1).strokeRuns dose1 = true ∧
        (stroking dose1).inEffect (dosingProfileId dose1.reservoir) ∧ dose1.total ≤ dose1.done + 1) ∧
      { dose1 with done := 50 }.done + 1 < dose1.total :=
  ⟨⟨rfl, by decide⟩, by decide, rfl, by decide, ⟨rfl, by decide, .inr rfl, by decide⟩, by decide⟩

def move1 (p : MovePurpose) (target : Side) (driving : Bool) : SelectorMove :=
  { purpose := p, target := target, timer := 0, driving := driving, limit := 8 }

/-- A driving move with SELECTOR_VALVE granted; column A in SERVICE, column B ready. -/
def moving (m : SelectorMove) : State :=
  granted
    { powered (inMode .run) with soft.move := some m, soft.colA.state := .service, soft.colB.state := .ready }
    .selectorValve 1

theorem witness_SelectorMovesEnd :
    (State.reset.settled ∧ State.reset.soft.position = .a) ∧
      ((moving (move1 .flip .b false)).soft.position ≠ .b ∧ (move1 .flip .b false).driving = false ∧
        (moving (move1 .flip .b false)).serviceColumn = some .a ∧ (inMode .run).serviceColumn = none) ∧
      ((moving (move1 .flip .b true)).settled ∧ (move1 .flip .b true).driving = true ∧ (move1 .flip .b true).target = .b ∧
        (moving (move1 .flip .b true)).soft.holder = .none ∧ ((moving (move1 .flip .b true)).column .b).state = .ready) ∧
      ((moving (move1 .flip .b true)).inEffect .softener ∧
        (moving (move1 .flip .b false)).travelRuns (move1 .flip .b false) = false ∧
        (moving (move1 .flip .b true)).travelRuns (move1 .flip .b true) = true ∧ (move1 .flip .b true).purpose ≠ .back) ∧
      ((moving (move1 .back .a true)).travelRuns (move1 .back .a true) = true ∧
        (moving (move1 .back .a true)).soft.position = (move1 .back .a true).target ∧
        (moving (move1 .back .b true)).soft.position ≠ (move1 .back .b true).target) :=
  ⟨⟨rfl, rfl⟩, ⟨by decide, rfl, by decide, by decide⟩, ⟨rfl, rfl, rfl, rfl, by decide⟩,
    ⟨.inr rfl, by decide, by decide, by decide⟩, by decide, by decide, by decide⟩

/-- A route pulse with ROUTE_VALVE granted to the softener. -/
def pulsing (target : Route) (holder : Holder) : State :=
  granted
    { powered (inMode .run) with
      soft.pulse := some { target := target, timer := 0 }
      soft.holder := holder
      soft.progress := .routing
      soft.regen := if holder = .regen then some (regen1 .brine) else none }
    .routeValve 1

theorem witness_RoutePulseAndSoakEnd :
    State.reset.settled ∧ State.reset.soft.pulse = none ∧
      ((pulsing .tub .none).settled ∧ (pulsing .tub .none).pulseRuns = true ∧ (pulsing .tub .none).soft.holder = .none) ∧
      ((pulsing .tub .fill).pulseRuns = true ∧ (pulsing .tub .fill).soft.progress = .routing ∧
        (pulsing .tub .fill).soft.move = none) ∧
      ((pulsing .regen .regen).pulseRuns = true ∧ (pulsing .regen .regen).soft.regen = some (regen1 .brine) ∧
        (regen1 .brine).stage = .brine) ∧
      { exhausted with soft.regen := some (regen1 .brine) }.soakRuns (regen1 .brine) = false ∧
      ({ exhausted with soft.regen := some (regen1 .soak) }.soakRuns (regen1 .soak) = true ∧ exhausted.inEffect .softener ∧
        exhausted.soft.holder = .none) :=
  ⟨rfl, rfl, ⟨rfl, by decide, rfl⟩, ⟨by decide, rfl, rfl⟩, ⟨by decide, rfl, rfl⟩, by decide, by decide, .inr rfl, rfl⟩

def byDoor : SuspSet := { SuspSet.empty with door := true }

theorem witness_DoorSwitchesAndSettling :
    (State.reset.settled ∧ State.reset.pushing = false ∧ State.reset.door.reading .latch = true ∧
      State.reset.dryHead = none) ∧
      ((cycle (.wash wash1) .hold).eng.state = .running ∧ (cycle (.wash wash1) .hold).door.state = .latched) ∧
      ({ suspended (cycle (.wash wash1) .hold) byDoor with door.latch := false, door.state := .closedUnlatched }.door.reading
          .latch ≠ true) ∧
      State.reset.door.settle = none ∧
      { suspended (cycle (.wash wash1) .fill) { byDoor with host := true } with door.settle := some 30000 }.door.settle ≠ none ∧
      ({ suspended (cycle (.wash wash1) .fill) byDoor with door.settle := some 30000 }.washHead = some wash1 ∧
        { byDoor with door := false }.isEmpty = true ∧ (cycle (.wash wash1) .fill).dosing.dose = none) :=
  ⟨⟨rfl, by decide, rfl, rfl⟩, ⟨rfl, rfl⟩, by decide, rfl, by decide, rfl, by decide, rfl⟩

def attempt (n : Nat) (a : AttemptState) : DryRecord := { DryRecord.new with attempt := n, attState := a }

/-- OPENING with DOOR_ACTUATOR granted. -/
def pushed (n : Nat) : State := granted (powered (drying .opening (attempt n .pushing))) .doorActuator 0

/-- VENT with records behind the head. -/
def venting (more : List PhaseRecord) (door : DoorState) : State :=
  { drying .vent .new with eng.queue := record 11 (.dry dry1) :: more, door.state := door }

theorem witness_DryTimersMoveStages :
    ((drying .condense .new).settled ∧ (drying .condense .new).dryHead = some dry1 ∧
      (drying .condense .new).door.dry = some .new ∧ (drying .condense .new).runningIn .condense = true ∧
      (drying .condense .new).pushing = false ∧ (drying .condense .new).restRuns = false) ∧
      (drying .vent .new).runningIn .condense = false ∧
      ((pushed 1).pushing = true ∧ (pushed 1).door.closed = true ∧ (attempt 1 .pushing).attempt ≤ 1) ∧
      ((pushed 2).pushing = true ∧ 1 < (attempt 2 .pushing).attempt ∧ dry1.ventTime ≠ 0 ∧ dry1.fan = true) ∧
      (drying .opening (attempt 1 .resting)).restRuns = true ∧
      ((venting [] .ajarAuto).settled ∧ (venting [] .ajarAuto).eng.queue = record 11 (.dry dry1) :: [] ∧
        (venting [] .ajarAuto).runningIn .vent = true ∧ (drying .condense .new).runningIn .vent = false) ∧
      ((venting [record 12 (.wash wash1)] .latched).runningIn .vent = true ∧
        (venting [record 12 (.wash wash1)] .latched).door.state = .latched ∧
        (venting [record 12 (.wash wash1)] .ajarAuto).door.state ≠ .latched) :=
  ⟨⟨rfl, rfl, rfl, by decide, by decide, by decide⟩, by decide, ⟨by decide, rfl, by decide⟩,
    ⟨by decide, by decide, by decide, rfl⟩, by decide, ⟨rfl, rfl, by decide, by decide⟩, by decide, rfl, by decide⟩

/-- A report of a load waits. -/
def reported (s : State) (l : LoadId) : State := { s with arb.reports := [l] }

theorem witness_GrantReportReachesOwner :
    (State.reset.settled ∧ State.reset.arb.reports.contains .fan = false) ∧
      ((reported (stroking dose1) .doseDet).settled ∧ (reported (stroking dose1) .doseDet).arb.reports.contains .doseDet = true ∧
        LoadId.doseDet = pumpOf .det ∧ dose1.state ≠ .paused ∧ (reported (stroking dose1) .doseDet).granted .doseDet = true ∧
        0 < dose1.done) ∧
      { cycle (.wash wash1) .hold with dosing.dose := some dose1, arb.reports := [.doseDet] }.granted .doseDet = false ∧
      ((reported (pulsing .tub .fill) .routeValve).soft.pulse = some { target := .tub, timer := 0 } ∧
        ((pulsing .tub .fill).load .routeValve).forced = none ∧ (inMode .run).granted .routeValve = false) ∧
      (reported State.reset .heater).arb.reports.contains .heater = true :=
  ⟨⟨rfl, rfl⟩, ⟨rfl, rfl, rfl, by decide, by decide, by decide⟩, by decide, ⟨rfl, by decide, by decide⟩, rfl⟩

/-- The watch with a gap since the last crossing. -/
def watched (p : Mains) (gap run misses : Nat) : State :=
  { State.reset with
    now := 100000
    arb.zc := { presence := p, misses := misses, run := run, last := some (100000 - gap), lostAt := none, phase := false } }

theorem witness_ZeroCrossWatch :
    ((watched .unknown 69 0 0).settled ∧ (watched .unknown 69 0 0).now - (100000 - 69) < 70) ∧
      ((watched .present 70 0 0).arb.zc.last = some (100000 - 70) ∧ 70 ≤ (watched .present 70 0 0).now - (100000 - 70)) ∧
      ((watched .absent 120 19879 0).now - (100000 - 120) ≤ 120 ∧
        (watched .absent 120 19879 0).arb.zc.run + ((watched .absent 120 19879 0).now - (100000 - 120)) < 20000) ∧
      120 < (watched .absent 121 0 0).now - (100000 - 121) ∧
      20000 ≤ (watched .absent 120 19880 0).arb.zc.run + ((watched .absent 120 19880 0).now - (100000 - 120)) ∧
      (watched .unknown 120 19880 0).arb.zc.presence = .unknown ∧ (watched .absent 120 0 0).arb.zc.presence ≠ .present ∧
      (watched .present 100 0 1).arb.zc.misses < 2 ∧ 2 ≤ (watched .present 100 0 2).arb.zc.misses ∧
      heating.settle.isGranted .heater = true :=
  ⟨⟨rfl, by decide⟩, ⟨rfl, by decide⟩, by decide, by decide, by decide, rfl, by decide, by decide, by decide, by decide⟩

theorem witness_MainsReportsReachBlocks :
    (cycle (.wash wash1) .hold).underWay = true ∧ State.reset.underWay = false ∧ State.reset.soft.hold.isEmpty = true ∧
      { byHost with mains := false }.isEmpty = false ∧
      { exhausted with soft.hold := { mains := true, restored := false }, soft.regen := some (regen1 .rinse) }.soft.hold
        = { mains := true, restored := false } ∧ (regen1 .rinse).stage ≠ .soak ∧ exhausted.soft.holder = .none := by decide

/-! ## Witnesses of the further clauses of a statement -/

theorem witness_IdleStepPassesTime_due :
    { State.reset with due := [.timeTagTick] }.pending = [] ∧ { State.reset with due := [.timeTagTick] }.dueReports = [] ∧
      { State.reset with due := [.timeTagTick] }.due = .timeTagTick :: [] ∧ State.reset.due = [] ∧ State.reset.settled ∧
      (∀ p, State.reset.inEffect p) ∧ (cycle (.wash wash1) .hold).washHead = some wash1 ∧
      (stroking dose1).dosing.dose = some dose1 ∧ (pulsing .tub .none).soft.pulse = some { target := .tub, timer := 0 } :=
  ⟨rfl, rfl, rfl, rfl, rfl, fun p => .inr (by cases p <;> rfl), rfl, rfl, rfl⟩

theorem witness_EvaluationFrame :
    heating.settle.trip.latch = heating.trip.latch ∧ heating.inEffect .machine ∧ heating.dosing.dose = none ∧
      LoadId.heater ≠ .inletValve := ⟨by decide, .inr rfl, rfl, by decide⟩

/-- CIRC_PUMP requested with a budget. -/
def pumpWaits (budget : Nat) : State := ((powered (cycle (.wash wash1) .circulate)).request .circPump 80).setBudget budget

/-- CIRC_PUMP granted, HEATER requested with a FRESH level, FAN granted: 98 W. -/
def heaterWaits (budget : Nat) : State :=
  ((granted (granted (withRole (powered (cycle (.wash wash1) .circulate)) 1 .tubLevel 91) .circPump 80) .fan 0).request
    .heater 0).setBudget budget

/-- The room at its bound in each case of R157: in full, at HALF, in full after preemption, at HALF after it, not at all. -/
theorem witness_EvaluationPlacesGrants_pass :
    ((pumpWaits 90).inEffect .machine ∧ (pumpWaits 90).budgetKept ∧
      (∀ k, (pumpWaits 90).isGranted k = true →
        (pumpWaits 90).requested k = true ∧ (pumpWaits 90).available k = true ∧ (pumpWaits 90).interlock k = true) ∧
      (∀ k, (pumpWaits 90).candidate k = true ↔ k = .circPump) ∧ (pumpWaits 90).interlock .circPump = true ∧
      (pumpWaits 90).room = 90) ∧
      ((heaterWaits 2098).candidate .heater = true ∧ (heaterWaits 2098).interlock .heater = true ∧
        (heaterWaits 2098).room = 2000 ∧ (heaterWaits 1098).room = 1000 ∧
        ((heaterWaits 2090).room = 1992 ∧ (heaterWaits 2090).budgetKept ∧ (heaterWaits 2090).canShed .heater 2000 = true) ∧
        ((heaterWaits 1090).room = 992 ∧ (heaterWaits 1090).canShed .heater 2000 = false ∧
          (heaterWaits 1090).canShed .heater 1000 = true) ∧
        (heaterWaits 1089).canShed .heater 1000 = false) ∧
      (((powered State.reset).setGrant .heater (some .half)).load .heater).grant = some .half ∧
      2000 + ((powered State.reset).setGrant .heater (some .half)).totalWatts ≤ 2000 + 1000 :=
  ⟨⟨.inr rfl, by unfold State.budgetKept; decide, fun k => by cases k <;> decide, fun k => by cases k <;> decide, by decide,
    by decide⟩, ⟨by decide, by decide, by decide, by decide, ⟨by decide, by unfold State.budgetKept; decide, by decide⟩,
    by decide, by decide⟩, by decide, by decide⟩

theorem witness_FramesAndRequestsAgree_receiver :
    State.reset.receiverOff = false ∧ State.reset.link.heard = [] ∧ (0x5A : Byte) ∉ [0xFF, 0x00] ∧
      isRequest (buildFrame 0x14 []) = true ∧ (0 : Byte).toNat = 0 ∧ 60 < (61 : Byte).toNat ∧
      { State.reset with link.rxOff := true }.receiverOff = true := by decide

/-- R191: noise and a false SOF before a good frame, byte by byte; the request is taken. -/
theorem test_hunting :
    (([0xFF, 0x5A, 0x00, 0x13] ++ buildFrame 0x14 []).foldl State.hear State.reset).pending
      = [.linkFrameDiscarded [0x5A, 0x00], .pause []] := by decide

/-- R149: HEATER at HALF conducts in one half-cycle of two. -/
theorem test_half_cycles :
    let s := (powered State.reset).request .heater 0 |>.setGrant .heater (some .half)
    s.drivePin .heater = false ∧ { s with arb.zc.phase := true }.drivePin .heater = true := by decide

/-- A regeneration that holds the path with INLET_VALVE granted. -/
def flowing (st : RegenStage) (volume : Nat) : State :=
  granted
    { powered (inMode .run) with
      soft.holder := .regen
      soft.progress := .set
      soft.regen := some { regen1 st with volume := volume }
      soft.tLast := some 0 }
    .inletValve 0

/-- 120 pulses are 250 mL: with 350 mL the brine volume 600, with 2750 mL the rinse volume 3000; 119 pulses are 247 mL. -/
theorem witness_FlowAccounting_regen :
    (flowing .brine 350).inEffect .softener ∧ (flowing .brine 350).inEffect .machine ∧
      (flowing .brine 350).inletTo .regen = true ∧ pulseDelta (flowing .brine 350).soft.tLast 120 .fresh = 120 ∧
      120 * 1000 / (flowing .brine 350).softener.k = 250 ∧ (flowing .brine 350).softener.brineVolume = 350 + 250 ∧
      119 * 1000 / (flowing .brine 350).softener.k = 247 ∧ (flowing .rinse 2750).softener.rinseVolume = 2750 + 250 ∧
      ((flowing .rinse 2750).column (otherSide (regen1 .rinse).column)).state ≠ .exhausted :=
  ⟨.inr rfl, .inr rfl, by decide, by decide, by decide, by decide, by decide, by decide, by decide⟩

/-- The DETERGENT profile with its two curves; curve 0 valid or not. -/
def curved (valid : Bool) : State :=
  { withRole State.reset 2 .turbidity 620 with
    dosing.det.profile.contents := { DosingProfile.default with hardCurve := some 0, soilCurve := some 0 }
    chan.curves := State.reset.chan.curves.set 0 { contents := { points := curve4, valid := valid }, sound := true } }

theorem witness_DoseRule_factors :
    State.reset.inEffect .softener ∧ (State.reset.dosingProfile .det).hardCurve = none ∧
      ((curved true).dosingProfile .det).hardCurve = some 0 ∧ ((curved true).dosingProfile .det).soilCurve = some 0 ∧
      (curved true).fresh .turbidity = true ∧ State.reset.fresh .turbidity = false ∧
      (curved true).chan.curves[0].contents.valid = true ∧ (curved true).chan.curves[0].sound = true ∧
      (curved false).chan.curves[0].contents.valid = false ∧
      State.reset.inEffect (dosingProfileId .det) ∧
      strokesFor (State.reset.dosingProfile .det) (computeDose (State.reset.dosingProfile .det) 200 256 256) ≠ 0 ∧
      strokesFor { DosingProfile.default with dMin := 0 } (computeDose { DosingProfile.default with dMin := 0 } 0 256 256) = 0 ∧
      ({ State.reset with dosing.det.lowTold := true }.reservoir .det).lowTold = true ∧
      (State.reset.reservoir .det).estimate = 0 :=
  ⟨.inr rfl, rfl, by decide, by decide, by decide, by decide, by decide, by decide, by decide, .inr rfl, by decide, by decide,
    rfl, rfl⟩

theorem witness_BankSwapByMask_latch :
    (readMask 0 = none ∧ readMask 8 = none ∧ readMask 7 ≠ none ∧ 8 ≤ (8 : Byte).toNat) ∧
      (∀ p, goodLoads.inEffect p) ∧ goodLoads.trip.integrity = none ∧
      { goodLoads with trip.integrity := some { table := .load, bank := some .active, index := 3 } }.trip.integrity ≠ none :=
  ⟨by decide, fun p => .inr (by cases p <;> rfl), rfl, by decide⟩

theorem witness_ProfileWriteReplaces_badField :
    (List.replicate 13 (0 : Byte)).length ≠ 14 ∧ (List.replicate 58 (0 : Byte)).length ≤ 58 ∧
      readMachine (List.replicate 14 0xFF) = none ∧ readSoftener (List.replicate 19 0xFF) = none ∧
      readDosing (List.replicate 17 0xFF) = none ∧ 4 ≤ (4 : Byte).toNat ∧
      ({ State.reset with trip.integrity := some { table := .profile, bank := none, index := 0 } } : State).trip.integrity
        ≠ none := by decide

/-- RUN can start, with a SET move toward a side that waits or drives. -/
def moveWaits (m : Mode) (target : Side) (driving : Bool) : State :=
  { runnable with link.mode := m, soft.move := some (move1 .set target driving) }

theorem witness_SetModeChangesMode_units :
    3 ≤ (3 : Byte).toNat ∧
      ((moveWaits .standby .a false).ready ∧ (moveWaits .standby .a false).tablesReady = true ∧
        (moveWaits .standby .a false).soft.position = .a ∧ (moveWaits .standby .b false).soft.position ≠ .b) ∧
      ((moveWaits .run .b true).ready ∧ (moveWaits .run .b true).eng.state = .idle) ∧
      (pulsing .tub .none).ready ∧ (pulsing .tub .none).soft.pulse ≠ none ∧
      (State.reset.bus.tx = none ∧ ∀ i : Fin 16, State.reset.bus.poll[i].enabled = false) ∧
      ({ polled with link.mode := .standby }.bus.poll[15].enabled = true ∧
        ∀ j : Fin 16, j < 15 → { polled with link.mode := .standby }.bus.poll[j].enabled = false) ∧
      (inFlight (tx1 false true true)).bus.tx ≠ none ∧
      ({ flooded with link.mode := .standby, eng.state := .idle }.trip.latch = true ∧
        flooded.trip.record.reason = .flood) :=
  ⟨by decide, ⟨⟨rfl, rfl⟩, by decide, rfl, by decide⟩, ⟨⟨rfl, rfl⟩, rfl⟩, ⟨rfl, rfl⟩, by decide, ⟨rfl, by decide⟩,
    by decide, by decide, rfl, rfl⟩

theorem witness_CycleCancelDrainsOrEnds_suspended :
    ((suspended (cycle (.wash wash1) .hold) byDoor).ready ∧
      (suspended (cycle (.wash wash1) .hold) byDoor).eng.queue = record 11 (.wash wash1) :: [] ∧
      (suspended (cycle (.wash wash1) .hold) byDoor).eng.susp.door = true ∧ wash1.minTime ≠ 0) ∧
      ((suspended (cycle (.wash wash1) .fill) byHost).eng.susp.door = false ∧
        (suspended (cycle (.wash wash1) .fill) byHost).eng.susp.mains = false ∧
        (suspended (cycle (.wash wash1) .fill) byHost).fresh .tubLevel = false) ∧
      ((cycle (.drain drain1) .drain).ready ∧ (∀ f, (record 11 (.drain drain1)).body ≠ .dry f) ∧
        (cycle (.drain drain1) .drain).eng.head = some drainHead0 ∧ (cycle (.drain drain1) .drain).eng.state = .running) ∧
      ((suspended (cycle (.drain drain1) .drain) byDoor).ready ∧
        (suspended (cycle (.drain drain1) .drain) byDoor).eng.susp.door = true) :=
  ⟨⟨⟨rfl, rfl⟩, rfl, rfl, by decide⟩, ⟨rfl, rfl, by decide⟩, ⟨⟨rfl, rfl⟩, fun _ h => PhaseBody.noConfusion h, rfl, rfl⟩,
    ⟨rfl, rfl⟩, rfl⟩

theorem witness_PauseAndResume_returns :
    ((suspended (cycle (.wash wash1) .fill) byHost).ready ∧ (suspended (cycle (.wash wash1) .fill) byHost).eng.susp.door = false ∧
      (suspended (cycle (.wash wash1) .fill) byHost).washHead = some wash1 ∧
      (suspended (cycle (.wash wash1) .fill) byHost).dosing.dose = none) ∧
      (withRole (suspended (cycle (.wash wash1) .circulate) byHost) 0 .tubTemp 549).roleValue .tubTemp < wash1.setpoint ∧
      (suspended (cycle (.wash wash1) .hold) byHost).inEffect .machine ∧
      (10 : Int) < (withRole (suspended (cycle (.wash wash1) .drain) byHost) 1 .tubLevel 11).roleValue .tubLevel :=
  ⟨⟨⟨rfl, rfl⟩, rfl, rfl, rfl⟩, by decide, .inr rfl, by decide⟩

theorem witness_SnapshotsFillImage_badField : State.reset.ready ∧ ([0] : List Byte).length ≤ 59 := ⟨⟨rfl, rfl⟩, by decide⟩

def overtempCause : Cause := { reason := .overtemp, source := some 0, value := 850, lost := none }

/-- A trip by OVERTEMP at the bound, FLOOD at the bound, a LEAK, a loss under a cycle and under a grant, stray flow above
the limit, a damaged entry. -/
theorem witness_TripClearClearsLatch_causes :
    (inMode .run).link.mode ≠ .standby ∧ (inMode .run).trip.latch = false ∧ (latched (inMode .run)).trip.latch = true ∧
      State.reset.link.mode = .standby ∧ (inMode .run).inEffect .machine ∧
      ((inMode .run).machine.tripTemp : Int) ≤ (withRole (inMode .run) 0 .tubTemp 850).roleValue .tubTemp ∧
      ((inMode .run).machine.overfill : Int) ≤ (withRole (inMode .run) 1 .tubLevel 180).roleValue .tubLevel ∧
      (withRole (inMode .run) 9 .leak 0).bound .leak = some 9 ∧
      ((cycle (.wash wash1) .hold).underWay = true ∧ (cycle (.wash wash1) .hold).trip.lossOpen = false) ∧
      ((granted (powered (inMode .service)) .fan 0).link.mode = .service ∧
        (granted (powered (inMode .service)) .fan 0).isGranted .fan = true) ∧
      ({ inMode .run with soft.tLast := some 0 }.flowHandoff 97 .fresh).2 = .stray 202 ∧
      (({ inMode .run with arb.active := State.reset.arb.active.set 2 { loadE 35 0 1 false with sound := false } }.request
          .drainPump 0).requested .drainPump = true ∧
        (({ inMode .run with arb.active := State.reset.arb.active.set 2 { loadE 35 0 1 false with sound := false } }.request
          .drainPump 0).loadEntry .drainPump).sound = false) ∧
      overtempCause.reason ≠ .none :=
  ⟨by decide, rfl, rfl, rfl, .inr rfl, by decide, by decide, by decide, by decide, ⟨rfl, by decide⟩, by decide,
    by decide, by decide⟩

theorem witness_SoftResetKeepsAndClears_damaged :
    { filling with soft.profile.sound := false }.soft.profile.sound = false ∧
      { filling with soft.profile.sound := false }.serviceColumn = some .a ∧ Side.a ≠ (if false then .a else .b) := by decide

/-- A ring at a write position with so many samples. -/
def ringed (pos count : Nat) : SampleStore :=
  { SampleStore.empty with ring := List.replicate count sample1, writePos := pos, readPos := (pos + 64 - count) % 16 }

theorem witness_SamplesAndMisses_stores :
    (chanE 0 .turbidity .latest).contents.store = .latest ∧ (chanE 0 .turbidity .paired).contents.store = .paired ∧
      (chanE 0 .turbidity .ring16).contents.store = .ring16 ∧ (chanE 0 .turbidity .ring64).contents.store = .ring64 ∧
      (false || !{ (chanE 0 .turbidity .latest).contents with advanceValid := true }.advanceValid) = false ∧
      (true || !(chanE 0 .turbidity .latest).contents.advanceValid) = true ∧
      ((stored .ring16 (ringed 7 7)).chan.run[31].store.ring.length < 16 ∧
        (stored .ring16 (ringed 7 7)).chan.run[31].store.writePos + 1 = 16 / 2) ∧
      ((stored .ring16 (ringed 15 16)).chan.run[31].store.ring.length = 16 ∧
        (stored .ring16 (ringed 15 16)).chan.run[31].store.writePos + 1 = 16 ∧
        (ringed 15 16).writePos = ((ringed 15 16).readPos + (ringed 15 16).ring.length) % 16) ∧
      (withRole State.reset 0 .tubTemp 0).channelOf 1 0 = some 0 := by decide

/-- FILL with the volume and the level at a bound. -/
def filled (volume : Nat) (level : Int) : State := withRole { filling with soft.vFill := volume } 1 .tubLevel level

theorem witness_FillAndHeatTimeouts_ends :
    ((filled 4499 89).runningIn .fill = true ∧ (filled 4499 89).washHead = some wash1 ∧
      (filled 4499 89).soft.vFill < wash1.fillCap ∧ (filled 4499 89).roleValue .tubLevel < wash1.fillTarget) ∧
      (wash1.fillCap ≤ (filled 4500 89).soft.vFill ∧ (wash1.fillTarget : Int) ≤ (filled 0 90).roleValue .tubLevel ∧
        (filled 0 90).fresh .tubTemp = false ∧ wash1.setpoint ≠ 0 ∧ wash1.dose = none) ∧
      ((withRole (cycle (.wash wash1) .circulate) 0 .tubTemp 549).runningIn .circulate = true ∧
        (withRole (cycle (.wash wash1) .circulate) 0 .tubTemp 549).fresh .tubTemp = true ∧
        (withRole (cycle (.wash wash1) .circulate) 0 .tubTemp 549).roleValue .tubTemp < wash1.setpoint ∧
        (wash1.setpoint : Int) ≤ (withRole (cycle (.wash wash1) .circulate) 0 .tubTemp 550).roleValue .tubTemp ∧
        wash1.holdTime ≠ 0) ∧
      (heated { wash1 with dose := some .det, dosePoint := .atCirculate }).dosing.dose = none := by decide

def exit1 : PhaseTest := { subject := .role .turbidity, cond := .ge, threshold := 150 }

/-- HOLD with an exit test, at a hold timer and a turbidity. -/
def holding (timer : Nat) (turbidity : Int) : State :=
  withRole
    { cycle (.wash { wash1 with exitTest := some exit1 }) .hold with
      eng.head := some { StageRecord.start .hold 0 false with holdTimer := timer } }
    2 .turbidity turbidity

theorem witness_HoldTimersEndHold_exit :
    (holding 3000000 150).runningIn .hold = true ∧ (holding 3000000 150).washHead = some { wash1 with exitTest := some exit1 } ∧
      exit1.cond.holds ((holding 3000000 150).roleValue .turbidity) exit1.threshold = true ∧
      exit1.cond.holds ((holding 3000000 149).roleValue .turbidity) exit1.threshold = false ∧
      2999999 < wash1.minHold * 10000 ∧ exit1.subject ≠ .role .tubTemp ∧ wash1.exitTest = none ∧
      (holding 3000000 150).settled ∧ (holding 3000000 150).inEffect .machine :=
  ⟨by decide, by decide, by decide, by decide, by decide, by decide, rfl, rfl, .inr rfl⟩

/-- A drain that has ended with a record behind its head. -/
def drained (h : StageRecord) (body next : PhaseBody) (door : DoorState) : State :=
  { draining h body 10 with eng.queue := [record 11 body, record 12 next], door.state := door }

theorem witness_DrainTimersEndDrain_next :
    ((drained drainHead0 (.wash wash1) (.wash wash1) .latched).settled ∧
      (drained drainHead0 (.wash wash1) (.wash wash1) .latched).runningIn .drain = true ∧
      (drained drainHead0 (.wash wash1) (.wash wash1) .latched).drainHead = some drain1 ∧
      (drained drainHead0 (.wash wash1) (.wash wash1) .latched).fresh .tubLevel = true ∧
      (drained drainHead0 (.wash wash1) (.wash wash1) .latched).roleValue .tubLevel ≤ (drain1.endLevel : Int)) ∧
      (drained drainHead0 (.drain drain1) (.wash wash1) .open).door.state ≠ .latched ∧
      (drained drainHead0 (.wash wash1) (.drain drain1) .latched).door.state = .latched ∧
      ((drained drainHead0 (.drain drain1) (.dry dry1) .latched).coolEnough dry1 = false ∧ dry1.condenseMax ≠ 0) ∧
      (some extra1).map ExtraTest.maxRepeats = some { drainHead0 with captured := .true, repeats := 1 }.repeats :=
  ⟨⟨rfl, by decide, rfl, by decide, by decide⟩, by decide, rfl, by decide, rfl⟩

/-- A driving move while a FILL waits in SELECTING. -/
def fillWaits (m : SelectorMove) (route : Route) : State :=
  { moving m with soft.holder := .fill, soft.progress := .selecting, soft.flipTried := true, soft.route := route }

theorem witness_SelectorMovesEnd_fill :
    ((fillWaits (move1 .flip .b true) .tub).settled ∧ (fillWaits (move1 .flip .b true) .tub).soft.position ≠ .b ∧
      (fillWaits (move1 .flip .b true) .tub).soft.move = some (move1 .flip .b true) ∧
      (fillWaits (move1 .flip .b true) .tub).soft.pulse = none ∧
      ((fillWaits (move1 .flip .b true) .tub).column .b).state = .ready ∧
      (fillWaits (move1 .flip .b true) .tub).soft.saltLow = false ∧
      (fillWaits (move1 .flip .b true) .tub).inEffect .softener) ∧
      (fillWaits (move1 .set .b true) .unset).soft.route ≠ .tub ∧
      ((fillWaits (move1 .back .b true) .regen).travelRuns (move1 .back .b true) = true ∧
        (fillWaits (move1 .back .b true) .regen).soft.holder = .fill) :=
  ⟨⟨rfl, by decide, rfl, rfl, by decide, rfl, .inr rfl⟩, by decide, by decide, rfl⟩

/-- A DRY head with the latch released already. -/
def unlatched (s : State) : State := { s with door.latch := false, door.state := .closedUnlatched }

theorem witness_DoorSwitchesAndSettling_dry :
    ((suspended (cycle (.wash wash1) .hold) byHost).eng.state = .suspended ∧
      (suspended (cycle (.wash wash1) .hold) byHost).door.state = .latched) ∧
      ((drying .condense .new).settled ∧ (drying .condense .new).underWay = true ∧
        (drying .condense .new).dryHead = some dry1 ∧ (drying .condense .new).door.reading .latch ≠ false ∧
        (drying .condense .new).door.state = .latched ∧ dry1.ventTime ≠ 0) ∧
      ((unlatched (drying .condense .new)).door.state ≠ .latched ∧ (unlatched (drying .condense .new)).runningIn .condense = true) ∧
      ((unlatched (pushed 1)).pushing = true ∧ (unlatched (pushed 1)).door.reading .closed ≠ false ∧
        (unlatched (pushed 1)).door.dry = some (attempt 1 .pushing)) ∧
      ((unlatched (drying .opening (attempt 1 .resting))).pushing = false ∧
        (unlatched (drying .opening (attempt 1 .resting))).runningIn .opening = true) ∧
      ({ venting [] .ajarAuto with door.closed := false }.runningIn .vent = true ∧
        { venting [] .ajarAuto with door.closed := false }.door.reading .closed ≠ true ∧
        (venting [] .ajarAuto).eng.queue = [record 11 (.dry dry1)]) ∧
      (suspended (drying .vent .new) byHost).eng.state = .suspended :=
  ⟨⟨rfl, rfl⟩, ⟨rfl, by decide, rfl, by decide, rfl, by decide⟩, by decide, ⟨by decide, by decide, rfl⟩, by decide,
    ⟨by decide, by decide, rfl⟩, rfl⟩

theorem witness_GrantReportReachesOwner_more :
    ((reported (stroking { dose1 with done := 0 }) .doseDet).granted .doseDet = true ∧
      (reported (stroking { dose1 with done := 0 }) .doseDet).reservoirEmpty .det = false ∧
      { reported (stroking { dose1 with done := 0 }) .doseDet with dosing.det.lowTold := true }.reservoirEmpty .det = true) ∧
      ((reported (granted ((powered (inMode .service)).force .routeValve (some 1)) .routeValve 1) .routeValve).granted .routeValve
          = true ∧
        ((granted ((powered (inMode .service)).force .routeValve (some 1)) .routeValve 1).load .routeValve).forced ≠ none) ∧
      ((reported filling .inletValve).granted .inletValve = true ∧ (reported filling .inletValve).soft.holder = .fill) ∧
      ((flowing .brine 0).soft.holder = .regen ∧ (granted (flowing .brine 0) .brineValve 0).granted .brineValve = true ∧
        (flowing .brine 0).granted .brineValve = false) ∧
      ((reported (pushed 1) .doorActuator).runningIn .opening = true ∧
        (reported (pushed 1) .doorActuator).granted .doorActuator = true ∧
        (drying .opening (attempt 1 .pushing)).granted .doorActuator = false ∧ (attempt 1 .resting).attState = .resting) := by
  decide

theorem witness_ZeroCrossWatch_first :
    { State.reset with arb.zc.last := none }.arb.zc.last = none ∧ State.reset.settled ∧
      (watched .present 70 0 0).arb.zc.presence = .present ∧ (watched .unknown 70 0 0).arb.zc.presence ≠ .present :=
  ⟨rfl, rfl, rfl, by decide⟩

/-! ## The two receivers, and the further clauses of this sitting -/

/-- The reset state with a partial frame on the link, and the time since its last byte. -/
def partlyHeard (heard : List Byte) (timer : Nat) : State :=
  { State.reset with link.heard := heard, link.byteTimer := timer }

theorem witness_FramesAndRequestsAgree_late :
    (partlyHeard [0x5A, 2] 51).receiverOff = false ∧ (partlyHeard [0x5A, 2] 51).link.heard ≠ [] ∧
      50 < (partlyHeard [0x5A, 2] 51).link.byteTimer := by decide

/-- R191: a request whose SOF comes 5.1 ms after a partial frame is taken, though its LINK_BYTE_TIMEOUT waits still. -/
theorem test_late_byte :
    ((buildFrame 0x14 []).foldl State.hear
        { partlyHeard [0x5A, 2] 51 with pending := [.linkByteTimeout [0x5A, 2]] }).pending = [.pause []] := by decide

/-- An attempt that waits, with bytes heard. -/
def listening (heard : List Byte) (timer : Nat) : State :=
  { inFlight (tx1 true true true) with bus.heard := heard, bus.byteTimer := timer }

theorem witness_PollingTakesEntries_receiver :
    ((listening [] 0).bus.tx = some (tx1 true true true) ∧ (tx1 true true true).waiting = true ∧
      (listening [] 0).pending.any endsAttempt = false ∧ (0xC3 : Byte) ∉ [0x84, 0x00] ∧ endsReception response4 = true) ∧
      ((listening [0xC3, 0x84] 11).bus.heard ≠ [] ∧ 10 < (listening [0xC3, 0x84] 11).bus.byteTimer) ∧
      ∀ x, State.reset.bus.tx = some x → x.waiting = false :=
  ⟨⟨rfl, rfl, rfl, by decide, by decide⟩, by decide, fun _ h => nomatch h⟩

/-- R25: a response heard byte by byte after noise ends the attempt; a LEN above 65 ends reception at once. -/
theorem test_sump_receiver :
    (([0x00, 0xC3] ++ response4).foldl State.hearSump (listening [] 0)).pending = [.sumpFrameEnd response4] ∧
      ([0xC3, 0x84, 2, 66].foldl State.hearSump (listening [] 0)).pending = [.sumpFrameEnd [0x84, 2, 66]] ∧
      ((0xC3 :: response4).foldl State.hearSump (listening [0xC3, 0x84] 11)).pending = [.sumpFrameEnd response4] := by
  decide

/-- R53: the clock of a restored cycle stands until its return to RUNNING. -/
def heldCycle : State :=
  { suspended (cycle (.wash wash1) .hold) { SuspSet.empty with restored := true } with eng.totals.held := true }

theorem test_restored_clock :
    heldCycle.clockRuns = false ∧
      (after (.resume []) heldCycle).map (fun t => (t.clockRuns, t.eng.state)) = some (true, .running) := by decide

theorem witness_ClockAndStrokes_held :
    heldCycle.underWay = true ∧ heldCycle.eng.totals.held = true ∧ heldCycle.settled ∧
      (cycle (.wash wash1) .hold).eng.totals.held = false := ⟨by decide, rfl, rfl, rfl⟩

theorem witness_DoseRule_inFlight : (stroking dose1).dosing.dose = some dose1 ∧ State.reset.dosing.dose = none := ⟨rfl, rfl⟩

/-- A cycle whose suspension set has become empty. -/
def returning (s : State) : State := suspended s .empty

/-- A DRAIN head above its level, below it before the minimum time, and at both bounds. -/
theorem witness_PauseAndResume_drain :
    let s := fun level timer =>
      returning (draining { drainHead0 with drainTimer := timer } (.drain drain1) level)
    ((s 11 300000).eng.state = .suspended ∧ (s 11 300000).eng.susp.isEmpty = true ∧
      (s 11 300000).eng.queue = record 11 (.drain drain1) :: [] ∧
      (drain1.endLevel : Int) < (s 11 300000).roleValue .tubLevel ∧ (s 11 300000).dosing.dose = none) ∧
      299999 < drain1.minTime * 10000 ∧
      ((s 10 300000).fresh .tubLevel = true ∧ (s 10 300000).roleValue .tubLevel ≤ (drain1.endLevel : Int) ∧
        drain1.minTime * 10000 ≤ 300000 ∧ drainHead0.cancelling = false) := by decide

/-- A DRY head in each of its stages, with the door LATCHED or not. -/
theorem witness_PauseAndResume_dry :
    ((returning (drying .condense .new)).eng.state = .suspended ∧ (returning (drying .condense .new)).eng.susp.isEmpty = true ∧
      (returning (drying .condense .new)).eng.queue = record 11 (.dry dry1) :: [] ∧
      (returning (drying .condense .new)).eng.head = some (StageRecord.start .condense 0 false) ∧
      (returning (drying .condense .new)).door.dry = some .new ∧ (returning (drying .condense .new)).dosing.dose = none ∧
      (returning (drying .condense .new)).door.state = .latched ∧
      (returning (drying .condense .new)).coolEnough dry1 = false) ∧
      (withRole (returning (drying .condense .new)) 0 .tubTemp 450).coolEnough dry1 = true ∧
      ((attempt 1 .requested).attState = .requested ∧ (attempt 1 .resting).attState ≠ .requested) ∧
      ((unlatched (returning (drying .opening .new))).door.state ≠ .latched ∧ dry1.ventTime ≠ 0 ∧ dry1.fan = true) ∧
      (DryRecord.openedBy { DryRecord.new with openedBy := .user } = .user ∧
        (returning (drying .vent .new)).door.closed = true) ∧
      ¬((DryRecord.new.openedBy = .actuator ∨ DryRecord.new.openedBy = .user) ∧
        { returning (drying .vent .new) with door.closed := false }.door.closed = true) := by decide

/-- A paused dose with strokes to go, one with none, and one under a FILL. -/
theorem witness_PauseAndResume_dose :
    let s := { returning (cycle (.wash wash1) .hold) with dosing.dose := some { dose1 with state := .paused } }
    (s.eng.state = .suspended ∧ s.eng.susp.isEmpty = true ∧ s.inEffect .machine ∧
      s.eng.queue = record 11 (.wash wash1) :: [] ∧ s.eng.head = some (StageRecord.start .hold 0 false)) ∧
      (withRole (returning (cycle (.wash wash1) .circulate)) 0 .tubTemp 549).roleValue .tubTemp < wash1.setpoint ∧
      dose1.done < dose1.total ∧ { dose1 with done := 52 }.total ≤ { dose1 with done := 52 }.done ∧
      (returning (cycle (.wash wash1) .fill)).eng.head = some (StageRecord.start .fill 0 false) :=
  ⟨⟨rfl, rfl, .inr rfl, rfl, rfl⟩, by decide, by decide, by decide, rfl⟩

/-- TURBIDITY on channel 2 of satellite 1 with a limit, a curve and a mark of its entry. -/
def limited (sound curveSound : Bool) (value : Int) (misses : Nat) : State :=
  let e := (chanE 2 .turbidity .none).contents
  { withRole State.reset 2 .turbidity value with
    chan.active :=
      State.reset.chan.active.set 2 { contents := { e with curve := some 0, cond := .ge, limit := 300 }, sound := sound }
    chan.curves := State.reset.chan.curves.set 0 { contents := { points := curve4, valid := true }, sound := curveSound }
    chan.run :=
      State.reset.chan.run.set 2
        { ChannelRun.blank with freshness := .fresh, converted := value, filtered := value, misses := misses } }

/-- R9: raw 1000 on the worked curve is 330, above the limit of 300: CHANNEL_LIMIT carries the filtered value. -/
theorem test_channel_limit :
    ((limited true true 299 0).sample 1 2 1 1000).link.notices.map (fun n => (n.kind, n.subject, n.value))
      = [(.channelLimit, 2, 330)] := by decide

/-- The channel answers; its curve damaged, its entry damaged, the miss that reaches the stale limit of 3, no channel. -/
theorem witness_SamplesAndMisses_notices :
    ((limited true false 299 0).channelOf 1 2 = some 2 ∧ (limited true false 299 0).chan.active[2].sound = true ∧
      (limited true false 299 0).chan.active[2].contents.curve = some 0 ∧
      (limited true false 299 0).chan.curves[0].sound = false) ∧
      ((limited true true 299 0).channelOf 1 2 = some 2 ∧ (limited true true 299 0).chan.curves[0].sound = true ∧
        (limited true true 299 0).chan.active[2].contents.store = .none ∧
        (limited true true 299 0).runningIn .hold = false ∧ (limited true true 299 0).chan.run[2].limitActive = false) ∧
      ((limited true true 299 2).chan.run[2].freshness = .fresh ∧
        (limited true true 299 2).chan.active[2].contents.staleLimit ≤ min 15 ((limited true true 299 2).chan.run[2].misses + 1)) ∧
      ((limited false true 299 0).channelOf 1 2 = some 2 ∧ (limited false true 299 0).chan.active[2].sound = false) ∧
      State.reset.channelOf 1 2 = none := by decide

/-- R169: in STANDBY a report of INLET_FLOW restarts the flow-quiet timer of a set latch. -/
theorem witness_TripClearClearsLatch_standby :
    (latched State.reset).link.mode = .standby ∧ (latched State.reset).trip.latch = true ∧
      ({ overtempCause with reason := .inletFlow }.reason = .inletFlow) ∧ overtempCause.reason ≠ .inletFlow ∧
      State.reset.link.mode = .standby ∧ State.reset.trip.latch = false := by decide

/-- FULL and HALF granted to a requested HEATER; a crossing in PRESENT. -/
theorem witness_ZeroCrossWatch_pins :
    (State.reset.load .heater).grant = none ∧
      ((heated wash1).requested .heater = true ∧ ((heated wash1).load .heater).grant = some .full) ∧
      (((heated wash1).setGrant .heater (some .half)).requested .heater = true ∧
        (((heated wash1).setGrant .heater (some .half)).load .heater).grant = some .half) ∧
      ((watched .present 70 0 0).settled ∧ (watched .present 70 0 0).arb.zc.presence = .present ∧
        (watched .present 70 0 0).arb.zc.last = some (100000 - 70)) :=
  ⟨by decide, by decide, by decide, rfl, rfl, rfl⟩

/-! ## A dose point over a restored dose (log 61) -/

/-- A WASH head in CIRCULATE that doses at the setpoint, with a restored dose stroking. -/
def dosedTwice : State :=
  granted
    { powered (cycle (.wash { wash1 with dose := some .det, dosePoint := .atSetpoint }) .circulate) with
      dosing.dose := some { dose1 with done := 3 } }
    .doseDet 0

/-- R119, R123: the old dose ends with DOSE_SHORT, its grant is kept, and the new dose strokes at once. -/
theorem test_dose_over_dose :
    let t := (dosedTwice.enterHold { wash1 with dose := some .det, dosePoint := .atSetpoint } false).settle
    (t.dosing.dose.map (fun d => (d.state, d.done, d.dose)), t.granted .doseDet,
        t.link.notices.map (fun n => (n.kind, n.value)))
      = (some (.stroking, 0, 200), true, [(.doseShort, 3)]) := by decide

theorem witness_DoseRule_startDose :
    (dosedTwice.beginDose .det 200 11).granted (pumpOf .det) = true ∧
      (dosedTwice.beginDose .det 200 11).dosing.dose.map Dose.state = some .requested ∧
      (State.reset.beginDose .det 200 11).granted (pumpOf .det) = false ∧
      dosedTwice.eng.head.map StageRecord.doseBegun = some false ∧
      { wash1 with dose := some Reservoir.det }.dose = some .det := by decide

/-! ## The consumers of a sample, an evaluation's reports, the image and its restore -/

/-- RUN with a hold under way and a FRESH channel of a role. -/
def told (i : Fin 32) (role : Role) (value : Int) : State := withRole (cycle (.wash wash1) .hold) i role value

/-- A channel of each role that hands on a sample, in a HOLD and outside one, and the limit's bounds. -/
theorem witness_SamplesAndMisses_handOff :
    ((told 0 .tubTemp 500).channelOf 1 0 = some 0 ∧ (told 0 .tubTemp 500).chan.active[0].sound = true ∧
      (1 : Byte).getLsbD 0 = true ∧ (1 : Byte).getLsbD 1 = false ∧
      (told 0 .tubTemp 500).chan.active[0].contents.curve = none ∧ (told 0 .tubTemp 500).runningIn .hold = true ∧
      (inMode .run).runningIn .hold = false) ∧
      ([Role.tubTemp, .tubLevel, .turbidity, .conductivity, .flow, .leak, .saltLow, .detLow, .rinseLow, .general].all
        (fun r => decide ((told 5 r 1).channelOf 1 5 = some 5 ∧ (told 5 r 1).chan.active[5].contents.role = r))) = true ∧
      ((filling.flowHandoff 0 .noData).2 = .volume 0 ∧ (State.reset.flowHandoff 5 .noData).2 = .nothing ∧
        ({ inMode .run with soft.tLast := some 0 }.flowHandoff 97 .fresh).2 = .stray 202) ∧
      ((told 5 .leak 1).bound .leak = some 5 ∧ State.reset.bound .leak = none) ∧
      ({ ChannelEntry.blank with limit := -32768 }.limit = -32768 ∧ (32767 : Int) ≤ 32767) ∧
      ((limited true true 299 1).chan.run[2].misses = 1 ∧ ¬(3 ≤ min 15 (1 + 1)) ∧ 3 ≤ min 15 (2 + 1)) ∧
      (limited false true 299 0).chan.active[2].sound = false := by decide

/-- R18, R64: a TUB_TEMP sample at the setpoint, 550, turns the thermostat of HOLD OFF; R12: a FLOW limit of -2 is 65534. -/
theorem test_hand_off :
    (((told 0 .tubTemp 500).sample 1 0 1 500).eng.head.map StageRecord.thermostat = some true ∧
      ((told 0 .tubTemp 500).sample 1 0 1 550).eng.head.map StageRecord.thermostat = some false) ∧
      limitHolds { ChannelEntry.blank with role := .flow, cond := .ge, limit := -2 } 65533 = false ∧
      limitHolds { ChannelEntry.blank with role := .flow, cond := .ge, limit := -2 } 65534 = true := by decide

/-- DRAIN_PUMP and INLET_VALVE requested, each entry damaged or not. -/
def tabled (pump inlet : Bool) : State :=
  { ((powered (inMode .run)).request .drainPump 0).request .inletValve 0 with
    arb.active :=
      ((powered State.reset).arb.active.set 2 { loadE 35 0 1 false with sound := pump }).set 3
        { loadE 5 0 1 false with sound := inlet }
    arb.evalDue := true }

/-- SERVICE with FAN forced, nothing granted yet, and a role that misses have made STALE. -/
def firstForce (role : Role) : State :=
  let s := withRole (powered (inMode .service)) 0 role 0
  { s with
    chan.run := s.chan.run.set 0 { s.chan.run[0] with freshness := .stale }
    arb.loads := s.arb.loads.set 10 { s.arb.loads[10] with forced := some 0 }
    arb.evalDue := true }

theorem witness_EvaluationPlacesGrants_round :
    (State.reset.arb.evalDue = false ∧ inletDue.arb.evalDue = true) ∧
      ([(false, true), (true, false)].all (fun p =>
        decide ((tabled p.1 p.2).arb.evalDue = true ∧ (tabled p.1 p.2).link.mode ≠ .standby ∧
          (tabled p.1 p.2).trip.latch = false))) = true ∧
      ((tabled false true).requested .drainPump = true ∧ ((tabled false true).loadEntry .drainPump).sound = false) ∧
      ((tabled true false).requested .inletValve = true ∧ ((tabled true false).loadEntry .inletValve).sound = false ∧
        ((tabled true false).loadEntry .drainPump).sound = true) ∧
      ([Role.tubTemp, .tubLevel].all (fun r =>
        decide ((firstForce r).arb.evalDue = true ∧ (firstForce r).link.mode = .service ∧ (firstForce r).trip.latch = false ∧
          (firstForce r).noGrant = true ∧ (firstForce r).dropReleased.passes.isGranted .fan = true ∧
          (firstForce r).requested .drainPump = false ∧ (firstForce r).requested .inletValve = false ∧
          (firstForce r).roleFreshness r = .stale))) = true ∧
      (firstForce .tubLevel).roleFreshness .tubTemp = .noData := by decide

/-- R168, R169: the evaluation itself sets the latch; R149: a dose is told of its grant and strokes. -/
theorem test_round :
    (tabled false true).settle.trip.record.source = some 2 ∧ (tabled true false).settle.trip.record.source = some 3 ∧
      (firstForce .tubLevel).settle.trip.record.reason = .sensorLost ∧
      ({ (powered (cycle (.wash wash1) .hold)).request .doseDet 0 with
          dosing.dose := some { dose1 with state := .requested } }.settle.dosing.dose.map Dose.state) = some .stroking := by
  decide

/-- A trip that ends a regeneration and a dose. -/
theorem witness_TripClearClearsLatch_notices :
    { stroking dose1 with soft.regen := some (regen1 .brine) }.link.mode ≠ .standby ∧
      { stroking dose1 with soft.regen := some (regen1 .brine) }.trip.latch = false ∧
      { stroking dose1 with soft.regen := some (regen1 .brine) }.inEffect .softener ∧
      { stroking dose1 with soft.regen := some (regen1 .brine) }.dosing.dose = some dose1 ∧
      { stroking dose1 with soft.regen := some (regen1 .brine) }.soft.regen = some (regen1 .brine) ∧
      (inMode .run).dosing.dose = none := ⟨by decide, rfl, .inr rfl, rfl, rfl, rfl⟩

/-- Entries 3 and 9 in the due set while entry 15's transaction is under way. -/
def dueTwice (x : Transaction) : State :=
  let s := inFlight x
  { s with
    bus.run :=
      (s.bus.run.set 3 { due := none, inDueSet := true, outcome := .none }).set 9
        { due := none, inDueSet := true, outcome := .none } }

theorem witness_AttemptsEnd_next :
    ((dueTwice (tx1 true true true)).link.mode ≠ .standby ∧ (dueTwice (tx1 true true true)).bus.run[3].inDueSet = true ∧
      (∀ j : Fin 16, j < 3 → (dueTwice (tx1 true true true)).bus.run[j].inDueSet = false)) ∧
      (∀ j : Fin 16, (inFlight (tx1 true true true)).bus.run[j].inDueSet = false) ∧
      { inFlight (tx1 true false true) with link.mode := .standby }.link.mode = .standby := by decide

/-- R31: the lowest index is taken after a timeout, 9 stays due. -/
theorem test_next_entry :
    (after .sumpResponseTimeout (dueTwice (tx1 true true true))).map (fun t =>
        (t.bus.tx.map (fun x => x.entry.val), t.bus.run[3].inDueSet, t.bus.run[9].inDueSet))
      = some (some 3, false, true) := by decide

/-- A head whose image a snapshot takes: CIRCULATE with a paused dose, a regeneration, numbers in every field. -/
def snapped : State :=
  let s := suspended (cycle (.wash { wash1 with dose := some .det }) .circulate) byHost
  { s with
    eng.head := some { StageRecord.start .circulate 0 false with heatTimer := 300000, doseBegun := true, thermostat := true }
    eng.totals := { s.eng.totals with extraRinses := 2, doses := 3, clock := 70000 }
    dosing.dose := some { dose1 with state := .paused }
    dosing.det := { s.dosing.det with estimate := 90000 }
    soft.colA := { state := .service, cap := 3000, due := false, saltReduced := true }
    soft.colB := { state := .soak, cap := 10, due := false, saltReduced := false }
    soft.regen := some { regen1 .soak with soakTimer := 5000 }
    soft.rf := 7
    soft.rl := 9
    soft.vFill := 4200
    soft.u := 1032
    soft.route := .tub }

/-- STANDBY with records 0 to 14 of the image of a state staged. -/
def stagedFrom (s : State) : State :=
  { runnable with
    link.staging :=
      { records := (s.image 2).records.take 15
        phases := (s.eng.queue.map some ++ List.replicate 7 none).take 8 } }

/-- Record 15 of the image of a state, written onto the records before it. -/
def restored (s : State) : Option State :=
  after (.contextWrite (15 :: (((s.image 2).records[15]?).getD []))) (stagedFrom s)

/-- A DRY head in OPENING, between two attempts. -/
def dryImaged : State :=
  suspended (drying .opening { DryRecord.new with attempt := 1, attState := .resting, rest := 4000 }) byHost

theorem witness_ContextWrite_restored :
    ([snapped, dryImaged].all (fun s =>
      decide ((stagedFrom s).link.mode = .standby ∧ (stagedFrom s).eng.queue = [] ∧
        (stagedFrom s).link.staging.records.length = 15 ∧ (stagedFrom s).link.staging.consistent = true ∧
        imageSum (stagedFrom s).link.staging.records = wordAt (((s.image 2).records[15]?).getD []) 14 ∧
        (stagedFrom s).tablesReady = true ∧ (stagedFrom s).trip.latch = false ∧ (stagedFrom s).soft.move = none ∧
        byteAt ((stagedFrom s).link.staging.record 9) 0 ≠ 0))) = true ∧
      byteAt ((stagedFrom snapped).link.staging.record 12) 0 = 2 ∧
      byteAt ((stagedFrom dryImaged).link.staging.record 12) 0 = 0 ∧
      bitAt ((stagedFrom snapped).link.staging.record 13) 4 1 = true ∧
      bitAt ((stagedFrom dryImaged).link.staging.record 13) 4 1 = false ∧
      bitAt ((stagedFrom dryImaged).link.staging.record 14) 4 1 = false ∧
      (restored snapped).map (fun t => (t.trip.latch, t.dryHead)) = some (false, none) ∧
      (restored dryImaged).map (fun t => (t.trip.latch, t.dryHead)) = some (false, some dry1) := by decide

/-- R128, R183, R189: a restore of a snapshot's image brings the stage, the softener and the dose back. -/
theorem test_restore_of_a_snapshot :
    (restored snapped).map (fun t => (t.eng.head, t.soft.colA, t.soft.colB, t.soft.regen)) =
        some (snapped.eng.head, snapped.soft.colA, { snapped.soft.colB with due := true }, snapped.soft.regen) ∧
      (restored snapped).map (fun t => (t.soft.rf, t.soft.rl, t.soft.vFill, t.soft.u, t.soft.route)) =
        some (7, 9, 4200, 1032, .tub) ∧
      (restored snapped).map (fun t => (t.dosing.dose, t.dosing.det.estimate, t.eng.totals.doses)) =
        some (some { dose1 with state := .paused, dose := 0 }, 90000, 3) ∧
      (restored dryImaged).map (fun t => t.door.dry) = some dryImaged.door.dry := by decide

theorem witness_ImageHasSixteenRecords :
    (State.reset.eng.head = none ∧ State.reset.eng.queue[0]? = none ∧ State.reset.door.dry = none ∧
      State.reset.soft.regen = none ∧ State.reset.soft.pulse = none ∧ State.reset.dosing.dose = none) ∧
      (snapped.eng.head.isSome = true ∧ snapped.eng.queue[0]?.isSome = true ∧ snapped.soft.regen.isSome = true ∧
        snapped.dosing.dose = some { dose1 with state := .paused } ∧ dose1.reservoir = .det ∧ dose1.reservoir ≠ .rinse) ∧
      (dryImaged.eng.head.isSome = true ∧ (dryImaged.door.dry.map DryRecord.attempt) = some 1 ∧ 1 ≤ 3) ∧
      ((pulsing .tub .none).granted .routeValve = true ∧
        { inMode .run with soft.pulse := some { target := .tub, timer := 1 } }.granted .routeValve = false ∧ 0 < 1) ∧
      (snapped.eng.queue.head?.map PhaseRecord.tag) = some 11 ∧ (3 : Nat) < 8 ∧ (7 : Nat) < 8 := by decide

/-- A valid curve whose parity fails. -/
theorem witness_DoseRule_damagedCurve :
    let s := { curved true with chan.curves := (curved true).chan.curves.set 0 { (curved true).chan.curves[0] with sound := false } }
    s.chan.curves[0].contents.valid = true ∧ s.chan.curves[0].sound = false ∧ s.fresh .turbidity = true ∧
      (s.dosingProfile .det).hardCurve = some 0 ∧ (s.dosingProfile .det).soilCurve = some 0 := by decide

/-- R90, R179: a RESUME whose return ends a DRAIN record and starts the next FILL leaves the order to the free value. -/
theorem test_resume_into_fill :
    let s := suspended (draining { drainHead0 with drainTimer := 300000 } (.drain drain1) 10) byHost
    let s := { s with eng.queue := s.eng.queue ++ [record 12 (.wash wash1)], soft.hold.restored := true }
    s.resumeOrderOpen = true ∧ { s with soft.hold.restored := false }.resumeOrderOpen = false := by decide

end Sys2Proof.Tests
end

section
/-! ## The arithmetic of the channels: conditions, filter and curves (R3, R8, R16) -/

namespace Sys2Proof.Machine

/-! ### Condition codes and the filter -/

theorem condOfCode_eq_none {n : Nat} (h : 8 ≤ n) : condOfCode n = none :=
  List.getElem?_eq_none h

/-- The magnitude is shifted and the sign restored (R8). -/
theorem shiftToZero_eq_sign_mul (d : Int) (k : Nat) :
    shiftToZero d k = Int.sign d * ((d.natAbs / 2 ^ k : Nat) : Int) := by
  unfold shiftToZero
  split
  case isTrue hneg => rw [Int.sign_eq_neg_one_of_neg hneg, show (-d).toNat = d.natAbs by omega, Int.neg_one_mul]
  case isFalse hnn =>
    rw [show d.toNat = d.natAbs by omega]
    obtain rfl | hpos : d = 0 ∨ 0 < d := by omega
    · simp
    · rw [Int.sign_eq_one_of_pos hpos, Int.one_mul]

@[simp] theorem shiftToZero_zero (d : Int) : shiftToZero d 0 = d := by
  rw [shiftToZero_eq_sign_mul, Nat.pow_zero, Nat.div_one, Int.sign_mul_natAbs]

theorem shiftToZero_of_natAbs_lt {d : Int} {k : Nat} (h : d.natAbs < 2 ^ k) : shiftToZero d k = 0 := by
  rw [shiftToZero_eq_sign_mul, Nat.div_eq_of_lt h, Int.natCast_zero, Int.mul_zero]

/-- A shifted difference does not leave the span from 0 to the difference. -/
theorem shiftToZero_between (d : Int) (k : Nat) : min 0 d ≤ shiftToZero d k ∧ shiftToZero d k ≤ max 0 d := by
  unfold shiftToZero
  split
  case isTrue hneg =>
    have hle := Nat.div_le_self (-d).toNat (2 ^ k)
    generalize (-d).toNat / 2 ^ k = shifted at hle ⊢
    omega
  case isFalse hnn =>
    have hle := Nat.div_le_self d.toNat (2 ^ k)
    generalize d.toNat / 2 ^ k = shifted at hle ⊢
    omega

/-- The first sample after NO_DATA or STALE sets the filtered value (R8). -/
theorem filterStep_of_noData_or_stale {before : Freshness} (h : before = .noData ∨ before = .stale) (old conv : Int)
    (k : Nat) : filterStep before old conv k = conv := if_pos h

/-- Any other sample moves it by the shifted difference (R8). -/
theorem filterStep_of_ne {before : Freshness} (hn : before ≠ .noData) (hs : before ≠ .stale) (old conv : Int) (k : Nat) :
    filterStep before old conv k = old + shiftToZero (conv - old) k := if_neg (by simp [hn, hs])

/-- The filtered value follows the converted one exactly where nothing is shifted away. -/
@[simp] theorem filterStep_shift_zero (before : Freshness) (old conv : Int) : filterStep before old conv 0 = conv := by
  unfold filterStep
  split
  · rfl
  · rw [shiftToZero_zero]; omega

/-- No step of the filter overshoots. -/
theorem filterStep_between (before : Freshness) (old conv : Int) (k : Nat) :
    min old conv ≤ filterStep before old conv k ∧ filterStep before old conv k ≤ max old conv := by
  unfold filterStep
  split
  · omega
  · have hspan := shiftToZero_between (conv - old) k
    omega

/-- Settles O15: the table of the codes entry by entry, then the clauses of the filter from the lemmas above. -/
theorem conditionsAndFilter : Obligations.ConditionsAndFilter := by
  refine ⟨fun v t => ⟨rfl, rfl, rfl, rfl, rfl, rfl, rfl, rfl, fun n hn => condOfCode_eq_none hn⟩,
    fun before old conv k => ⟨?sets, ?moves, ?follows, ?stays, filterStep_between before old conv k⟩⟩
  case sets => exact fun h => filterStep_of_noData_or_stale h old conv k
  case moves => intro hn hs; rw [filterStep_of_ne hn hs, shiftToZero_eq_sign_mul]
  case follows => rintro rfl; exact filterStep_shift_zero before old conv
  case stays => intro hn hs hlt; rw [filterStep_of_ne hn hs, shiftToZero_of_natAbs_lt hlt, Int.add_zero]

/-! ### Curves -/

theorem clampInt_eq_self {lo hi x : Int} (hlo : lo ≤ x) (hhi : x ≤ hi) : clampInt lo hi x = x := by
  unfold clampInt; omega

/-- The check of R2 compares neighbours; by transitivity every two points are in order. -/
theorem pairwise_of_ascending {pts : List (Nat × Int)} (h : ascending pts = true) :
    pts.Pairwise (fun p q => p.1 < q.1) := by
  have hchain : pts.IsChain (fun p q => p.1 < q.1) := by
    induction pts using ascending.induct with
    | case1 => exact .nil
    | case2 p => exact .singleton p
    | case3 p q rest ih =>
      obtain ⟨hpq, hrest⟩ : p.1 < q.1 ∧ ascending (q :: rest) = true := by simpa [ascending] using h
      exact .cons_cons hpq (ih hrest)
  exact List.pairwise_map.mp ((List.isChain_map Prod.fst).mpr hchain).pairwise

theorem ascending_of_pointsValid {pts : List (Nat × Int)} (h : pointsValid pts = true) : ascending pts = true := by
  unfold pointsValid at h
  exact (Bool.and_eq_true_iff.mp h).2

/-- The quotient of a segment lies between 0 and the rise, as it is monotone in the way along the segment. -/
theorem tdiv_rise_between {way width : Int} (rise : Int) (h0 : 0 ≤ way) (hw : way < width) :
    min 0 rise ≤ (way * rise).tdiv width ∧ (way * rise).tdiv width ≤ max 0 rise := by
  have hpos : 0 < width := by omega
  have hend : (width * rise).tdiv width = rise := Int.mul_tdiv_cancel_left rise hpos.ne'
  have hstart : (0 * rise).tdiv width = 0 := by simp
  obtain hup | hdown := Int.le_total 0 rise
  · have hlo := Int.tdiv_le_tdiv hpos (Int.mul_le_mul_of_nonneg_right h0 hup)
    have hhi := Int.tdiv_le_tdiv hpos (Int.mul_le_mul_of_nonneg_right hw.le hup)
    omega
  · have hlo := Int.tdiv_le_tdiv hpos (Int.mul_le_mul_of_nonpos_right hw.le hdown)
    have hhi := Int.tdiv_le_tdiv hpos (Int.mul_le_mul_of_nonpos_right h0 hdown)
    omega

/-- The y values of a curve are 16-bit, which is why the sum of a segment never saturates (01 1.2). -/
def HasWordY (p : Nat × Int) : Prop := -32768 ≤ p.2 ∧ p.2 ≤ 32767

/-- On a segment the formula of R3 stays between the two y values, so it is not saturated. -/
theorem interpolate_on_segment {p q : Nat × Int} {x : Int} (hp : HasWordY p) (hq : HasWordY q) (hpx : (p.1 : Int) ≤ x)
    (hxq : x < q.1) :
    interpolate p q x = p.2 + Int.tdiv ((x - p.1) * (q.2 - p.2)) ((q.1 : Int) - p.1) ∧
      min p.2 q.2 ≤ interpolate p q x ∧ interpolate p q x ≤ max p.2 q.2 := by
  obtain ⟨hp0, hp1⟩ := hp
  obtain ⟨hq0, hq1⟩ := hq
  have hspan := tdiv_rise_between (way := x - p.1) (width := (q.1 : Int) - p.1) (q.2 - p.2) (by omega) (by omega)
  have hsum : interpolate p q x = p.2 + Int.tdiv ((x - p.1) * (q.2 - p.2)) ((q.1 : Int) - p.1) :=
    clampInt_eq_self (by omega) (by omega)
  omega

/-- The walk passes every point at or below x. -/
theorem walkCurve_skip {x : Int} {r : Nat × Int} (rest : List (Nat × Int)) (hr : (r.1 : Int) ≤ x)
    (front : List (Nat × Int)) (hfront : ∀ f ∈ front, (f.1 : Int) ≤ x) (p : Nat × Int) :
    walkCurve p x (front ++ r :: rest) = walkCurve r x rest := by
  induction front generalizing p with
  | nil => exact if_neg (by omega)
  | cons f fs ih =>
    have hf : (f.1 : Int) ≤ x := hfront f List.mem_cons_self
    calc walkCurve p x (f :: fs ++ r :: rest) = walkCurve f x (fs ++ r :: rest) := if_neg (by omega)
      _ = walkCurve r x rest := ih (fun g hg => hfront g (List.mem_cons_of_mem f hg)) f

/-- At its own x a point gives its y, whether a segment follows it or not. -/
theorem walkCurve_self {p : Nat × Int} {rest : List (Nat × Int)} (hasc : ∀ q ∈ rest, p.1 < q.1) (hp : HasWordY p) :
    walkCurve p p.1 rest = p.2 := by
  cases rest with
  | nil => rfl
  | cons q rest =>
    have hpq : p.1 < q.1 := hasc q List.mem_cons_self
    calc walkCurve p p.1 (q :: rest) = interpolate p q p.1 := if_pos (by omega)
      _ = saturate16 p.2 := by simp [interpolate]
      _ = p.2 := clampInt_eq_self hp.1 hp.2

/-- The curve is flat before its first point. -/
theorem evalPoints_of_le_first {p : Nat × Int} (rest : List (Nat × Int)) {x : Int} (h : x ≤ p.1) :
    evalPoints (p :: rest) x = p.2 :=
  if_pos (by unfold clampInt; omega)

/-- Evaluation at or behind a point goes on from that point: what stands before it has no say. -/
theorem evalPoints_of_point_le {front rest : List (Nat × Int)} {p : Nat × Int} {x : Int}
    (hasc : (front ++ p :: rest).Pairwise (fun a b => a.1 < b.1)) (hp : HasWordY p) (hp4095 : p.1 ≤ 4095)
    (hx : (p.1 : Int) ≤ x) :
    evalPoints (front ++ p :: rest) x = walkCurve p (clampInt 0 4095 x) rest := by
  have hclamp : (p.1 : Int) ≤ clampInt 0 4095 x := by unfold clampInt; omega
  obtain ⟨-, hrest, hfront⟩ := List.pairwise_append.mp hasc
  cases front with
  | nil =>
    by_cases hat : clampInt 0 4095 x ≤ p.1
    · have heq : clampInt 0 4095 x = p.1 := by omega
      rw [heq, walkCurve_self (List.pairwise_cons.mp hrest).1 hp]
      exact if_pos hat
    · exact if_neg hat
  | cons f fs =>
    have hlt : ∀ g ∈ f :: fs, (g.1 : Int) < p.1 := fun g hg => by exact_mod_cast hfront g hg p List.mem_cons_self
    have hf := hlt f List.mem_cons_self
    calc evalPoints (f :: fs ++ p :: rest) x = walkCurve f (clampInt 0 4095 x) (fs ++ p :: rest) := if_neg (by omega)
      _ = walkCurve p (clampInt 0 4095 x) rest :=
        walkCurve_skip rest hclamp fs (fun g hg => by have := hlt g (List.mem_cons_of_mem f hg); omega) f

/-- Settles O16: before the first point by R3's first case; everywhere else from the point at or below x, followed by
nothing or by a segment. -/
theorem curveEvaluation : Obligations.CurveEvaluation := by
  intro pts hvalid hrange
  have hasc := pairwise_of_ascending (ascending_of_pointsValid hvalid)
  refine ⟨?points, ?before, ?behind, ?segment⟩
  case points =>
    intro p hp
    obtain ⟨hx, hy⟩ := hrange p hp
    obtain ⟨front, rest, rfl⟩ := List.append_of_mem hp
    obtain ⟨-, hrest, -⟩ := List.pairwise_append.mp hasc
    rw [evalPoints_of_point_le hasc hy hx le_rfl, clampInt_eq_self (by omega) (by omega),
      walkCurve_self (List.pairwise_cons.mp hrest).1 hy]
  case before =>
    rintro p rest rfl x hx
    exact evalPoints_of_le_first rest hx
  case behind =>
    rintro p front rfl x hx
    obtain ⟨hp, hy⟩ := hrange p (by simp)
    rw [evalPoints_of_point_le hasc hy hp hx, walkCurve]
  case segment =>
    rintro front p q rest rfl x hpx hxq
    obtain ⟨hp, hpy⟩ := hrange p (by simp)
    obtain ⟨hq, hqy⟩ := hrange q (by simp)
    have heval : evalPoints (front ++ p :: q :: rest) x = interpolate p q x := by
      rw [evalPoints_of_point_le hasc hpy hp hpx, clampInt_eq_self (by omega) (by omega)]
      exact if_pos hxq
    rw [heval]
    exact interpolate_on_segment hpy hqy hpx hxq

end Sys2Proof.Machine
end

section
/-! ## The sump bus (02): what stays out of it, and the frames it sends (R24)

Only the operations of the bus controller write `State.bus`. One lemma for each operation of the other units says so, in
the order of the definitions. -/

namespace Sys2Proof.Machine

theorem State.bus_of_outer {s t : State} (h : t.outer = s.outer) : t.bus = s.bus := State.of_outer (fun u => u.bus) h

@[simp] theorem State.ite_bus (p : Prop) [Decidable p] (s t : State) :
    (if p then s else t).bus = if p then s.bus else t.bus := apply_ite State.bus p s t

theorem State.foldl_bus {α : Type} {f : State → α → State} (h : ∀ s a, (f s a).bus = s.bus) (l : List α) (s : State) :
    (l.foldl f s).bus = s.bus := by
  induction l generalizing s with
  | nil => rfl
  | cons a l ih => rw [List.foldl_cons, ih, h]

/-! ### Profiles and integrity -/

@[simp] theorem State.integrityError_bus (s : State) (t : TableId) (b : Option Bank) (i : Nat) :
    (s.integrityError t b i).bus = s.bus := State.bus_of_outer (State.outer_integrityError s t b i)

@[simp] theorem State.profileChanged_bus (s : State) (p : ProfileId) : (s.profileChanged p).bus = s.bus := by
  cases p with
  | machine => rfl
  | softener => rfl
  | det => exact State.setReservoir_bus ..
  | rinse => exact State.setReservoir_bus ..

@[simp] theorem State.useProfile_bus (s : State) (p : ProfileId) : (s.useProfile p).bus = s.bus := by
  simp [State.useProfile]

@[simp] theorem State.profileWritten_bus (s : State) (p : ProfileId) : (s.profileWritten p).bus = s.bus := by
  simp only [State.profileWritten]
  split <;> simp

@[simp] theorem State.checkProfile_bus (s : State) (p : ProfileId) : (s.checkProfile p).bus = s.bus := by
  simp [State.checkProfile]

@[simp] theorem State.checkEntry_bus (s : State) (sound : Bool) (t : TableId) (b : Bank) (i : Nat) :
    (s.checkEntry sound t b i).bus = s.bus := by simp [State.checkEntry]

/-! ### The softener unit -/

@[simp] theorem State.regenGiveBack_bus (s : State) : s.regenGiveBack.bus = s.bus :=
  State.bus_of_outer (State.outer_regenGiveBack s)

@[simp] theorem State.routeHolder_bus (s : State) : s.routeHolder.bus = s.bus :=
  State.bus_of_outer (State.outer_routeHolder s)

@[simp] theorem State.abortRegen_bus (s : State) : s.abortRegen.bus = s.bus :=
  State.bus_of_outer (State.outer_abortRegen s)

@[simp] theorem State.fillGiveBack_bus (s : State) : s.fillGiveBack.bus = s.bus :=
  State.bus_of_outer (State.outer_fillGiveBack s)

@[simp] theorem State.regenRequestPath_bus (s : State) : s.regenRequestPath.bus = s.bus := by
  unfold State.regenRequestPath
  split <;> simp [State.serveRegen]

@[simp] theorem State.startRegen_bus (s : State) (c : Side) : (s.startRegen c).bus = s.bus := by
  simp [State.startRegen]

@[simp] theorem State.autoCheck_bus (s : State) : s.autoCheck.bus = s.bus := by
  unfold State.autoCheck
  split <;> simp

@[simp] theorem State.brineEnd_bus (s : State) (r : Regen) : (s.brineEnd r).bus = s.bus := by simp [State.brineEnd]

@[simp] theorem State.soakEnd_bus (s : State) (r : Regen) : (s.soakEnd r).bus = s.bus := by simp [State.soakEnd]

@[simp] theorem State.rinseEnd_bus (s : State) (r : Regen) : (s.rinseEnd r).bus = s.bus := by simp [State.rinseEnd]

@[simp] theorem State.setHold_bus (s : State) (h : HoldSet) : (s.setHold h).bus = s.bus := by
  simp only [State.setHold]
  split
  · simp
  · split
    · split <;> simp
    · rfl

@[simp] theorem State.moveArrived_bus (s : State) (m : SelectorMove) : (s.moveArrived m).bus = s.bus := by
  unfold State.moveArrived
  split <;> simp [State.confirmFlip]

@[simp] theorem State.drive_bus (s : State) (m : SelectorMove) : (s.drive m).bus = s.bus := by simp [State.drive]

@[simp] theorem State.createMove_bus (s : State) (p : MovePurpose) (c : Side) : (s.createMove p c).bus = s.bus := by
  simp [State.createMove]

@[simp] theorem State.wakeMove_bus (s : State) : s.wakeMove.bus = s.bus := by
  unfold State.wakeMove
  split <;> simp

@[simp] theorem State.parkMove_bus (s : State) : s.parkMove.bus = s.bus := by
  unfold State.parkMove
  split <;> simp

@[simp] theorem State.judgeFlip_bus (s : State) : s.judgeFlip.bus = s.bus := by
  unfold State.judgeFlip
  split <;> simp

@[simp] theorem State.servePath_bus (s : State) : s.servePath.bus = s.bus := by
  unfold State.servePath
  split
  · rfl
  · split <;> simp

@[simp] theorem State.fillTake_bus (s : State) (m : RunMark) : (s.fillTake m).bus = s.bus := by
  cases m <;> simp [State.fillTake]

@[simp] theorem State.positionCheck_bus (s : State) : s.positionCheck.bus = s.bus := by
  unfold State.positionCheck
  split <;> simp

@[simp] theorem State.positionChange_bus (s : State) (c : Side) : (s.positionChange c).bus = s.bus := by
  simp only [State.positionChange]
  split <;> simp

@[simp] theorem State.travelTimeout_bus (s : State) (m : SelectorMove) : (s.travelTimeout m).bus = s.bus := by
  simp only [State.travelTimeout]
  split <;> simp

@[simp] theorem State.pulseEnd_bus (s : State) (p : RoutePulse) : (s.pulseEnd p).bus = s.bus := by simp [State.pulseEnd]

@[simp] theorem State.dropPulse_bus (s : State) : s.dropPulse.bus = s.bus := by
  unfold State.dropPulse
  split <;> simp

@[simp] theorem State.markFallback_bus (s : State) : s.markFallback.bus = s.bus := by simp [State.markFallback]

@[simp] theorem State.takeLoad_bus (s : State) (n : Nat) : (s.takeLoad n).bus = s.bus := by
  unfold State.takeLoad
  split <;> simp

@[simp] theorem State.fillAccount_bus (s : State) (v : Nat) : (s.fillAccount v).bus = s.bus := by simp [State.fillAccount]

@[simp] theorem State.regenAccount_bus (s : State) (v : Nat) : (s.regenAccount v).bus = s.bus := by
  unfold State.regenAccount
  split
  · rfl
  · simp only
    split <;> simp

@[simp] theorem State.strayAccount_bus (s : State) (v : Nat) : (s.strayAccount v).1.bus = s.bus := by
  simp only [State.strayAccount]
  split
  · rfl
  · split <;> simp

@[simp] theorem State.flowHandoff_bus (s : State) (n : Nat) (b : Freshness) : (s.flowHandoff n b).1.bus = s.bus := by
  simp only [State.flowHandoff]
  split
  · simp
  · split <;> simp

/-! ### The dosing unit -/

@[simp] theorem State.dropDose_bus (s : State) : s.dropDose.bus = s.bus := State.bus_of_outer (State.outer_dropDose s)

@[simp] theorem State.startStroke_bus (s : State) (d : Dose) : (s.startStroke d).bus = s.bus :=
  State.bus_of_outer (State.outer_startStroke s d)

@[simp] theorem State.dosingReport_bus (s : State) (r : Reservoir) : (s.dosingReport r).bus = s.bus :=
  State.bus_of_outer (State.outer_dosingReport s r)

@[simp] theorem State.abandonDose_bus (s : State) : s.abandonDose.bus = s.bus := by simp [State.abandonDose]

@[simp] theorem State.doseDone_bus (s : State) (r : Reservoir) (tag n : Nat) : (s.doseDone r tag n).bus = s.bus := by
  simp [State.doseDone, State.countDose]

@[simp] theorem State.doseEmpty_bus (s : State) (r : Reservoir) (tag : Nat) : (s.doseEmpty r tag).bus = s.bus := by
  simp [State.doseEmpty]

@[simp] theorem State.factor_bus (s : State) (r : Reservoir) (c : Nat) (x : Int) : (s.factor r c x).1.bus = s.bus := by
  unfold State.factor
  split
  · rfl
  · simp only
    split
    · rfl
    · split <;> simp

@[simp] theorem State.hardnessFactor_bus (s : State) (r : Reservoir) : (s.hardnessFactor r).1.bus = s.bus := by
  unfold State.hardnessFactor
  split <;> simp

@[simp] theorem State.soilFactor_bus (s : State) (r : Reservoir) (tag : Nat) : (s.soilFactor r tag).1.bus = s.bus := by
  unfold State.soilFactor
  split
  · rfl
  · split <;> simp

@[simp] theorem State.startDose_bus (s : State) (r : Reservoir) (d tag : Nat) : (s.startDose r d tag).bus = s.bus := by
  simp [State.startDose, State.beginDose]

@[simp] theorem State.strokeDone_bus (s : State) (d : Dose) : (s.strokeDone d).bus = s.bus := by simp [State.strokeDone]

@[simp] theorem State.doseStageChange_bus (s : State) : s.doseStageChange.bus = s.bus := by
  unfold State.doseStageChange
  split <;> simp

@[simp] theorem State.resumeDose_bus (s : State) : s.resumeDose.bus = s.bus := by
  unfold State.resumeDose
  split <;> simp

@[simp] theorem State.lowTold_bus (s : State) (r : Reservoir) (b : Bool) : (s.lowTold r b).bus = s.bus := by
  simp [State.lowTold, State.lowCorrection]

/-! ### The DRY phase -/

@[simp] theorem State.setStage_bus (s : State) (st : Stage) : (s.setStage st).bus = s.bus := rfl

@[simp] theorem State.enterVent_bus (s : State) (f : DryFields) : (s.enterVent f).1.bus = s.bus := by
  simp [State.enterVent]

@[simp] theorem State.openedByUser_bus (s : State) (f : DryFields) : (s.openedByUser f).1.bus = s.bus := by
  simp [State.openedByUser]

@[simp] theorem State.openedByActuator_bus (s : State) (f : DryFields) : (s.openedByActuator f).1.bus = s.bus := by
  simp [State.openedByActuator]

@[simp] theorem State.enterOpening_bus (s : State) : s.enterOpening.bus = s.bus := by simp [State.enterOpening]

@[simp] theorem State.enterCondense_bus (s : State) (f : DryFields) : (s.enterCondense f).1.bus = s.bus := by
  simp only [State.enterCondense]
  split
  · simp
  · split <;> simp

@[simp] theorem State.dropDry_bus (s : State) : s.dropDry.bus = s.bus := State.bus_of_outer (State.outer_dropDry s)

@[simp] theorem State.returnDry_bus (s : State) (f : DryFields) : (s.returnDry f).1.bus = s.bus := by
  simp only [State.returnDry]
  split
  · split
    · simp
    · split <;> simp
  · split
    · simp
    · split <;> simp
  · split <;> simp
  · rfl

@[simp] theorem State.attemptFailed_bus (s : State) (f : DryFields) (d : DryRecord) :
    (s.attemptFailed f d).1.bus = s.bus := by
  simp only [State.attemptFailed]
  split <;> simp

/-! ### The phase engine -/

@[simp] theorem State.setThermostat_bus (s : State) (b : Bool) : (s.setThermostat b).bus = s.bus := by
  simp [State.setThermostat]

@[simp] theorem State.enterDrain_bus (s : State) : s.enterDrain.bus = s.bus := by simp [State.enterDrain]

@[simp] theorem State.endHold_bus (s : State) (w : WashFields) : (s.endHold w).bus = s.bus := by simp [State.endHold]

@[simp] theorem State.reachDosePoint_bus (s : State) (w : WashFields) (p : DosePoint) :
    (s.reachDosePoint w p).bus = s.bus := by
  unfold State.reachDosePoint
  split <;> simp

@[simp] theorem State.enterHold_bus (s : State) (w : WashFields) (b : Bool) : (s.enterHold w b).bus = s.bus := by
  simp [State.enterHold]

@[simp] theorem State.circulateJudge_bus (s : State) (w : WashFields) : (s.circulateJudge w).bus = s.bus := by
  simp [State.circulateJudge]

@[simp] theorem State.endFill_bus (s : State) (w : WashFields) : (s.endFill w).bus = s.bus := by
  simp [State.endFill, State.enterCirculate]

@[simp] theorem State.requestFillPath_bus (s : State) : s.requestFillPath.bus = s.bus := by
  unfold State.requestFillPath
  split <;> simp

@[simp] theorem State.endCycle_bus (s : State) : s.endCycle.bus = s.bus := rfl

@[simp] theorem State.judgeStartDoor_bus (s : State) : s.judgeStartDoor.bus = s.bus := by simp [State.judgeStartDoor]

@[simp] theorem State.startHead_bus (s : State) : s.startHead.1.bus = s.bus := by
  unfold State.startHead
  split
  · rfl
  · split <;> simp

@[simp] theorem State.completeHead_bus (s : State) : s.completeHead.bus = s.bus := by
  unfold State.completeHead
  split <;> simp

@[simp] theorem State.finishPhase_bus (n : Nat) (s : State) : (State.finishPhase n s).bus = s.bus := by
  induction n generalizing s with
  | zero => rfl
  | succ n ih =>
    simp only [State.finishPhase]
    split <;> simp [ih]

@[simp] theorem finishIf_bus (r : State × Bool) : (finishIf r).bus = r.1.bus := by
  simp [finishIf, State.completePhase]

@[simp] theorem State.cancelEnd_bus (s : State) : s.cancelEnd.bus = s.bus := by simp [State.cancelEnd]

@[simp] theorem State.endDrain_bus (s : State) (h : StageRecord) : (s.endDrain h).bus = s.bus := by
  simp only [State.endDrain]
  split
  · simp
  · split <;> simp [State.completePhase]

@[simp] theorem State.judgeDrain_bus (s : State) : s.judgeDrain.bus = s.bus := by
  unfold State.judgeDrain
  split <;> simp

@[simp] theorem State.holdJudge_bus (s : State) (w : WashFields) : (s.holdJudge w).bus = s.bus := by simp [State.holdJudge]

@[simp] theorem State.engineTemp_bus (s : State) : s.engineTemp.bus = s.bus := by
  unfold State.engineTemp
  split <;> simp

@[simp] theorem State.engineTempLost_bus (s : State) : s.engineTempLost.bus = s.bus := by simp [State.engineTempLost]

@[simp] theorem State.engineLevel_bus (s : State) : s.engineLevel.bus = s.bus := by
  unfold State.engineLevel
  split
  · split <;> simp
  · simp

@[simp] theorem State.exitUpdate_bus (s : State) (hit : Subject → Bool) : (s.exitUpdate hit).bus = s.bus := by
  unfold State.exitUpdate
  split
  · split <;> simp
  · rfl

@[simp] theorem State.flagsUpdate_bus (s : State) (b : Byte) : (s.flagsUpdate b).bus = s.bus := by
  simp [State.flagsUpdate]

@[simp] theorem State.engineVolume_bus (s : State) (v : Nat) : (s.engineVolume v).bus = s.bus := by
  unfold State.engineVolume
  split <;> simp

@[simp] theorem State.leaveRunning_bus (s : State) : s.leaveRunning.bus = s.bus := by
  obtain ⟨-, -, -, hbus, -⟩ := s.leaveRunning_spec
  exact hbus

@[simp] theorem State.addReason_bus (s : State) (r : SuspReason) : (s.addReason r).bus = s.bus := by
  simp [State.addReason]

@[simp] theorem State.reenter_bus (s : State) : s.reenter.bus = s.bus := by
  unfold State.reenter
  split <;> simp

@[simp] theorem State.returnIfFree_bus (s : State) : s.returnIfFree.bus = s.bus := by simp [State.returnIfFree]

@[simp] theorem State.removeReason_bus (s : State) (r : SuspReason) : (s.removeReason r).bus = s.bus := by
  simp [State.removeReason]

@[simp] theorem State.doorDry_bus (s : State) (f : DryFields) (ajar opened shut left : Bool) :
    (s.doorDry f ajar opened shut left).bus = s.bus := by simp [State.doorDry]

@[simp] theorem State.doorWash_bus (s : State) (left : Bool) : (s.doorWash left).bus = s.bus := by simp [State.doorWash]

@[simp] theorem State.doorChange_bus (s : State) (sw : DoorSwitch) (b : Bool) : (s.doorChange sw b).bus = s.bus := by
  simp only [State.doorChange]
  split
  · rfl
  · split
    · rfl
    · cases decide (s.door.state = .latched)
      all_goals
        simp only [Bool.false_eq_true, ↓reduceIte]
        split
        · split <;> simp
        · simp

/-! ### The trip unit -/

@[simp] theorem State.tripCause_bus (s : State) (c : Cause) : (s.tripCause c).bus = s.bus :=
  State.bus_of_outer (State.outer_tripCause s c)

@[simp] theorem State.judgeSensorsNow_bus (s : State) : s.judgeSensorsNow.bus = s.bus :=
  State.bus_of_outer (State.outer_judgeSensorsNow s)

@[simp] theorem State.judgeOvertemp_bus (s : State) : s.judgeOvertemp.bus = s.bus := by simp [State.judgeOvertemp]

@[simp] theorem State.judgeOverfill_bus (s : State) : s.judgeOverfill.bus = s.bus := by simp [State.judgeOverfill]

@[simp] theorem State.leakChange_bus (s : State) (b : Bool) : (s.leakChange b).bus = s.bus := by simp [State.leakChange]

@[simp] theorem State.judgeLeak_bus (s : State) : s.judgeLeak.bus = s.bus := by simp [State.judgeLeak]

@[simp] theorem State.beginLosses_bus (s : State) : s.beginLosses.bus = s.bus := rfl

@[simp] theorem State.judgeLoss_bus (s : State) (r : Role) (o : Option Nat) (v : Int) : (s.judgeLoss r o v).bus = s.bus := by
  simp [State.judgeLoss]

@[simp] theorem State.renewFlood_bus (s : State) : s.renewFlood.bus = s.bus := by simp [State.renewFlood]

@[simp] theorem State.tripClear_bus (s : State) : s.tripClear.bus = s.bus := by simp [State.tripClear]

@[simp] theorem State.drainTimeoutJudge_bus (s : State) (d : DrainFields) : (s.drainTimeoutJudge d).bus = s.bus := by
  simp [State.drainTimeoutJudge]

/-! ### The arbiter's reports and the mains watch -/

@[simp] theorem State.ownerReport_bus (s : State) (l : LoadId) : (s.ownerReport l).bus = s.bus :=
  State.bus_of_outer (State.outer_ownerReport s l)

@[simp] theorem State.mainsLost_bus (s : State) : s.mainsLost.bus = s.bus := by
  simp only [State.mainsLost, State.markEval_bus, State.post_bus]
  exact State.foldl_bus (fun t l => State.setGrant_bus t l none) allLoads s

@[simp] theorem State.mainsPresent_bus (s : State) : s.mainsPresent.bus = s.bus := by simp [State.mainsPresent]

@[simp] theorem State.acceptCrossing_bus (s : State) (g : Option Nat) : (s.acceptCrossing g).bus = s.bus := by
  simp only [State.acceptCrossing]
  split <;> simp

@[simp] theorem State.zeroCross_bus (s : State) : s.zeroCross.bus = s.bus := by
  unfold State.zeroCross
  split <;> simp

@[simp] theorem State.missCrossing_bus (s : State) : s.missCrossing.bus = s.bus := by
  simp only [State.missCrossing]
  split <;> simp

/-! ### Samples and misses -/

@[simp] theorem State.storeRing_bus (s : State) (i : Fin 32) (n : Nat) (b : Bool) (x : Sample) :
    (s.storeRing i n b x).bus = s.bus := by
  simp only [State.storeRing]
  split
  · split <;> simp
  · simp

@[simp] theorem State.storeSample_bus (s : State) (i : Fin 32) (e : ChannelEntry) (b : Bool) (f : Byte) :
    (s.storeSample i e b f).bus = s.bus := by
  simp only [State.storeSample]
  split <;> simp

@[simp] theorem State.tellSwitch_bus (s : State) (r : Role) : (s.tellSwitch r).bus = s.bus := by
  simp only [State.tellSwitch]
  split <;> simp

@[simp] theorem State.tellLost_bus (s : State) (r : Role) (b : Freshness) (o : Option Nat) (v : Int) :
    (s.tellLost r b o v).bus = s.bus := by
  unfold State.tellLost
  split <;> simp

@[simp] theorem State.flowHand_bus (s : State) (n : Nat) (b : Freshness) : (s.flowHand n b).bus = s.bus := by
  simp only [State.flowHand]
  split <;> simp

@[simp] theorem State.updateIf_bus (s : State) (b : Bool) (r : Role) : (s.updateIf b r).bus = s.bus := by
  simp [State.updateIf, State.roleUpdate]

@[simp] theorem State.handOff_bus (s : State) (r : Role) (n : Nat) (b : Freshness) : (s.handOff r n b).bus = s.bus := by
  simp only [State.handOff]
  split <;> simp

@[simp] theorem State.faultChannel_bus (s : State) (i : Fin 32) : (s.faultChannel i).bus = s.bus := by
  simp [State.faultChannel]

@[simp] theorem State.countMiss_bus (s : State) (i : Fin 32) : (s.countMiss i).bus = s.bus := by simp [State.countMiss]

@[simp] theorem State.miss_bus (s : State) (sat ch : Nat) : (s.miss sat ch).bus = s.bus := by
  unfold State.miss
  split <;> simp

@[simp] theorem State.convert_bus (s : State) (i : Fin 32) (e : ChannelEntry) (raw : Int) :
    (s.convert i e raw).1.bus = s.bus := by
  unfold State.convert
  split
  · rfl
  · split
    · rfl
    · split <;> simp

@[simp] theorem State.judgeLimit_bus (s : State) (i : Fin 32) (e : ChannelEntry) : (s.judgeLimit i e).bus = s.bus := by
  simp [State.judgeLimit]

@[simp] theorem State.takeValues_bus (s : State) (i : Fin 32) (e : ChannelEntry) (n : Nat) :
    (s.takeValues i e n).bus = s.bus := by simp [State.takeValues]

@[simp] theorem State.sample_bus (s : State) (sat ch : Nat) (f : Byte) (n : Nat) : (s.sample sat ch f n).bus = s.bus := by
  unfold State.sample
  split <;> simp [State.validSample, State.faultySample]

/-! ### Swaps and the parts of a restore -/

@[simp] theorem State.swapIntegrity_bus (s : State) (m : SwapMask) : (s.swapIntegrity m).bus = s.bus := by
  unfold State.swapIntegrity
  split <;> simp

@[simp] theorem State.tellSwap_bus (old s : State) (r : Role) : (State.tellSwap old s r).bus = s.bus := by
  simp only [State.tellSwap]
  split <;> simp

@[simp] theorem State.swap_bus (s : State) (m : SwapMask) : (s.swap m).bus = s.bus := by
  simp [State.swap, State.foldl_bus (State.tellSwap_bus s)]

@[simp] theorem State.loadHead_bus (s : State) (r9 : List Byte) (st : Stage) : (s.loadHead r9 st).bus = s.bus := by
  simp only [State.loadHead]
  split <;> simp

@[simp] theorem State.loadReservoir_bus (s : State) (r : Reservoir) (x : List Byte) :
    (s.loadReservoir r x).bus = s.bus := by simp [State.loadReservoir]

@[simp] theorem State.loadDose_bus (s : State) (r : Reservoir) (x : List Byte) : (s.loadDose r x).bus = s.bus := by
  simp [State.loadDose]

@[simp] theorem State.restoreMove_bus (s : State) : s.restoreMove.bus = s.bus := by
  unfold State.restoreMove
  split <;> simp

@[simp] theorem State.restoreSensors_bus (s : State) (b : Bool) : (s.restoreSensors b).bus = s.bus := by
  simp [State.restoreSensors]

end Sys2Proof.Machine
end

section
/-! ### The events of the timers, the switches and the mains -/

namespace Sys2Proof.Machine

@[simp] theorem State.tagTick_bus (s : State) : s.tagTick.bus = s.bus := rfl

@[simp] theorem State.clockTick_bus (s : State) : s.clockTick.bus = s.bus := by simp [State.clockTick]

@[simp] theorem State.fillStall_bus (s : State) : s.fillStall.bus = s.bus := by simp [State.fillStall]

@[simp] theorem State.setpointMiss_bus (s : State) : s.setpointMiss.bus = s.bus := by
  unfold State.setpointMiss
  split <;> simp

@[simp] theorem State.minimumHold_bus (s : State) : s.minimumHold.bus = s.bus := by
  unfold State.minimumHold
  split <;> simp

@[simp] theorem State.holdExpiry_bus (s : State) : s.holdExpiry.bus = s.bus := by
  unfold State.holdExpiry
  split <;> simp

@[simp] theorem State.drainMinimum_bus (s : State) : s.drainMinimum.bus = s.bus := by
  unfold State.drainMinimum
  split <;> simp

@[simp] theorem State.drainExpiry_bus (s : State) : s.drainExpiry.bus = s.bus := by
  unfold State.drainExpiry
  split <;> simp

@[simp] theorem State.strokeExpiry_bus (s : State) : s.strokeExpiry.bus = s.bus := by
  unfold State.strokeExpiry
  split <;> simp

@[simp] theorem State.selectorReading_bus (s : State) (c : Side) : (s.selectorReading c).bus = s.bus := by
  simp [State.selectorReading]

@[simp] theorem State.travelExpiry_bus (s : State) : s.travelExpiry.bus = s.bus := by
  unfold State.travelExpiry
  split <;> simp

@[simp] theorem State.pulseExpiry_bus (s : State) : s.pulseExpiry.bus = s.bus := by
  unfold State.pulseExpiry
  split <;> simp

@[simp] theorem State.soakExpiry_bus (s : State) : s.soakExpiry.bus = s.bus := by
  unfold State.soakExpiry
  split <;> simp

@[simp] theorem State.settleExpiry_bus (s : State) : s.settleExpiry.bus = s.bus := by simp [State.settleExpiry]

@[simp] theorem State.condenseExpiry_bus (s : State) : s.condenseExpiry.bus = s.bus := by
  unfold State.condenseExpiry
  split <;> simp

@[simp] theorem State.windowExpiry_bus (s : State) : s.windowExpiry.bus = s.bus := by
  unfold State.windowExpiry
  split <;> simp

@[simp] theorem State.restExpiry_bus (s : State) : s.restExpiry.bus = s.bus := by simp [State.restExpiry]

@[simp] theorem State.ventExpiry_bus (s : State) : s.ventExpiry.bus = s.bus := by simp [State.ventExpiry]

@[simp] theorem State.takeReport_bus (s : State) (l : LoadId) : (s.takeReport l).bus = s.bus := by
  simp [State.takeReport]

/-! ### The requests of the appliance link -/

@[simp] theorem refuse_state (s : State) (st : Status) : (refuse s st).state = s := rfl
@[simp] theorem refuseWith_state (s : State) (st : Status) (p : List Byte) : (refuseWith s st p).state = s := rfl
@[simp] theorem accept_state (s : State) (f : State → List Byte) : (accept s f).state = s := rfl
@[simp] theorem acceptWith_state (s : State) (p : List Byte) : (acceptWith s p).state = s := rfl
@[simp] theorem acceptBare_state (s : State) : (acceptBare s).state = s := rfl

@[simp] theorem Verdict.ite_state (p : Prop) [Decidable p] (v w : Verdict) :
    (if p then v else w).state = if p then v.state else w.state := apply_ite Verdict.state p v w

@[simp] theorem Verdict.answer_bus (v : Verdict) (code : Byte) : (v.answer code).bus = v.state.bus := by
  rw [Verdict.answer_eq, State.respond_bus, State.settle_bus]

/-- A request whose verdict keeps the bus keeps it, lost or answered. -/
@[simp] theorem State.handle_bus (s : State) (code : Byte) (p : List Byte) (judge : State → Verdict)
    (h : (judge s).state.bus = s.bus) : (s.handle code p judge).bus = s.bus := by
  unfold State.handle
  split <;> simp [h]

@[simp] theorem judgeWriteChannel_bus (p : List Byte) (s : State) : (judgeWriteChannel p s).state.bus = s.bus := by
  unfold judgeWriteChannel
  repeat' split
  all_goals rfl

@[simp] theorem judgeReadChannel_bus (p : List Byte) (s : State) : (judgeReadChannel p s).state.bus = s.bus := by
  unfold judgeReadChannel
  repeat' split
  all_goals simp

@[simp] theorem judgeWriteCurve_bus (p : List Byte) (s : State) : (judgeWriteCurve p s).state.bus = s.bus := by
  unfold judgeWriteCurve
  repeat' split
  all_goals rfl

@[simp] theorem judgeReadCurve_bus (p : List Byte) (s : State) : (judgeReadCurve p s).state.bus = s.bus := by
  unfold judgeReadCurve
  repeat' split
  all_goals simp

@[simp] theorem judgeReadPollList_bus (p : List Byte) (s : State) : (judgeReadPollList p s).state.bus = s.bus := by
  unfold judgeReadPollList
  repeat' split
  all_goals rfl

@[simp] theorem judgeWriteLoad_bus (p : List Byte) (s : State) : (judgeWriteLoad p s).state.bus = s.bus := by
  unfold judgeWriteLoad
  repeat' split
  all_goals rfl

@[simp] theorem judgeReadLoad_bus (p : List Byte) (s : State) : (judgeReadLoad p s).state.bus = s.bus := by
  unfold judgeReadLoad
  repeat' split
  all_goals simp

@[simp] theorem judgeBankSwap_bus (p : List Byte) (s : State) : (judgeBankSwap p s).state.bus = s.bus := by
  unfold judgeBankSwap
  repeat' split
  all_goals simp

@[simp] theorem judgeWriteMachine_bus (p : List Byte) (s : State) : (judgeWriteMachine p s).state.bus = s.bus := by
  unfold judgeWriteMachine
  repeat' split
  all_goals simp [State.writeMachine]

@[simp] theorem judgeReadMachine_bus (p : List Byte) (s : State) : (judgeReadMachine p s).state.bus = s.bus := by
  unfold judgeReadMachine
  repeat' split
  all_goals simp

@[simp] theorem judgeWriteSoftener_bus (p : List Byte) (s : State) : (judgeWriteSoftener p s).state.bus = s.bus := by
  unfold judgeWriteSoftener
  repeat' split
  all_goals simp [State.writeSoftener]

@[simp] theorem judgeReadSoftener_bus (p : List Byte) (s : State) : (judgeReadSoftener p s).state.bus = s.bus := by
  unfold judgeReadSoftener
  repeat' split
  all_goals simp

@[simp] theorem judgeWriteDosing_bus (p : List Byte) (s : State) : (judgeWriteDosing p s).state.bus = s.bus := by
  unfold judgeWriteDosing
  repeat' split
  all_goals simp [State.writeDosing]

@[simp] theorem judgeReadDosing_bus (p : List Byte) (s : State) : (judgeReadDosing p s).state.bus = s.bus := by
  unfold judgeReadDosing
  repeat' split
  all_goals simp

@[simp] theorem judgePhaseSubmit_bus (p : List Byte) (s : State) : (judgePhaseSubmit p s).state.bus = s.bus := by
  have submitted : ∀ r, (s.submit r).bus = s.bus := fun r => by
    simp only [State.submit, State.useMaximum]
    split <;> simp
  unfold judgePhaseSubmit
  repeat' split
  all_goals simp [submitted]

@[simp] theorem judgePhaseWithdraw_bus (p : List Byte) (s : State) : (judgePhaseWithdraw p s).state.bus = s.bus := by
  unfold judgePhaseWithdraw
  repeat' split
  all_goals rfl

@[simp] theorem judgeCycleStart_bus (p : List Byte) (s : State) : (judgeCycleStart p s).state.bus = s.bus := by
  simp [judgeCycleStart, State.startCycle]

@[simp] theorem State.cancelStage_bus (s : State) (h : StageRecord) : (s.cancelStage h).bus = s.bus := by
  unfold State.cancelStage
  split <;> simp

@[simp] theorem State.cancelCycle_bus (s : State) (h : StageRecord) : (s.cancelCycle h).bus = s.bus := by
  simp only [State.cancelCycle]
  split <;> simp

@[simp] theorem judgeCycleCancel_bus (p : List Byte) (s : State) : (judgeCycleCancel p s).state.bus = s.bus := by
  unfold judgeCycleCancel
  repeat' split
  all_goals simp

@[simp] theorem judgePause_bus (p : List Byte) (s : State) : (judgePause p s).state.bus = s.bus := by simp [judgePause]

@[simp] theorem judgeResume_bus (p : List Byte) (s : State) : (judgeResume p s).state.bus = s.bus := by
  simp [judgeResume, State.resume, State.resumeEngine, State.resumeSoftener]

@[simp] theorem judgeFlags_bus (p : List Byte) (s : State) : (judgeFlags p s).state.bus = s.bus := by
  unfold judgeFlags
  split <;> simp

@[simp] theorem judgeBudget_bus (p : List Byte) (s : State) : (judgeBudget p s).state.bus = s.bus := by
  unfold judgeBudget
  split <;> rfl

@[simp] theorem judgeForce_bus (on : Bool) (p : List Byte) (s : State) : (judgeForce on p s).state.bus = s.bus := by
  unfold judgeForce
  repeat' split
  all_goals rfl

@[simp] theorem State.writeColumn_bus (s : State) (c : Side) (st : ColumnState) (cap : Nat) :
    (s.writeColumn c st cap).bus = s.bus := by simp [State.writeColumn]

@[simp] theorem State.alignColumn_bus (s : State) (c : Side) (st : ColumnState) : (s.alignColumn c st).bus = s.bus := by
  unfold State.alignColumn
  split <;> simp

@[simp] theorem judgeColumnSet_bus (p : List Byte) (s : State) : (judgeColumnSet p s).state.bus = s.bus := by
  unfold judgeColumnSet
  repeat' split
  all_goals simp [State.columnSet]

@[simp] theorem judgeRegenStart_bus (p : List Byte) (s : State) : (judgeRegenStart p s).state.bus = s.bus := by
  unfold judgeRegenStart
  repeat' split
  all_goals simp

@[simp] theorem judgeReservoirAdjust_bus (p : List Byte) (s : State) : (judgeReservoirAdjust p s).state.bus = s.bus := by
  unfold judgeReservoirAdjust
  repeat' split
  all_goals simp [State.adjust]

@[simp] theorem judgeStatusRead_bus (p : List Byte) (s : State) : (judgeStatusRead p s).state.bus = s.bus := by
  unfold judgeStatusRead
  repeat' split
  all_goals rfl

@[simp] theorem judgeStatusWrite_bus (p : List Byte) (s : State) : (judgeStatusWrite p s).state.bus = s.bus := by
  unfold judgeStatusWrite
  repeat' split
  all_goals rfl

@[simp] theorem judgeChannelRead_bus (p : List Byte) (s : State) : (judgeChannelRead p s).state.bus = s.bus := by
  unfold judgeChannelRead
  repeat' split
  all_goals rfl

@[simp] theorem judgeSamplesRead_bus (p : List Byte) (s : State) : (judgeSamplesRead p s).state.bus = s.bus := by
  unfold judgeSamplesRead
  repeat' split
  all_goals rfl

@[simp] theorem judgeNoticeRead_bus (p : List Byte) (s : State) : (judgeNoticeRead p s).state.bus = s.bus := by
  simp [judgeNoticeRead, State.takeNotices]

@[simp] theorem judgeContextSnap_bus (p : List Byte) (s : State) : (judgeContextSnap p s).state.bus = s.bus := by
  simp [judgeContextSnap]

@[simp] theorem judgeContextRead_bus (p : List Byte) (s : State) : (judgeContextRead p s).state.bus = s.bus := by
  unfold judgeContextRead
  repeat' split
  all_goals rfl

@[simp] theorem judgeTripRead_bus (p : List Byte) (s : State) : (judgeTripRead p s).state.bus = s.bus := by
  simp [judgeTripRead]

@[simp] theorem judgeTripClear_bus (p : List Byte) (s : State) : (judgeTripClear p s).state.bus = s.bus := by
  simp [judgeTripClear, State.useForClear]

@[simp] theorem judgeSync_bus (p : List Byte) (s : State) : (judgeSync p s).state.bus = s.bus := by
  unfold judgeSync
  repeat' split
  all_goals rfl

@[simp] theorem judgeReset_bus (p : List Byte) (s : State) : (judgeReset p s).state.bus = s.bus := by simp [judgeReset]

end Sys2Proof.Machine
end

section
/-! ### What the bus controller sends (R24)

`State.sendsOnlyPolls` relates the states before and after a command. It goes through each operation of the controller
that ends in `State.takeIfFree`, through a retry, and past everything that leaves the bus alone. -/

namespace Sys2Proof.Machine

/-! #### The poll frame -/

/-- The check byte makes the 8-bit sum 0. -/
theorem sum8_append_checkByte (l : List Byte) : sum8 (l ++ [checkByte l]) = 0 := by
  calc sum8 (l ++ [checkByte l]) = sum8 l + checkByte l := List.foldl_append
    _ = 0 := BitVec.add_right_neg _

/-- Behind SYNC the bytes of a poll frame are its body and the check byte of the body. -/
theorem sum8_pollFrame (satellite : Nat) (mask : Half) : sum8 ((pollFrame satellite mask).drop 1) = 0 :=
  sum8_append_checkByte ([BitVec.ofNat 8 satellite, 1, 2] ++ u16 mask.toNat)

/-- The address of a poll is below 0x80, the bit that marks a response (R24, R26). -/
theorem msb_pollAddress {satellite : Nat} (h : satellite ≤ 4) : (BitVec.ofNat 8 satellite).msb = false := by
  rw [BitVec.msb_eq_false_iff_two_mul_lt, BitVec.toNat_ofNat]
  omega

/-- A poll list entry is read with an address of a satellite only (R27). -/
theorem readPoll_satellite {l : List Byte} {e : PollEntry} (h : readPoll l = some e) :
    1 ≤ e.satellite ∧ e.satellite ≤ 4 := by
  unfold readPoll at h
  split at h
  · split at h
    · cases h
    · split at h
      · rename_i hrange
        cases h
        simp only [within, Bool.and_eq_true, decide_eq_true_eq] at hrange
        obtain ⟨⟨⟨⟨hsatellite, -⟩, -⟩, -⟩, -⟩ := hrange
        exact hsatellite
      · cases h
  · cases h

/-! #### Commands -/

/-- In `t` the sump bus sends what it sent in `s`, nothing, or the poll frame of the transaction in flight. -/
def State.sendsOnlyPolls (s t : State) : Prop :=
  t.bus.sent = s.bus.sent ∨ t.bus.sent = [] ∨ ∃ x, t.bus.tx = some x ∧ t.bus.sent = pollFrame x.satellite x.mask

namespace State.sendsOnlyPolls

theorem of_sent {s t : State} (h : t.bus.sent = s.bus.sent) : s.sendsOnlyPolls t := .inl h

theorem of_bus {s t : State} (h : t.bus = s.bus) : s.sendsOnlyPolls t := of_sent (congrArg BusUnit.sent h)

/-- What follows leaves the bus alone. -/
theorem then_bus {s t u : State} (h : s.sendsOnlyPolls t) (hu : u.bus = t.bus) : s.sendsOnlyPolls u := by
  unfold State.sendsOnlyPolls
  rwa [hu]

/-- What came before left alone what is being sent. -/
theorem after_sent {r s t : State} (h : s.sendsOnlyPolls t) (hs : s.bus.sent = r.bus.sent) : r.sendsOnlyPolls t := by
  unfold State.sendsOnlyPolls
  rwa [← hs]

end State.sendsOnlyPolls

@[simp] theorem State.withPoll_bus_sent (s : State) (i : Fin 16) (f : PollRun → PollRun) :
    (s.withPoll i f).bus.sent = s.bus.sent := rfl

@[simp] theorem State.withSat_bus_sent (s : State) (n : Nat) (f : Satellite → Satellite) :
    (s.withSat n f).bus.sent = s.bus.sent := by unfold State.withSat; split <;> rfl

@[simp] theorem State.satelliteAnswered_bus_sent (s : State) (x : Transaction) :
    (s.satelliteAnswered x).bus.sent = s.bus.sent := by
  simp only [State.satelliteAnswered]
  split <;> simp

@[simp] theorem State.satelliteFailed_bus_sent (s : State) (x : Transaction) :
    (s.satelliteFailed x).bus.sent = s.bus.sent := by
  simp only [State.satelliteFailed]
  split <;> simp

@[simp] theorem State.deliver_bus (s : State) (sat : Nat) (gs : List Group) : (s.deliver sat gs).bus = s.bus :=
  State.foldl_bus (fun s g => by simp) gs s

@[simp] theorem State.misses_bus (s : State) (sat : Nat) (chs : List Nat) : (s.misses sat chs).bus = s.bus :=
  State.foldl_bus (fun s c => by simp) chs s

/-- An entry taken sends the frame of its transaction. -/
theorem State.takeIfFree_sendsOnlyPolls (s : State) : s.sendsOnlyPolls s.takeIfFree := by
  obtain ⟨-, hkept⟩ | ⟨i, -, -, -, -, htake⟩ := s.takeIfFree_cases
  · exact .of_bus (by rw [hkept])
  · exact .inr (.inr ⟨_, by rw [htake]; rfl, by rw [htake]; rfl⟩)

theorem State.pollDue_sendsOnlyPolls (s : State) (i : Fin 16) : s.sendsOnlyPolls (s.pollDue i) := by
  unfold State.pollDue
  split
  · exact (State.takeIfFree_sendsOnlyPolls _).after_sent rfl
  · exact .of_bus rfl

theorem State.pollingStart_sendsOnlyPolls (s : State) : s.sendsOnlyPolls s.pollingStart :=
  (State.takeIfFree_sendsOnlyPolls _).after_sent rfl

theorem State.endTransaction_sendsOnlyPolls (s : State) (x : Transaction) (o : PollOutcome) :
    s.sendsOnlyPolls (s.endTransaction x o) :=
  (State.takeIfFree_sendsOnlyPolls _).after_sent rfl

theorem State.responseAccepted_sendsOnlyPolls (s : State) (x : Transaction) (gs : List Group) :
    s.sendsOnlyPolls (s.responseAccepted x gs) :=
  (State.endTransaction_sendsOnlyPolls _ x _).after_sent (by simp)

/-- A retry sends the poll frame of the same transaction (R34). -/
theorem State.attemptLost_retry (s : State) (x : Transaction) (hbelongs : x.belongs = true) (hsecond : x.second = false)
    (hretry : x.retry = 1) :
    s.attemptLost x =
      { s with
        bus.tx := some { x with second := true, waiting := false, timer := 0 }
        bus.sent := pollFrame x.satellite x.mask } := by
  simp [State.attemptLost, hbelongs, hsecond, hretry]

theorem State.attemptLost_sendsOnlyPolls (s : State) (x : Transaction) : s.sendsOnlyPolls (s.attemptLost x) := by
  unfold State.attemptLost
  split
  · exact State.endTransaction_sendsOnlyPolls s x _
  · split
    · exact .inr (.inr ⟨_, rfl, rfl⟩)
    · exact (State.endTransaction_sendsOnlyPolls _ x _).after_sent (by simp)

theorem State.sumpFrame_sendsOnlyPolls (s : State) (frame : List Byte) : s.sendsOnlyPolls (s.sumpFrame frame) := by
  unfold State.sumpFrame
  split
  · exact .of_bus rfl
  · split
    · split
      · exact (State.responseAccepted_sendsOnlyPolls _ _ _).after_sent rfl
      · exact (State.attemptLost_sendsOnlyPolls _ _).after_sent rfl
    · exact .of_bus rfl

theorem State.sumpTimeout_sendsOnlyPolls (s : State) : s.sendsOnlyPolls s.sumpTimeout := by
  unfold State.sumpTimeout
  split
  · exact .of_bus rfl
  · split
    · exact (State.attemptLost_sendsOnlyPolls _ _).after_sent rfl
    · exact .of_bus rfl

/-- After the last stop bit nothing is being sent (R32). -/
theorem State.pollSent_bus_sent (s : State) : s.pollSent.bus.sent = [] := by
  unfold State.pollSent
  split
  · rfl
  · split <;> rfl

@[simp] theorem State.releaseForced_bus (s : State) : s.releaseForced.bus = s.bus :=
  State.foldl_bus (fun _ _ => State.setLoad_bus ..) _ s

@[simp] theorem State.leaveRun_bus (s : State) : s.leaveRun.bus = s.bus := by simp [State.leaveRun]

@[simp] theorem State.enterRun_bus (s : State) : s.enterRun.bus = s.bus := by simp [State.enterRun]

@[simp] theorem State.enterStandby_bus_sent (s : State) : s.enterStandby.bus.sent = s.bus.sent := rfl

theorem State.enterStandbyIf_bus_sent (p : Prop) [Decidable p] (s : State) :
    (if p then s.enterStandby else s).bus.sent = s.bus.sent := by split <;> simp

/-- A change of mode touches the bus where it leaves or enters STANDBY, and starts polling after it stops it. -/
theorem State.changeMode_sendsOnlyPolls (s : State) (m : Mode) : s.sendsOnlyPolls (s.changeMode m) := by
  by_cases hold : s.link.mode = .standby
  · exact ((State.pollingStart_sendsOnlyPolls _).after_sent
      (State.enterStandbyIf_bus_sent (m = .standby) { s with link.mode := m, link.staging := .empty })).then_bus
      (by simp [State.changeMode, hold])
  · refine .of_sent ?_
    simp only [State.changeMode, hold, if_false, State.markEval_bus, State.ite_bus, State.enterRun_bus,
      State.renewFlood_bus, ite_self]
    split <;> simp

/-- A restore starts polling first; what it loads then is beside the bus. -/
theorem State.restore_sendsOnlyPolls (s : State) (g : Staging) (r15 : List Byte) : s.sendsOnlyPolls (s.restore g r15) := by
  refine ((State.pollingStart_sendsOnlyPolls _).after_sent
    (s := { s with link.mode := .run, link.staging := .empty }) rfl).then_bus ?_
  simp only [State.restore, State.loadQueue, State.loadSoftener, State.loadTotals, State.loadMains]
  split <;> simp

theorem State.handle_sendsOnlyPolls (s : State) (code : Byte) (p : List Byte) (judge : State → Verdict)
    (h : s.sendsOnlyPolls (judge s).state) : s.sendsOnlyPolls (s.handle code p judge) := by
  unfold State.handle
  split
  · exact h.then_bus (Verdict.answer_bus _ code)
  · exact .of_bus rfl

theorem judgeSetMode_sendsOnlyPolls (p : List Byte) (s : State) : s.sendsOnlyPolls (judgeSetMode p s).state := by
  unfold judgeSetMode
  split
  · split
    · exact .of_bus rfl
    · split
      · exact .of_bus rfl
      · split
        · exact .of_bus rfl
        · exact s.changeMode_sendsOnlyPolls _
  · exact .of_bus rfl

theorem judgeWritePollList_sendsOnlyPolls (p : List Byte) (s : State) :
    s.sendsOnlyPolls (judgeWritePollList p s).state := by
  unfold judgeWritePollList
  repeat' split
  all_goals exact .of_sent rfl

@[simp] theorem State.judgeSlot_bus (s : State) (body phase : List Byte) : (s.judgeSlot body phase).state.bus = s.bus := by
  unfold State.judgeSlot
  repeat' split
  all_goals rfl

theorem State.judgeLast_sendsOnlyPolls (s : State) (body : List Byte) : s.sendsOnlyPolls (s.judgeLast body).state := by
  simp only [State.judgeLast]
  split; · exact .of_bus rfl
  split; · exact .of_bus rfl
  split; · exact .of_bus rfl
  split; · exact .of_bus rfl
  exact s.restore_sendsOnlyPolls _ body

theorem State.judgeRecord_sendsOnlyPolls (s : State) (n : Nat) (body phase : List Byte) :
    s.sendsOnlyPolls (s.judgeRecord n body phase).state := by
  unfold State.judgeRecord
  split; · exact .of_bus rfl
  split; · exact .of_bus rfl
  split; · exact .of_bus rfl
  split; · split <;> exact .of_bus rfl
  split; · exact .of_bus (s.judgeSlot_bus body phase)
  split; · exact .of_bus rfl
  exact s.judgeLast_sendsOnlyPolls body

theorem judgeContextWrite_sendsOnlyPolls (p : List Byte) (s : State) : s.sendsOnlyPolls (judgeContextWrite p s).state := by
  unfold judgeContextWrite
  split
  · simp only
    split
    · exact s.judgeRecord_sendsOnlyPolls _ _ _
    · exact .of_bus rfl
  · exact .of_bus rfl

theorem State.softReset_bus_sent (s : State) (pins : InputPins) : (s.softReset pins).bus.sent = [] := by
  unfold State.softReset State.resetMove
  split
  · split <;> simp [BusUnit.softReset]
  · rfl

/-- No command sends any other frame. Ten commands can write the bus; of the others the frame lemmas of each operation say
that they keep it. -/
theorem exec_sendsOnlyPolls (c : Instr) (s : State) : ∃ t, exec c s = .next t ∧ s.sendsOnlyPolls t := by
  cases c with
  | setMode p => exact ⟨_, rfl, State.handle_sendsOnlyPolls _ _ _ _ (judgeSetMode_sendsOnlyPolls p s)⟩
  | tblWritePollList p => exact ⟨_, rfl, State.handle_sendsOnlyPolls _ _ _ _ (judgeWritePollList_sendsOnlyPolls p s)⟩
  | contextWrite p => exact ⟨_, rfl, State.handle_sendsOnlyPolls _ _ _ _ (judgeContextWrite_sendsOnlyPolls p s)⟩
  | softReset pins => exact ⟨_, rfl, .inr (.inl (by rw [State.settle_bus, State.softReset_bus_sent]))⟩
  | powerOn pins => exact ⟨_, rfl, .inr (.inl rfl)⟩
  | pollDue i => exact ⟨_, rfl, s.pollDue_sendsOnlyPolls i⟩
  | pollFrameEnd => exact ⟨_, rfl, .inr (.inl s.pollSent_bus_sent)⟩
  | sumpFrameEnd frame => exact ⟨_, rfl, (s.sumpFrame_sendsOnlyPolls frame).then_bus (State.settle_bus _)⟩
  | sumpResponseTimeout => exact ⟨_, rfl, s.sumpTimeout_sendsOnlyPolls.then_bus (State.settle_bus _)⟩
  | sumpByteGap bytes => exact ⟨_, rfl, .of_sent rfl⟩
  | _ => exact ⟨_, rfl, .of_bus (by simp)⟩

/-- Settles O19: the frame by its definition, the commands by `exec_sendsOnlyPolls`, the retry by `attemptLost_retry`, the
addresses by the range check of `readPoll`. -/
theorem pollFrameRule : Obligations.PollFrameRule := by
  refine ⟨?frame, ?commands, ?retry, fun l e => readPoll_satellite⟩
  case frame =>
    intro satellite mask _ hhi
    exact ⟨_, rfl, sum8_pollFrame satellite mask, msb_pollAddress hhi⟩
  case commands =>
    intro c s t h
    obtain ⟨u, hu, hsends⟩ := exec_sendsOnlyPolls c s
    rw [hu] at h
    cases h
    exact hsends
  case retry =>
    intro s x htx hwaiting hbelongs hsecond hretry
    have hlost : s.sumpTimeout = s.clearHeard.attemptLost x := by simp [State.sumpTimeout, htx, hwaiting]
    refine ⟨_, rfl, ?_⟩
    rw [State.settle_bus, hlost, State.attemptLost_retry _ x hbelongs hsecond hretry]
    exact ⟨rfl, rfl⟩

end Sys2Proof.Machine
end

section
/-! ### The phase queue: PHASE_WITHDRAW (R45, R46)

What the removal of a record leaves of the queue, then the three verdicts of the request. -/

namespace Sys2Proof.Machine

@[simp] theorem State.underWay_iff (s : State) :
    s.underWay = true ↔ s.eng.state = .running ∨ s.eng.state = .suspended := by
  simp [State.underWay]

theorem filter_tag_ne_of_unused {tag : Nat} {l : List PhaseRecord} (h : ∀ x ∈ l, x.tag ≠ tag) :
    l.filter (fun p => decide (p.tag ≠ tag)) = l :=
  List.filter_eq_self.2 fun x hx => decide_eq_true (h x hx)

/-- The records before and behind the one withdrawn keep their order (R45). -/
theorem State.withdrawRecord_of_split {s : State} {front back : List PhaseRecord} {q : PhaseRecord}
    (hqueue : s.eng.queue = front ++ q :: back) (hfront : ∀ x ∈ front, x.tag ≠ q.tag)
    (hback : ∀ x ∈ back, x.tag ≠ q.tag) :
    s.withdrawRecord q.tag = { s with eng.queue := front ++ back } := by
  have hkept : s.eng.queue.filter (fun p => decide (p.tag ≠ q.tag)) = front ++ back := by
    rw [hqueue, List.filter_append, List.filter_cons_of_neg (by simp), filter_tag_ne_of_unused hfront,
      filter_tag_ne_of_unused hback]
  rw [State.withdrawRecord, hkept]

/-- A record behind others of other tags is not the head (R46). -/
theorem State.headRecord_tag_ne_of_split {s : State} {front back : List PhaseRecord} {q : PhaseRecord}
    (hqueue : s.eng.queue = front ++ q :: back) (hfront : ∀ x ∈ front, x.tag ≠ q.tag) (hne : front ≠ []) :
    s.headRecord.map PhaseRecord.tag ≠ some q.tag := by
  cases front with
  | nil => exact absurd rfl hne
  | cons x rest => simpa [State.headRecord, hqueue] using hfront x List.mem_cons_self

theorem judgePhaseWithdraw_notFound {s : State} {b : Byte} (h : ∀ q ∈ s.eng.queue, q.tag ≠ b.toNat) :
    judgePhaseWithdraw [b] s = refuse s .notFound := by
  have hnone : s.eng.queue.any (fun p => decide (p.tag = b.toNat)) = false := by simpa using h
  simp [judgePhaseWithdraw, hnone]

theorem judgePhaseWithdraw_inUse {s : State} {b : Byte} {q : PhaseRecord} {rest : List PhaseRecord}
    (hqueue : s.eng.queue = q :: rest) (htag : q.tag = b.toNat) (hunder : s.underWay = true) :
    judgePhaseWithdraw [b] s = refuse s .inUse := by
  simp only [judgePhaseWithdraw, State.headRecord, hqueue, hunder]
  simp [htag]

theorem judgePhaseWithdraw_accept {s : State} {b : Byte} {q : PhaseRecord} (hmem : q ∈ s.eng.queue)
    (htag : q.tag = b.toNat) (hfree : s.underWay = true → s.headRecord.map PhaseRecord.tag ≠ some b.toNat) :
    judgePhaseWithdraw [b] s = accept (s.withdrawRecord b.toNat) (fun t => u8 t.eng.queue.length) := by
  have hfound : s.eng.queue.any (fun p => decide (p.tag = b.toNat)) = true :=
    List.any_eq_true.2 ⟨q, hmem, decide_eq_true htag⟩
  have hnotHead : ¬ (s.underWay && decide (s.headRecord.map PhaseRecord.tag = some b.toNat)) = true := by
    rw [Bool.and_eq_true, decide_eq_true_eq]
    exact fun ⟨hunder, hhead⟩ => hfree hunder hhead
  simp only [judgePhaseWithdraw, hfound, if_true, if_neg hnotHead]

/-- The payload of PHASE_WITHDRAW, one byte, is never too long for the receiver (R191). -/
theorem exec_phaseWithdraw_heard {s : State} (h : s.link.rxOff = false) (b : Byte) :
    exec (.phaseWithdraw [b]) s = .next ((judgePhaseWithdraw [b] s).answer 0x11) :=
  congrArg Host.Outcome.next (State.handle_heard s 0x11 [b] (judgePhaseWithdraw [b]) h (by simp))

/-- Settles O29: one verdict for each case of R46; the removal calls for no evaluation, so nothing else changes. -/
theorem phaseWithdrawRemovesRecord : Obligations.PhaseWithdrawRemovesRecord := by
  intro s b ⟨hhears, hsettled⟩
  rw [exec_phaseWithdraw_heard hhears b]
  refine ⟨fun hunused => ?notFound, fun q rest hqueue htag hunder => ?inUse,
    fun front q back hqueue htag hfront hback hhead => ?removed⟩
  case notFound => rw [judgePhaseWithdraw_notFound hunused, answer_refuse s hsettled]
  case inUse => rw [judgePhaseWithdraw_inUse hqueue htag (s.underWay_iff.2 hunder), answer_refuse s hsettled]
  case removed =>
    have hfree : s.underWay = true → s.headRecord.map PhaseRecord.tag ≠ some b.toNat := fun hunder =>
      htag ▸ State.headRecord_tag_ne_of_split hqueue hfront (hhead (s.underWay_iff.1 hunder))
    have hstill : State.settled { s with eng.queue := front ++ back } := hsettled
    rw [judgePhaseWithdraw_accept (by simp [hqueue]) htag hfree, ← htag,
      State.withdrawRecord_of_split hqueue hfront hback, answer_accept, State.settle_of_settled _ hstill]
    rfl

end Sys2Proof.Machine
end

section
/-! ### The reservoirs: RESERVOIR_ADJUST (R126)

The reservoir codes, what an adjust is under a profile in effect, then the three verdicts of the request. -/

namespace Sys2Proof.Machine

theorem reservoirOfCode_reservoirCode (r : Reservoir) :
    reservoirOfCode (BitVec.ofNat 8 (reservoirCode r)).toNat = some r := by
  cases r <;> rfl

theorem reservoirOfCode_eq_none {n : Nat} (h : 2 ≤ n) : reservoirOfCode n = none :=
  List.getElem?_eq_none h

/-- No new damage is found, so no default is put in its place (R176). -/
theorem State.useProfile_of_inEffect {s : State} {p : ProfileId} (h : s.inEffect p) : s.useProfile p = s :=
  if_pos (Bool.or_eq_true_iff.2 h)

/-- With the profile in effect an adjust writes the estimate and the low-seen flag and nothing else (R126). -/
theorem State.adjust_of_inEffect {s : State} {r : Reservoir} (h : s.inEffect (dosingProfileId r)) (new : Nat) :
    s.adjust r new = s.setReservoir r
      { s.reservoir r with estimate := min new (s.dosingProfile r).capacity, lowSeen := false } := by
  simp only [State.adjust, State.useProfile_of_inEffect h]

/-- A write of a reservoir record calls for no evaluation of the arbiter. -/
theorem State.setReservoir_settled {s : State} (h : s.settled) (r : Reservoir) (x : ReservoirState) :
    (s.setReservoir r x).settled := by
  rwa [State.settled, State.setReservoir_arb]

theorem judgeReservoirAdjust_badField (s : State) {res : Byte} (hres : 2 ≤ res.toNat) (a b c d e f g h : Byte) :
    judgeReservoirAdjust [res, a, b, c, d, e, f, g, h] s = refuse s .badField := by
  simp only [judgeReservoirAdjust, reservoirOfCode_eq_none hres]

theorem judgeReservoirAdjust_staleValue {s : State} {r : Reservoir} {a b c d : Byte}
    (hne : be32 a b c d ≠ (s.reservoir r).estimate) (e f g h : Byte) :
    judgeReservoirAdjust [BitVec.ofNat 8 (reservoirCode r), a, b, c, d, e, f, g, h] s =
      refuseWith s .staleValue (u32 (s.reservoir r).estimate) := by
  simp only [judgeReservoirAdjust, reservoirOfCode_reservoirCode, if_neg hne.symm]

theorem judgeReservoirAdjust_accept {s : State} {r : Reservoir} {a b c d : Byte}
    (heq : be32 a b c d = (s.reservoir r).estimate) (e f g h : Byte) :
    judgeReservoirAdjust [BitVec.ofNat 8 (reservoirCode r), a, b, c, d, e, f, g, h] s =
      accept (s.adjust r (be32 e f g h)) (fun t => u32 (t.reservoir r).estimate) := by
  simp only [judgeReservoirAdjust, reservoirOfCode_reservoirCode, if_pos heq.symm]

/-- The payload of RESERVOIR_ADJUST, nine bytes, is never too long for the receiver (R191). -/
theorem exec_reservoirAdjust_heard {s : State} (hhears : s.link.rxOff = false) (res a b c d e f g h : Byte) :
    exec (.reservoirAdjust [res, a, b, c, d, e, f, g, h]) s =
      .next ((judgeReservoirAdjust [res, a, b, c, d, e, f, g, h] s).answer 0x24) :=
  congrArg Host.Outcome.next
    (State.handle_heard s 0x24 [res, a, b, c, d, e, f, g, h] (judgeReservoirAdjust _) hhears (by simp))

/-- Settles O38: one verdict for each case of R126; the response of an accepted request reads back the estimate just
written. -/
theorem reservoirAdjustSetsEstimate : Obligations.ReservoirAdjustSetsEstimate := by
  intro s r a b c d e f g h ⟨hhears, hsettled⟩ hprofile
  refine ⟨fun heq => ?accepted, fun hne => ?stale, fun res hres => ?badField⟩
  case accepted =>
    rw [exec_reservoirAdjust_heard hhears, judgeReservoirAdjust_accept heq, answer_accept,
      State.adjust_of_inEffect hprofile, State.settle_of_settled _ (State.setReservoir_settled hsettled ..),
      State.setReservoir_reservoir, if_pos rfl]
  case stale =>
    rw [exec_reservoirAdjust_heard hhears, judgeReservoirAdjust_staleValue hne, answer_refuseWith s hsettled]
  case badField =>
    rw [exec_reservoirAdjust_heard hhears, judgeReservoirAdjust_badField s hres, answer_refuse s hsettled]

end Sys2Proof.Machine
end

section
/-! ### The attention line: STATUS_WRITE and NOTICE_READ (R198 to R200)

The bytes of a number held in a word, the bytes of a notice, then the verdicts of the two requests. Either request changes the
link port alone, so no evaluation of the arbiter follows. -/

namespace Sys2Proof.Machine

theorem ofNat_toNat_div_two_pow {w : Nat} (x : BitVec w) (k : Nat) :
    BitVec.ofNat 8 (x.toNat / 2 ^ k) = x.extractLsb' k 8 := by
  rw [← Nat.shiftRight_eq_div_pow]; rfl

theorem u8_toNat (b : Byte) : u8 b.toNat = [b] := by
  rw [u8, BitVec.ofNat_toNat, BitVec.setWidth_eq]

theorem u16_toNat (x : Half) : u16 x.toNat = [x.extractLsb' 8 8, x.extractLsb' 0 8] := by
  simp only [← ofNat_toNat_div_two_pow]; norm_num [u16]

theorem u32_toNat (x : Quad) :
    u32 x.toNat = [x.extractLsb' 24 8, x.extractLsb' 16 8, x.extractLsb' 8 8, x.extractLsb' 0 8] := by
  simp only [← ofNat_toNat_div_two_pow]; norm_num [u32]

/-- The nine bytes of a notice: code, level, time tag, subject and value, high byte first (11.5). -/
theorem noticeBytes_eq (n : Notice) :
    noticeBytes n =
      [BitVec.ofNat 8 (noticeCode n.kind), BitVec.ofNat 8 n.level, n.tag.extractLsb' 8 8, n.tag.extractLsb' 0 8,
        BitVec.ofNat 8 n.subject, n.value.extractLsb' 24 8, n.value.extractLsb' 16 8, n.value.extractLsb' 8 8,
        n.value.extractLsb' 0 8] := by
  rw [noticeBytes, u16_toNat, u32_toNat]; rfl

theorem State.setThreshold_settled {s : State} (h : s.settled) (n : Nat) : (s.setThreshold n).settled := h

theorem State.takeNotices_settled {s : State} (h : s.settled) : s.takeNotices.settled := h

theorem judgeStatusWrite_badField (s : State) {n : Byte} (h : 8 ≤ n.toNat) :
    judgeStatusWrite [1, n] s = refuse s .badField :=
  if_neg fun ⟨_, hle⟩ => by omega

theorem judgeStatusWrite_accept (s : State) {n : Byte} (h : n.toNat ≤ 7) :
    judgeStatusWrite [1, n] s = accept (s.setThreshold n.toNat) (fun t => u8 t.link.threshold ++ yesNo t.link.attn) :=
  if_pos ⟨rfl, h⟩

/-- The counts in the response are those of the notices taken, at most 4, and of those left (R198). -/
theorem judgeNoticeRead_nil (s : State) :
    judgeNoticeRead [] s = acceptWith s.takeNotices
      ([BitVec.ofNat 8 (min 4 s.link.notices.length)] ++ (s.link.notices.take 4).flatMap noticeBytes
        ++ [BitVec.ofNat 8 (s.link.notices.length - 4), if s.link.overrun then 1 else 0]) := by
  rw [judgeNoticeRead, if_neg (not_not_intro rfl), counted, List.length_take, List.length_drop]
  simp only [u8, yesNo, List.append_assoc, List.singleton_append]

/-- The payload of STATUS_WRITE, two bytes, is never too long for the receiver (R191). -/
theorem exec_statusWrite_heard {s : State} (h : s.link.rxOff = false) (form n : Byte) :
    exec (.statusWrite [form, n]) s = .next ((judgeStatusWrite [form, n] s).answer 0x30) :=
  congrArg Host.Outcome.next (State.handle_heard s 0x30 [form, n] (judgeStatusWrite [form, n]) h (by simp))

theorem exec_noticeRead_heard {s : State} (h : s.link.rxOff = false) :
    exec (.noticeRead []) s = .next ((judgeNoticeRead [] s).answer 0x33) :=
  congrArg Host.Outcome.next (State.handle_heard s 0x33 [] (judgeNoticeRead []) h (Nat.zero_le 59))

/-- Settles O40: a threshold of 0 to 7 is written and read back, another is refused, and a read takes its notices from the
head; what `setThreshold` and `takeNotices` make of the link port is the state that the statement spells out. -/
theorem attentionFollowsQueue : Obligations.AttentionFollowsQueue := by
  refine ⟨fun s n ⟨hhears, hsettled⟩ => ⟨fun hle => ?written, fun hge => ?refused⟩,
    fun s ⟨hhears, hsettled⟩ => ⟨?taken, noticeBytes_eq⟩⟩
  case written =>
    rw [exec_statusWrite_heard hhears, judgeStatusWrite_accept s hle, answer_accept,
      State.settle_of_settled _ (State.setThreshold_settled hsettled _)]
    have hthreshold : u8 (s.setThreshold n.toNat).link.threshold = [n] := u8_toNat n
    rw [hthreshold]
    rfl
  case refused => rw [exec_statusWrite_heard hhears, judgeStatusWrite_badField s hge, answer_refuse s hsettled]
  case taken =>
    rw [exec_noticeRead_heard hhears, judgeNoticeRead_nil,
      answer_acceptWith_settled _ (State.takeNotices_settled hsettled)]
    rfl

end Sys2Proof.Machine
end

section
/-! ## What every operation of the model carries on

One preorder on states, `State.keeps`, holds what no operation may break: the waiting commands and the clock (logs 1, 22), the
bound of the notice queue (R197), one column in SERVICE (R83), the phase queue with the staging (R45, R187), the budget and the
mains (R149), and what a set latch locks (R54, R154, R170). The primitive updates come first, then one lemma for each operation
in the order of the definitions; the invariants of a step are read off at the end. -/

namespace Sys2Proof.Machine

/-- What is carried of the trip latch: nothing (while it is being set), that it is clear, what it locks with the engine IDLE or
TRIPPED (while the mode is being changed), or with the engine as the mode asks. -/
inductive Lock where
  | off | clear | loose | strict

/-- What a set latch locks (R54, R154, R170), for the states of the engine allowed; the grants are judged once no evaluation is
due. -/
def State.lockedTo (allowed : Mode → EngineState → Prop) (s : State) : Prop :=
  s.floodKept ∧ (s.settled → s.tripGrantsKept) ∧
    (s.trip.latch = true → s.eng.queue = [] ∧ allowed s.link.mode s.eng.state)

/-- The engine's state under a set latch, as the mode asks (R54). -/
def lockedEngine (m : Mode) (e : EngineState) : Prop := e = (if m = .run then .tripped else .idle)

/-- The engine's state under a set latch while the mode is being changed. -/
def looseEngine (_ : Mode) (e : EngineState) : Prop := e = .idle ∨ e = .tripped

def State.locked (s : State) : Lock → Prop
  | .off => True
  | .clear => s.trip.latch = false
  | .loose => s.lockedTo looseEngine
  | .strict => s.lockedTo lockedEngine

/-- Nothing is locked: the latch is not followed, or clear. -/
def State.opened (k : Lock) (s : State) : Prop := k = .off ∨ s.trip.latch = false

theorem State.lockedTo_of_clear {allowed : Mode → EngineState → Prop} {t : State}
    (hl : t.trip.latch = false) (hf : t.floodKept) (hg : t.settled → t.tripGrantsKept) : t.lockedTo allowed :=
  ⟨hf, hg, fun hlatch => absurd (hl.symm.trans hlatch) (by decide)⟩

/-- Where a latch is followed, a cycle under way says that it is clear. -/
theorem State.opened_of_underWay {k : Lock} {s : State} (h : s.locked k) (hu : s.underWay = true) : s.opened k := by
  have clear : ∀ allowed : Mode → EngineState → Prop, s.lockedTo allowed →
      (∀ m e, allowed m e → e ≠ .running ∧ e ≠ .suspended) → s.trip.latch = false := by
    rintro allowed ⟨-, -, hl⟩ hne
    cases hlatch : s.trip.latch
    · rfl
    · obtain ⟨hr, hs⟩ := hne _ _ (hl hlatch).2
      simp [State.underWay, hr, hs] at hu
  cases k with
  | off => exact .inl rfl
  | clear => exact .inr h
  | loose => exact .inr (clear _ h (by rintro m e (rfl | rfl) <;> decide))
  | strict => exact .inr (clear _ h (by rintro m e rfl; split <;> decide))

/-- The budget and the mains are judged once no evaluation is due (R148). -/
def State.grantsKept (s : State) : Prop := s.settled → s.budgetKept ∧ s.mainsKept

/-- The operations of the model carry these on, from the state before to the state after. -/
structure State.keeps (k : Lock) (s t : State) : Prop where
  pending : t.pending = s.pending
  now : t.now = s.now
  notices : s.noticesKept → t.noticesKept
  service : s.serviceKept → t.serviceKept
  queue : s.queueKept ∧ s.stagingKept → t.queueKept ∧ t.stagingKept
  grants : s.grantsKept → t.grantsKept
  locked : s.locked k → t.locked k

/-- What the invariants read besides the arbiter's grants. -/
def State.watched (s : State) :=
  (s.pending, s.now, s.link.notices, s.link.mode, s.link.staging, s.eng.queue, s.eng.state, s.soft.colA.state,
    s.soft.colB.state, s.trip.latch, s.trip.record.reason, s.arb.flood)

/-- What the invariants read of the arbiter's grants. -/
def State.placed (s : State) := (s.arb.evalDue, s.arb.loads, s.arb.active, s.arb.budget, s.arb.zc.presence)

theorem State.totalWatts_congr {s t : State} (hl : t.arb.loads = s.arb.loads) (ha : t.arb.active = s.arb.active) :
    t.totalWatts = s.totalWatts := by
  unfold State.totalWatts
  congr 2
  funext l
  simp [State.watts, State.load, State.loadEntry, hl, ha]

/-- A posting keeps the bound of the notice queue (R197). -/
theorem LinkUnit.post_notices_length (l : LinkUnit) (n : Notice) (h : l.notices.length ≤ 32) :
    (l.post n).notices.length ≤ 32 := by
  unfold LinkUnit.post LinkUnit.judgeAttn
  split
  · simp; omega
  · split
    · rename_i i hi
      have hi : i < l.notices.length := by
        split at hi
        · unfold replaceable at hi
          simp only at hi
          split at hi
          · obtain ⟨j, hj, rfl⟩ := Option.map_eq_some_iff.mp hi
            have := (List.findIdx?_eq_some_iff_findIdx_eq.mp hj).1
            simp at this; omega
          · cases hi
        · cases hi
      simp [List.length_eraseIdx_of_lt hi]; omega
    · exact h

namespace State.keeps

variable {k : Lock} {s t u : State}

theorem refl (k : Lock) (s : State) : s.keeps k s := ⟨rfl, rfl, id, id, id, id, id⟩

theorem trans (h : s.keeps k t) (g : t.keeps k u) : s.keeps k u :=
  ⟨g.pending.trans h.pending, g.now.trans h.now, g.notices ∘ h.notices, g.service ∘ h.service, g.queue ∘ h.queue,
    g.grants ∘ h.grants, g.locked ∘ h.locked⟩

/-! ### The primitive updates -/

/-- An update of what nothing watches, with an evaluation due or the grants as they were. -/
theorem same (h : s.keeps k t) (e : u.watched = t.watched) (g : u.arb.evalDue = true ∨ u.placed = t.placed) :
    s.keeps k u := by
  simp only [State.watched, Prod.mk.injEq] at e
  obtain ⟨e1, e2, e3, e4, e5, e6, e7, e8, e9, e10, e11, e12⟩ := e
  refine h.trans ⟨e1, e2, ?_, ?_, ?_, ?_, ?_⟩
  · simp [State.noticesKept, e3]
  · simp [State.serviceKept, e8, e9]
  · simp [State.queueKept, State.stagingKept, e5, e6]
  · intro ht hu
    rcases g with g | g
    · exact absurd (hu.symm.trans g) (by decide)
    · simp only [State.placed, Prod.mk.injEq] at g
      obtain ⟨g1, g2, g3, g4, g5⟩ := g
      obtain ⟨hb, hm⟩ := ht (g1 ▸ hu : t.arb.evalDue = false)
      refine ⟨?_, ?_⟩
      · simpa [State.budgetKept, State.totalWatts_congr g2 g3, g4] using hb
      · simpa [State.mainsKept, State.load, g2, g5] using hm
  · have lock : ∀ allowed, t.lockedTo allowed → u.lockedTo allowed := by
      rintro allowed ⟨hf, hg, hl⟩
      refine ⟨?_, fun hu => ?_, ?_⟩
      · simpa [State.floodKept, e10, e11, e12] using hf
      · rcases g with g | g
        · exact absurd (hu.symm.trans g) (by decide)
        · simp only [State.placed, Prod.mk.injEq] at g
          have := hg (g.1 ▸ hu : t.arb.evalDue = false)
          simpa [State.tripGrantsKept, e10, e12, State.load, g.2.1] using this
      · simpa [e4, e6, e7, e10] using hl
    cases k with
    | off => exact id
    | clear => exact e10.trans
    | loose => exact lock _
    | strict => exact lock _

/-- An update of what nothing watches. -/
theorem quiet (h : s.keeps k t) (e : u.watched = t.watched) (g : u.placed = t.placed) : s.keeps k u :=
  h.same e (.inr g)

/-- An update of the loads, the tables, the budget or the mains that calls for an evaluation. -/
theorem due (h : s.keeps k t) (e : u.watched = t.watched) (g : u.arb.evalDue = true) : s.keeps k u :=
  h.same e (.inl g)

/-- An update of the notice queue that keeps its bound. -/
theorem noticeQueue (h : s.keeps k t) (e : { u with link.notices := t.link.notices }.watched = t.watched)
    (g : u.placed = t.placed) (hn : t.noticesKept → u.noticesKept) : s.keeps k u := by
  have w : s.keeps k { u with link.notices := t.link.notices } := h.quiet e g
  refine ⟨w.pending, w.now, hn ∘ h.notices, w.service, w.queue, w.grants, fun hs => ?_⟩
  have hl := w.locked hs
  cases k <;> exact hl

/-- What is carried without the latch. -/
theorem toOff (h : s.keeps k t) : s.keeps .off t :=
  ⟨h.pending, h.now, h.notices, h.service, h.queue, h.grants, fun _ => trivial⟩

/-- An operation that needs nothing locked, on a state with a cycle under way. -/
theorem whenUnderWay (h : s.keeps k t) (hu : t.underWay = true)
    (op : ∀ {j : Lock}, s.keeps j t → t.opened j → s.keeps j u) : s.keeps k u := by
  have o := op h.toOff (.inl rfl)
  exact ⟨o.pending, o.now, o.notices, o.service, o.queue, o.grants,
    fun hs => (op h (State.opened_of_underWay (h.locked hs) hu)).locked hs⟩

/-- What carries a clear latch keeps everything open. -/
theorem opened (h : t.keeps .clear u) (g : t.opened k) : u.opened k := g.imp_right h.locked

/-- A change of the engine's state while nothing is locked. -/
theorem engineState (h : s.keeps k t) (g : t.opened k) (e : EngineState) : s.keeps k { t with eng.state := e } := by
  refine ⟨h.pending, h.now, h.notices, h.service, h.queue, h.grants, fun hs => ?_⟩
  have hl := h.locked hs
  rcases g with rfl | g
  · trivial
  · cases k with
    | off => trivial
    | clear => exact g
    | loose => exact State.lockedTo_of_clear g hl.1 hl.2.1
    | strict => exact State.lockedTo_of_clear g hl.1 hl.2.1

/-- A change of the phase queue to some of its records in their order, up to what a record holds besides its tag. -/
theorem requeue (h : s.keeps k t) (q : List PhaseRecord)
    (e : (q.map PhaseRecord.tag).Sublist (t.eng.queue.map PhaseRecord.tag)) : s.keeps k { t with eng.queue := q } := by
  refine ⟨h.pending, h.now, h.notices, h.service, fun hs => ?_, h.grants, fun hs => ?_⟩
  · obtain ⟨⟨hlen, hnodup⟩, hstaging⟩ := h.queue hs
    refine ⟨⟨?_, hnodup.sublist e⟩, hstaging⟩
    have : q.length ≤ t.eng.queue.length := by simpa using e.length_le
    exact this.trans hlen
  · have lock : ∀ allowed, t.lockedTo allowed → State.lockedTo allowed { t with eng.queue := q } := by
      rintro allowed ⟨hf, hg, hl⟩
      refine ⟨hf, hg, fun hlatch => ⟨?_, (hl hlatch).2⟩⟩
      rw [(hl hlatch).1] at e
      simpa using e
    have hl := h.locked hs
    cases k with
    | off => trivial
    | clear => exact hl
    | loose => exact lock _ hl
    | strict => exact lock _ hl

/-- A change of the phase queue and the staging while nothing is locked. -/
theorem refill (h : s.keeps k t) (g : t.opened k) (q : List PhaseRecord) (x : Staging)
    (e : s.queueKept ∧ s.stagingKept →
      State.queueKept { t with eng.queue := q, link.staging := x } ∧
        State.stagingKept { t with eng.queue := q, link.staging := x }) :
    s.keeps k { t with eng.queue := q, link.staging := x } := by
  refine ⟨h.pending, h.now, h.notices, h.service, e, h.grants, fun hs => ?_⟩
  have hl := h.locked hs
  rcases g with rfl | g
  · trivial
  · cases k with
    | off => trivial
    | clear => exact g
    | loose => exact State.lockedTo_of_clear g hl.1 hl.2.1
    | strict => exact State.lockedTo_of_clear g hl.1 hl.2.1

/-- A change of the staging that keeps what a restore needs of it. -/
theorem restage (h : s.keeps k t) (g : Staging) (e : t.stagingKept → State.stagingKept { t with link.staging := g }) :
    s.keeps k { t with link.staging := g } := by
  refine ⟨h.pending, h.now, h.notices, h.service, fun hs => ⟨(h.queue hs).1, e (h.queue hs).2⟩, h.grants, fun hs => ?_⟩
  have hl := h.locked hs
  cases k <;> exact hl

/-- A column is written: in SERVICE only where it stood so or the other one does not. -/
theorem setColumn (h : s.keeps k t) (c : Side) (x : Column)
    (e : x.state = .service → (t.column c).state = .service ∨ (t.column (otherSide c)).state ≠ .service) :
    s.keeps k (t.setColumn c x) := by
  refine h.trans ⟨by simp, by simp, ?_, ?_, ?_, ?_, ?_⟩
  · cases c <;> exact id
  · intro hs
    cases c <;> simp_all [State.setColumn, State.serviceKept, State.column, otherSide] <;> grind
  · cases c <;> exact id
  · cases c <;> exact id
  · cases c <;> exact id

/-- A column leaves SERVICE, or stays out of it. -/
theorem outOfService (h : s.keeps k t) (c : Side) (x : Column) (e : x.state ≠ .service) :
    s.keeps k (t.setColumn c x) :=
  h.setColumn c x fun hx => absurd hx e

/-! ### The shared operations -/

theorem draw (h : s.keeps k t) : s.keeps k t.draw := h.quiet rfl rfl
theorem markEval (h : s.keeps k t) : s.keeps k t.markEval := h.due rfl rfl

end State.keeps
end Sys2Proof.Machine
end

section
/-! ### The units of the part -/

namespace Sys2Proof.Machine.State.keeps

variable {k : Lock} {s t u : State}

/-- A notice at the link port. -/
theorem linkPost (h : s.keeps k t) (n : Notice) : s.keeps k { t with link := t.link.post n } := by
  refine h.noticeQueue ?_ rfl (LinkUnit.post_notices_length _ _)
  have e := LinkUnit.post_rest t.link n
  have hm := congrArg LinkUnit.mode e
  have hs := congrArg LinkUnit.staging e
  simp only at hm hs
  simp [State.watched, hm, hs]

theorem post (h : s.keeps k t) (kind : NoticeKind) (l n : Nat) (v : Int) : s.keeps k (t.post kind l n v) := h.linkPost _

theorem postAll (h : s.keeps k t) (ns : List Notice) : s.keeps k (t.postAll ns) := by
  induction ns generalizing t with
  | nil => exact h
  | cons n ns ih => exact ih (h.linkPost n)

/-- An operation chosen by a test. -/
theorem ite {p : Prop} [Decidable p] (h : p → s.keeps k t) (g : ¬p → s.keeps k u) : s.keeps k (if p then t else u) := by
  split
  · exact h ‹_›
  · exact g ‹_›

/-- Operations over a list. -/
theorem foldl {α : Type} {f : State → α → State} (hf : ∀ t a, s.keeps k t → s.keeps k (f t a)) (l : List α)
    (h : s.keeps k t) : s.keeps k (l.foldl f t) := by
  induction l generalizing t with
  | nil => exact h
  | cons a l ih => exact ih (hf _ _ h)

theorem integrityError (h : s.keeps k t) (a : TableId) (b : Option Bank) (i : Nat) : s.keeps k (t.integrityError a b i) := by
  unfold State.integrityError
  simp only
  split
  · exact (h.quiet (by rfl) (by rfl)).post ..
  · split
    · exact h
    · exact h.quiet rfl rfl

theorem setFaulted (h : s.keeps k t) (p : ProfileId) (b : Bool) : s.keeps k (t.setFaulted p b) := by
  cases p <;> exact h.quiet rfl rfl

theorem setReservoir (h : s.keeps k t) (r : Reservoir) (x : ReservoirState) : s.keeps k (t.setReservoir r x) := by
  cases r <;> exact h.quiet rfl rfl


theorem lowerQueuedSetpoints (h : s.keeps k t) : s.keeps k t.lowerQueuedSetpoints := by
  refine h.requeue _ ?_
  have htag : ∀ p : PhaseRecord, (p.lowerSetpoint t.machine.maxSetpoint).tag = p.tag := by
    intro p; unfold PhaseRecord.lowerSetpoint; split <;> rfl
  simp [List.map_map, Function.comp_def, htag]

theorem profileChanged (h : s.keeps k t) (p : ProfileId) : s.keeps k (t.profileChanged p) := by
  cases p with
  | machine => exact h.lowerQueuedSetpoints.markEval
  | softener => exact h.quiet rfl rfl
  | det => exact h.setReservoir .det _
  | rinse => exact h.setReservoir .rinse _

theorem useProfile (h : s.keeps k t) (p : ProfileId) : s.keeps k (t.useProfile p) := by
  unfold State.useProfile
  split
  · exact h
  · exact (((h.integrityError ..).setFaulted ..).post ..).profileChanged p

theorem setLoad (h : s.keeps k t) (l : LoadId) (x : LoadState) (e : t.arb.evalDue = true) : s.keeps k (t.setLoad l x) :=
  h.due rfl e

theorem request (h : s.keeps k t) (l : LoadId) (a : Nat) : s.keeps k (t.request l a) := h.due rfl rfl

theorem release (h : s.keeps k t) (l : LoadId) : s.keeps k (t.release l) := by
  unfold State.release
  split
  · exact h.due rfl rfl
  · exact h

theorem withHead (h : s.keeps k t) (f : StageRecord → StageRecord) : s.keeps k (t.withHead f) := h.quiet rfl rfl
theorem withDry (h : s.keeps k t) (f : DryRecord → DryRecord) : s.keeps k (t.withDry f) := h.quiet rfl rfl
theorem setStage (h : s.keeps k t) (st : Stage) : s.keeps k (t.setStage st) := h.withHead _
theorem clearIntegrity (h : s.keeps k t) : s.keeps k t.clearIntegrity := h.quiet rfl rfl

/-! ### The softener unit (05) -/

theorem startPulse (h : s.keeps k t) (r : Route) : s.keeps k (t.startPulse r) := h.due rfl rfl

theorem becomeSet (h : s.keeps k t) : s.keeps k t.becomeSet := by
  unfold State.becomeSet
  simp only
  have hset : s.keeps k (State.markEval { t with soft.progress := .set }) := h.due rfl rfl
  split
  · exact hset
  · exact hset.request ..
  · split
    · exact hset
    · have hflow : ∀ r : Regen, s.keeps k { State.markEval { t with soft.progress := .set } with soft.regen := some r } :=
        fun r => hset.quiet rfl rfl
      split
      · exact ite (fun _ => ((hflow _).request ..).request ..) (fun _ => (hflow _).request ..)
      · exact (hflow _).request ..
      · exact hflow _

theorem routeHolder (h : s.keeps k t) : s.keeps k t.routeHolder :=
  ite (fun _ => h.becomeSet) (fun _ => (h.quiet (by rfl) (by rfl)).startPulse _)

theorem serveRegen (h : s.keeps k t) : s.keeps k t.serveRegen := ite (fun _ => h) (fun _ => h.routeHolder)

theorem regenRequestPath (h : s.keeps k t) : s.keeps k t.regenRequestPath := by
  unfold State.regenRequestPath
  split
  · exact serveRegen (h.due (by rfl) (by rfl))
  · exact h.quiet rfl rfl
  · exact h

theorem regenGiveBack (h : s.keeps k t) : s.keeps k t.regenGiveBack := by
  unfold State.regenGiveBack
  have hoff : s.keeps k
      { t with soft.waiting := false, soft.regen := t.soft.regen.map (fun r => { r with flowing := false }) } :=
    (h.quiet (by rfl) (by rfl))
  exact ite (fun _ => ((hoff.release .inletValve).release .brineValve).due (by rfl) (by rfl)) (fun _ => hoff)

theorem startRegen (h : s.keeps k t) (c : Side) : s.keeps k (t.startRegen c) := by
  have hcol : ∀ r : Regen, s.keeps k (State.setColumn { t with soft.regen := some r } c
      { State.column { t with soft.regen := some r } c with state := .brine, saltReduced := t.soft.saltLow }) :=
    fun r => (h.quiet (by rfl) (by rfl)).outOfService _ _ (by nofun)
  exact regenRequestPath (ite (fun _ => ((hcol _).useProfile _).post ..) (fun _ => hcol _))

theorem autoCheck (h : s.keeps k t) : s.keeps k t.autoCheck := by
  unfold State.autoCheck
  split
  · exact h
  · exact ite (fun _ => ite (fun _ => (h.useProfile _).startRegen _) (fun _ => h.useProfile _)) (fun _ => h)

theorem brineEnd (h : s.keeps k t) (r : Regen) : s.keeps k (t.brineEnd r) :=
  outOfService (h.regenGiveBack.quiet (by rfl) (by rfl)) _ _ (by nofun)

theorem soakEnd (h : s.keeps k t) (r : Regen) : s.keeps k (t.soakEnd r) :=
  regenRequestPath (outOfService (h.quiet (by rfl) (by rfl)) _ _ (by nofun))

theorem rinseEnd (h : s.keeps k t) (r : Regen) : s.keeps k (t.rinseEnd r) := by
  unfold State.rinseEnd
  extract_lets -lift s1 col cap s2 s3
  have h2 : s.keeps k s2 := (h.regenGiveBack.useProfile .softener).outOfService _ _ (by nofun)
  exact ((h2.post .regenDone 5 (sideCode r.column) cap).quiet (by rfl) (by rfl)).autoCheck

theorem abortRegen (h : s.keeps k t) : s.keeps k t.abortRegen := by
  unfold State.abortRegen
  split
  · exact h
  · exact (h.regenGiveBack.quiet (by rfl) (by rfl)).outOfService _ _ (by nofun)

theorem setHold (h : s.keeps k t) (x : HoldSet) : s.keeps k (t.setHold x) := by
  have hold : s.keeps k { t with soft.hold := x } := h.quiet rfl rfl
  refine ite (fun _ => hold.regenGiveBack) (fun _ => ite (fun _ => ?_) (fun _ => hold))
  split
  · exact ite (fun _ => hold.regenRequestPath.autoCheck) (fun _ => hold.autoCheck)
  · exact hold.autoCheck

theorem confirmFlip (h : s.keeps k t) (c : Side) : s.keeps k (t.confirmFlip c) := by
  unfold State.confirmFlip
  simp only
  refine ite (fun _ => ?_) (fun _ => h)
  split
  case isTrue hs =>
    refine (((h.outOfService _ _ (by nofun)).setColumn c _ fun _ => .inr ?_).post ..).autoCheck
    simp [State.setColumn_column]
  case isFalse hs =>
    exact ((h.setColumn c _ fun _ => .inr hs).post ..).autoCheck

theorem moveArrived (h : s.keeps k t) (m : SelectorMove) : s.keeps k (t.moveArrived m) := by
  unfold State.moveArrived
  split
  · exact h.confirmFlip _
  · exact h
  · exact h

theorem drive (h : s.keeps k t) (m : SelectorMove) : s.keeps k (t.drive m) := h.due rfl rfl

theorem createMove (h : s.keeps k t) (p : MovePurpose) (c : Side) : s.keeps k (t.createMove p c) := by
  have hu := h.useProfile .softener
  exact ite (fun _ => ite (fun _ => hu.moveArrived _) (fun _ => hu.drive _)) (fun _ => hu.quiet rfl rfl)

theorem wakeMove (h : s.keeps k t) : s.keeps k t.wakeMove := by
  unfold State.wakeMove
  split
  · exact h
  · exact ite (fun _ => h) (fun _ => ite (fun _ => moveArrived (h.quiet (by rfl) (by rfl)) _) (fun _ => h.drive _))

theorem parkMove (h : s.keeps k t) : s.keeps k t.parkMove := by
  unfold State.parkMove
  split
  · exact h
  · exact ite (fun _ => release (h.quiet (by rfl) (by rfl)) _) (fun _ => h)

theorem judgeFlip (h : s.keeps k t) : s.keeps k t.judgeFlip := by
  unfold State.judgeFlip
  split
  · exact h
  · exact createMove (h.quiet (by rfl) (by rfl)) ..

theorem servePath (h : s.keeps k t) : s.keeps k t.servePath := by
  unfold State.servePath
  refine ite (fun _ => h) (fun _ => ?_)
  split
  · exact h
  · exact h
  · exact ite (fun _ => h.judgeFlip) (fun _ => h.judgeFlip.routeHolder)
  · exact h.routeHolder

theorem fillTake (h : s.keeps k t) (m : RunMark) : s.keeps k (t.fillTake m) := by
  unfold State.fillTake
  by_cases hr : t.soft.holder = .regen
  · simp only [hr, if_true]
    cases m <;> exact servePath (((h.release .inletValve).release .brineValve).due (by rfl) (by rfl))
  · simp only [hr, if_false]
    cases m <;> exact servePath (h.due (by rfl) (by rfl))

theorem fillGiveBack (h : s.keeps k t) : s.keeps k t.fillGiveBack := by
  unfold State.fillGiveBack
  have hfree : s.keeps k (State.markEval { t.release .inletValve with soft.holder := .none, soft.progress := .selecting }) :=
    ((h.release _).due (by rfl) (by rfl))
  exact ite (fun _ => ite (fun _ => servePath (hfree.quiet (by rfl) (by rfl))) (fun _ => hfree)) (fun _ => h)

theorem positionCheck (h : s.keeps k t) : s.keeps k t.positionCheck := by
  unfold State.positionCheck
  split
  · exact h
  · exact ite (fun _ => h) (fun _ => h.outOfService _ _ (by nofun))

theorem positionChange (h : s.keeps k t) (c : Side) : s.keeps k (t.positionChange c) := by
  have hp : s.keeps k { t with soft.position := c } := h.quiet rfl rfl
  unfold State.positionChange
  simp only
  split
  · exact ite (fun _ => servePath (moveArrived (release (hp.quiet (by rfl) (by rfl)) _) _)) (fun _ => hp.positionCheck.post ..)
  · exact hp.positionCheck.post ..

theorem travelTimeout (h : s.keeps k t) (m : SelectorMove) : s.keeps k (t.travelTimeout m) := by
  unfold State.travelTimeout
  split
  · have hr : s.keeps k (State.release { t with soft.move := none } .selectorValve) := release (h.quiet (by rfl) (by rfl)) _
    exact servePath (ite (fun _ => hr) (fun _ => hr.draw.positionCheck.post ..))
  · exact (((h.post ..).release _).useProfile _).drive _

theorem pulseEnd (h : s.keeps k t) (p : RoutePulse) : s.keeps k (t.pulseEnd p) :=
  ((h.quiet (by rfl) (by rfl)).release .routeValve).markEval.servePath

theorem dropPulse (h : s.keeps k t) : s.keeps k t.dropPulse := by
  unfold State.dropPulse
  split
  · exact h
  · exact markEval (release (h.quiet (by rfl) (by rfl)) _)

theorem softenerReport (h : s.keeps k t) (l : LoadId) : s.keeps k (t.softenerReport l) := by
  unfold State.softenerReport
  split
  · exact ite (fun _ => h.quiet rfl rfl) (fun _ => h)
  · split
    · exact ite (fun _ => ite (fun _ => h.request ..) (fun _ => h.release _)) (fun _ => h)
    · exact h
  · refine ite (fun _ => h.due rfl rfl) (fun _ => ?_)
    split
    · exact h
    · exact ite (fun _ => h.quiet rfl rfl) (fun _ => h.due rfl rfl)
  · exact h

theorem markFallback (h : s.keeps k t) : s.keeps k t.markFallback :=
  ite (fun _ => h.quiet rfl rfl) (fun _ => ite (fun _ => h) (fun _ => post (h.quiet (by rfl) (by rfl)) ..))

theorem takeLoad (h : s.keeps k t) (n : Nat) : s.keeps k (t.takeLoad n) := by
  unfold State.takeLoad
  split
  · exact h.quiet rfl rfl
  · rename_i c _
    have hu : ∀ cap due n, s.keeps k { t.setColumn c { t.column c with cap := cap, due := due } with soft.u := n } :=
      fun cap due n => (h.setColumn c { t.column c with cap := cap, due := due } fun hx => .inl hx).quiet rfl rfl
    dsimp only
    split
    · split
      · exact (((hu _ _ _).post ..).quiet (by rfl) (by rfl)).post ..
      · exact (hu _ _ _).post ..
    · split
      · exact ((hu _ _ 0).quiet (by rfl) (by rfl)).post ..
      · exact hu _ _ _

theorem fillAccount (h : s.keeps k t) (v : Nat) : s.keeps k (t.fillAccount v) :=
  takeLoad ((markFallback (t := { t with soft.vFill := min 65535 (t.soft.vFill + v) }) (h.quiet (by rfl) (by rfl))).quiet (by rfl) (by rfl)) _

theorem regenAccount (h : s.keeps k t) (v : Nat) : s.keeps k (t.regenAccount v) := by
  unfold State.regenAccount
  split
  · exact h
  · have hr : ∀ r : Regen, s.keeps k { t with soft.regen := some r } := fun r => h.quiet rfl rfl
    simp only
    split
    · exact ite (fun _ => (hr _).brineEnd _) (fun _ => hr _)
    · exact ite (fun _ => (hr _).rinseEnd _) (fun _ => hr _)
    · exact hr _

theorem strayAccount (h : s.keeps k t) (v : Nat) : s.keeps k (t.strayAccount v).1 := by
  have hs : s.keeps k { t with soft.stray := min 65535 (t.soft.stray + v) } := h.quiet rfl rfl
  unfold State.strayAccount
  simp only
  split
  · exact hs
  · split <;> exact hs.useProfile _

theorem flowHandoff (h : s.keeps k t) (n : Nat) (b : Freshness) : s.keeps k (t.flowHandoff n b).1 := by
  have hs : ∀ a c, s.keeps k { t.useProfile .softener with soft.tLast := a, soft.rf := c } :=
    fun a c => (h.useProfile .softener).quiet rfl rfl
  unfold State.flowHandoff
  simp only
  split
  · exact (hs _ _).fillAccount _
  · split
    · exact (hs _ _).regenAccount _
    · exact (hs _ _).strayAccount _

end Sys2Proof.Machine.State.keeps
end

section
/-! ### The dosing unit, the DRY phase and the phase engine -/

namespace Sys2Proof.Machine.State.keeps

variable {k : Lock} {s t u : State}

/-! #### The dosing unit (06) -/

theorem countDose (h : s.keeps k t) : s.keeps k t.countDose := h.quiet rfl rfl

theorem factor (h : s.keeps k t) (r : Reservoir) (c : Nat) (x : Int) : s.keeps k (t.factor r c x).1 := by
  unfold State.factor
  split
  · exact h.post ..
  · dsimp only
    split
    · exact h.post ..
    · split
      · exact h.integrityError ..
      · exact h

theorem hardnessFactor (h : s.keeps k t) (r : Reservoir) : s.keeps k (t.hardnessFactor r).1 := by
  unfold State.hardnessFactor
  split
  · exact h
  · exact (h.useProfile _).factor ..

theorem soilFactor (h : s.keeps k t) (r : Reservoir) (tag : Nat) : s.keeps k (t.soilFactor r tag).1 := by
  unfold State.soilFactor
  split
  · exact h
  · split
    · exact h.factor ..
    · exact h.post ..

theorem doseDone (h : s.keeps k t) (r : Reservoir) (tag n : Nat) : s.keeps k (t.doseDone r tag n) :=
  countDose (((h.release (pumpOf r)).post .doseDone 5 tag n).quiet (by rfl) (by rfl))

theorem doseEmpty (h : s.keeps k t) (r : Reservoir) (tag : Nat) : s.keeps k (t.doseEmpty r tag) :=
  (((h.release (pumpOf r)).post .doseEmpty 2 tag (reservoirCode r)).quiet (by rfl) (by rfl))

theorem dropDose (h : s.keeps k t) : s.keeps k t.dropDose := by
  unfold State.dropDose
  split
  · exact h
  · exact countDose (release (h.quiet (by rfl) (by rfl)) _)

theorem abandonDose (h : s.keeps k t) : s.keeps k t.abandonDose := (h.postAll _).dropDose

theorem beginDose (h : s.keeps k t) (r : Reservoir) (dBase tag : Nat) : s.keeps k (t.beginDose r dBase tag) := by
  have hf := ((h.abandonDose.useProfile (dosingProfileId r)).hardnessFactor r).soilFactor r tag
  exact ite (fun _ => hf.doseEmpty ..) (fun _ => ite (fun _ => hf.doseDone ..) (fun _ => request (hf.quiet (by rfl) (by rfl)) ..))

theorem startStroke (h : s.keeps k t) (d : Dose) : s.keeps k (t.startStroke d) :=
  ite (fun _ => h.doseEmpty ..) (fun _ => h.quiet rfl rfl)

theorem dosingReport (h : s.keeps k t) (r : Reservoir) : s.keeps k (t.dosingReport r) := by
  unfold State.dosingReport
  split
  · exact h
  · exact ite (fun _ => ite (fun _ => h.startStroke _) (fun _ => h.quiet rfl rfl)) (fun _ => h)

theorem startDose (h : s.keeps k t) (r : Reservoir) (dBase tag : Nat) : s.keeps k (t.startDose r dBase tag) :=
  (h.beginDose ..).dosingReport r

theorem strokeDone (h : s.keeps k t) (d : Dose) : s.keeps k (t.strokeDone d) := by
  have hr := fun x => (h.useProfile (dosingProfileId d.reservoir)).setReservoir d.reservoir x
  exact ite (fun _ => (hr _).quiet (by rfl) (by rfl)) (fun _ => (hr _).doseDone ..)

theorem doseStageChange (h : s.keeps k t) : s.keeps k t.doseStageChange := by
  unfold State.doseStageChange
  split
  · exact h
  · exact ite (fun _ => h) (fun _ => ite (fun _ => h.startStroke _) (fun _ => h.quiet rfl rfl))

theorem pauseDose (h : s.keeps k t) : s.keeps k t.pauseDose := by
  unfold State.pauseDose
  split
  · exact h
  · exact release (h.quiet (by rfl) (by rfl)) _

theorem resumeDose (h : s.keeps k t) : s.keeps k t.resumeDose := by
  unfold State.resumeDose
  split
  · exact h
  · exact ite (fun _ => ite (fun _ => h.doseDone ..) (fun _ => request (h.quiet (by rfl) (by rfl)) ..)) (fun _ => h.abandonDose)

theorem lowCorrection (h : s.keeps k t) (r : Reservoir) : s.keeps k (t.lowCorrection r) := by
  have hr := fun x => (h.useProfile (dosingProfileId r)).setReservoir r x
  exact ite (fun _ => hr _) (fun _ => (hr _).post ..)

theorem lowTold (h : s.keeps k t) (r : Reservoir) (b : Bool) : s.keeps k (t.lowTold r b) :=
  ite (fun _ => (h.setReservoir r _).lowCorrection r) (fun _ => h.setReservoir ..)

/-! #### The DRY phase (07 7.3) -/

theorem enterVent (h : s.keeps k t) (f : DryFields) : s.keeps k (t.enterVent f).1 :=
  ite (fun _ => ((h.setStage .vent).withDry _).request ..) (fun _ => (h.setStage .vent).withDry _)

theorem openedByUser (h : s.keeps k t) (f : DryFields) : s.keeps k (t.openedByUser f).1 :=
  (((h.release .doorActuator).withDry _).post ..).enterVent f

theorem openedByActuator (h : s.keeps k t) (f : DryFields) : s.keeps k (t.openedByActuator f).1 :=
  (((h.release .doorActuator).withDry _).post ..).enterVent f

theorem enterOpening (h : s.keeps k t) : s.keeps k t.enterOpening := ((h.setStage _).request ..).withDry _

theorem enterCondense (h : s.keeps k t) (f : DryFields) : s.keeps k (t.enterCondense f).1 := by
  unfold State.enterCondense
  have hc := (h.setStage .condense).withDry (fun d => { d with condense := 0 })
  dsimp only
  split
  · exact hc.openedByUser f
  · split
    · exact hc.enterOpening
    · exact hc

theorem stopDry (h : s.keeps k t) : s.keeps k t.stopDry := ((h.release .fan).release .doorActuator).withDry _

theorem dropDry (h : s.keeps k t) : s.keeps k t.dropDry := ((h.release .fan).release .doorActuator).quiet rfl rfl

theorem returnDry (h : s.keeps k t) (f : DryFields) : s.keeps k (t.returnDry f).1 := by
  unfold State.returnDry
  dsimp only
  split
  · split
    · exact h.openedByUser f
    · split
      · exact h.enterOpening
      · exact h
  · split
    · exact h.openedByUser f
    · split
      · exact h.request ..
      · exact h
  · split
    · exact h
    · exact ite (fun _ => h.request ..) (fun _ => h)
  · exact h

theorem attemptFailed (h : s.keeps k t) (f : DryFields) (d : DryRecord) : s.keeps k (t.attemptFailed f d).1 := by
  unfold State.attemptFailed
  have hr := h.release .doorActuator
  dsimp only
  split
  · exact hr.withDry _
  · exact ((hr.withDry _).post ..).enterVent f

theorem actuatorReport (h : s.keeps k t) : s.keeps k t.actuatorReport :=
  ite (fun _ => ite (fun _ => ite (fun _ => h.withDry _) (fun _ => h)) (fun _ => ite (fun _ => h.withDry _) (fun _ => h)))
    (fun _ => h)

/-! #### Stages of a WASH run (04 4.2 to 4.6) -/

theorem releaseEngine (h : s.keeps k t) : s.keeps k t.releaseEngine :=
  ((h.release .heater).release .circPump).release .drainPump

theorem setThermostat (h : s.keeps k t) (b : Bool) : s.keeps k (t.setThermostat b) :=
  ite (fun _ => ite (fun _ => h.withHead _) (fun _ => (h.withHead _).request ..)) (fun _ => (h.withHead _).release _)

theorem enterDrain (h : s.keeps k t) : s.keeps k t.enterDrain := by
  have hr := ((h.release .circPump).release .heater).withHead
    (fun h => { h with stage := .drain, drainTimer := 0, timeoutSpent := false, thermostat := false })
  exact ite (fun _ => hr.request ..) (fun _ => hr)

theorem endHold (h : s.keeps k t) (w : WashFields) : s.keeps k (t.endHold w) := ((h.withHead _).abandonDose).enterDrain

theorem reachDosePoint (h : s.keeps k t) (w : WashFields) (p : DosePoint) : s.keeps k (t.reachDosePoint w p) := by
  unfold State.reachDosePoint
  split
  · exact h
  · exact ite (fun _ => (h.withHead _).startDose ..) (fun _ => h)

theorem enterHold (h : s.keeps k t) (w : WashFields) (b : Bool) : s.keeps k (t.enterHold w b) := by
  have hd := ((((h.withHead (fun h => { h with stage := .hold, holdTimer := 0 })).setThermostat b).doseStageChange).reachDosePoint
    w .atSetpoint)
  exact ite (fun _ => hd.endHold w) (fun _ => hd)

theorem circulateJudge (h : s.keeps k t) (w : WashFields) : s.keeps k (t.circulateJudge w) :=
  ite (fun _ => ite (fun _ => h.enterHold ..) (fun _ => h.setThermostat _)) (fun _ => h.setThermostat _)

theorem enterCirculate (h : s.keeps k t) (w : WashFields) : s.keeps k (t.enterCirculate w) := by
  have hd := (((h.setStage .circulate).request .circPump w.speed)).reachDosePoint w .atCirculate
  exact ite (fun _ => hd.enterHold ..) (fun _ => hd.circulateJudge w)

theorem endFill (h : s.keeps k t) (w : WashFields) : s.keeps k (t.endFill w) := h.fillGiveBack.enterCirculate w

theorem requestFillPath (h : s.keeps k t) : s.keeps k t.requestFillPath := by
  unfold State.requestFillPath
  split
  · exact h
  · exact (h.withHead _).fillTake _

/-! #### Heads, phases and the cycle (04 4.8, 4.9) -/

theorem endCycle (h : s.keeps k t) (g : t.opened k) : s.keeps k t.endCycle :=
  ((h.engineState g .idle).quiet (by rfl) (by rfl))

theorem judgeStartDoor (h : s.keeps k t) (g : t.opened k) : s.keeps k t.judgeStartDoor :=
  ite (fun _ => h) (fun _ => (h.engineState g .suspended).quiet (by rfl) (by rfl))

theorem startHead (h : s.keeps k t) (g : t.opened k) : s.keeps k t.startHead.1 := by
  have hd := fun x => judgeStartDoor (t := { t with eng.head := x }) (h.quiet (by rfl) (by rfl)) g
  unfold State.startHead
  split
  · exact h
  · split
    · exact ite (fun _ => (hd _).requestFillPath) (fun _ => hd _)
    · exact ite (fun _ => (hd _).enterDrain) (fun _ => hd _)
    · exact enterCondense (h.quiet (by rfl) (by rfl)) _

theorem completeHead (h : s.keeps k t) : s.keeps k t.completeHead := by
  unfold State.completeHead
  split
  · exact h
  · rename_i p rest hq
    have hp : s.keeps k (State.post { t with chan.flags := applyFlagMasks t.chan.flags p.setMask p.clearMask 0 } .phaseDone 5
        p.tag (State.phaseValue { t with chan.flags := applyFlagMasks t.chan.flags p.setMask p.clearMask 0 } p)) :=
      post (h.quiet (by rfl) (by rfl)) ..
    exact (hp.requeue rest (by simp [hq])).quiet rfl rfl

end Sys2Proof.Machine.State.keeps
end

section
/-! ### The end of a phase, the suspension set and the door -/

namespace Sys2Proof.Machine

theorem State.underWay_of_runningIn {s : State} {st : Stage} (h : s.runningIn st = true) : s.underWay = true := by
  simp [State.underWay, ((State.runningIn_iff s st).mp h).1]

namespace State.keeps

variable {k : Lock} {s t u : State}

/-- An operation that carries a clear latch where the latch is clear keeps everything open. -/
theorem opened_of (op : t.trip.latch = false → t.keeps .clear u) (g : t.opened k) : u.opened k :=
  g.imp_right fun hl => (op hl).locked hl

theorem finishPhase (n : Nat) (h : s.keeps k t) (g : t.opened k) : s.keeps k (State.finishPhase n t) := by
  induction n generalizing t with
  | zero => exact h
  | succ n ih =>
    unfold State.finishPhase
    have gc : t.completeHead.opened k := ((refl .clear t).completeHead).opened g
    dsimp only
    split
    · exact (h.completeHead.post ..).endCycle gc
    · split
      · exact ih (h.completeHead.startHead gc).dropDry
          (opened_of (fun hl => ((refl .clear _).startHead (.inr hl)).dropDry) gc)
      · exact h.completeHead.startHead gc

theorem completePhase (h : s.keeps k t) (g : t.opened k) : s.keeps k t.completePhase := h.finishPhase _ g

theorem finishIf {r : State × Bool} (h : s.keeps k r.1) (g : r.1.opened k) : s.keeps k (finishIf r) :=
  ite (fun _ => h.dropDry.completePhase (((refl .clear _).dropDry).opened g)) (fun _ => h)

theorem cancelEnd (h : s.keeps k t) (g : t.opened k) : s.keeps k t.cancelEnd :=
  endCycle (((h.post .cycleCancelled 4 t.headTag t.eng.totals.clock).requeue t.eng.queue.tail
      ((List.tail_sublist _).map _)).quiet (by rfl) (by rfl)) g

theorem endDrain (h : s.keeps k t) (g : t.opened k) (x : StageRecord) : s.keeps k (t.endDrain x) := by
  have hr := h.release .drainPump
  have gr : (t.release .drainPump).opened k := ((refl .clear t).release _).opened g
  unfold State.endDrain
  dsimp only
  split
  · exact hr.cancelEnd gr
  · split
    · exact hr.completePhase gr
    · split
      · exact requestFillPath ((hr.post .extraRinse 5 _ _).quiet (by rfl) (by rfl))
      · exact hr.completePhase gr

theorem judgeDrain (h : s.keeps k t) : s.keeps k t.judgeDrain := by
  unfold State.judgeDrain
  split
  · split
    case isTrue hc =>
      simp only [Bool.and_eq_true] at hc
      exact h.whenUnderWay (State.underWay_of_runningIn hc.1.1.1) fun h g => h.endDrain g _
    case isFalse => exact h
  · exact h

/-! #### Hand-offs and reports to the running stage -/

theorem holdJudge (h : s.keeps k t) (w : WashFields) : s.keeps k (t.holdJudge w) := (h.useProfile .machine).setThermostat _

theorem engineTemp (h : s.keeps k t) : s.keeps k t.engineTemp := by
  unfold State.engineTemp
  split
  · exact ite (fun _ => h.circulateJudge _) (fun _ => ite (fun _ => h.holdJudge _) (fun _ => h))
  · exact ite (fun _ => h.enterOpening) (fun _ => h)
  · exact h

theorem engineTempLost (h : s.keeps k t) : s.keeps k t.engineTempLost := ite (fun _ => h.setThermostat _) (fun _ => h)

theorem engineLevel (h : s.keeps k t) : s.keeps k t.engineLevel := by
  refine ite (fun _ => ?_) (fun _ => h.judgeDrain)
  split
  · exact ite (fun _ => h.endFill _) (fun _ => h)
  · exact h

theorem exitUpdate (h : s.keeps k t) (hit : Subject → Bool) : s.keeps k (t.exitUpdate hit) := by
  unfold State.exitUpdate
  split
  · split
    · exact h
    · exact ite (fun _ => h.endHold _) (fun _ => h)
  · exact h

theorem flagsUpdate (h : s.keeps k t) (b : Byte) : s.keeps k (t.flagsUpdate b) := exitUpdate (h.quiet (by rfl) (by rfl)) _

theorem roleUpdate (h : s.keeps k t) (r : Role) : s.keeps k (t.roleUpdate r) := h.exitUpdate _

theorem engineVolume (h : s.keeps k t) (v : Nat) : s.keeps k (t.engineVolume v) := by
  unfold State.engineVolume
  split
  · exact h
  · split
    · have hv : s.keeps k (if 0 < v then
          State.withHead { t with eng.totals := { t.eng.totals with fillVolume := min 4294967295 (t.eng.totals.fillVolume + v) } }
            (fun h => { h with stallTimer := 0 })
          else { t with eng.totals := { t.eng.totals with fillVolume := min 4294967295 (t.eng.totals.fillVolume + v) } }) :=
        ite (fun _ => withHead (h.quiet (by rfl) (by rfl)) _) (fun _ => h.quiet rfl rfl)
      exact ite (fun _ => (hv.post ..).endFill _) (fun _ => hv)
    · exact h

theorem engineInlet (h : s.keeps k t) : s.keeps k t.engineInlet := ite (fun _ => h.withHead _) (fun _ => h)

/-! #### Suspension (10 10.1, 10.2) -/

theorem leaveRunning (h : s.keeps k t) (g : t.opened k) : s.keeps k t.leaveRunning := by
  have hs := h.engineState g .suspended
  exact pauseDose (stopDry (releaseEngine (ite (fun _ => hs.fillGiveBack) (fun _ => hs))))

theorem addReason (h : s.keeps k t) (r : SuspReason) : s.keeps k (t.addReason r) := by
  refine ite (fun hu => ?_) (fun _ => h)
  have hs : s.keeps k { t with eng.susp := t.eng.susp.put r true } := h.quiet rfl rfl
  exact ite (fun _ => hs.whenUnderWay hu fun h g => h.leaveRunning g) (fun _ => hs)

theorem reenter (h : s.keeps k t) (g : t.opened k) : s.keeps k t.reenter := by
  unfold State.reenter
  split
  · exact h.requestFillPath
  · exact (h.request ..).circulateJudge _
  · exact (h.request ..).holdJudge _
  · exact (h.request ..).judgeDrain
  · exact (h.returnDry _).finishIf (((refl .clear t).returnDry _).opened g)
  · exact h

theorem returnIfFree (h : s.keeps k t) : s.keeps k t.returnIfFree := by
  refine ite (fun hc => ?_) (fun _ => h)
  have hu : t.underWay = true := by
    simp only [Bool.and_eq_true, decide_eq_true_eq] at hc
    simp [State.underWay, hc.1]
  refine h.whenUnderWay hu fun {j} h g => ?_
  have hr : ∀ {i : Lock} {r : State}, r.keeps i t → t.opened i → r.keeps i (State.resumeDose
      { t with eng.state := .running, eng.totals := { t.eng.totals with held := false } }) :=
    fun h g => resumeDose ((h.engineState g .running).quiet (by rfl) (by rfl))
  exact (hr h g).reenter (opened_of (fun hl => hr (refl .clear t) (.inr hl)) g)

theorem removeReason (h : s.keeps k t) (r : SuspReason) : s.keeps k (t.removeReason r) := returnIfFree (h.quiet (by rfl) (by rfl))

/-! #### The door switches (07 7.1, 7.2) -/

theorem doorDry (h : s.keeps k t) (f : DryFields) (ajar opened shut left : Bool) :
    s.keeps k (t.doorDry f ajar opened shut left) := by
  have fin : ∀ {st : Stage} {r : State → State × Bool}, t.runningIn st = true →
      (∀ {j : Lock} {s t : State}, s.keeps j t → s.keeps j (r t).1) → s.keeps k (Machine.finishIf (r t)) :=
    fun hst hr => h.whenUnderWay (State.underWay_of_runningIn hst) fun h g =>
      (hr h).finishIf ((hr (refl .clear t)).opened g)
  refine ite (fun hc => ite (fun _ => fin (r := fun t => t.openedByUser f) hc fun h => h.openedByUser f) (fun _ => h)) (fun _ =>
    ite (fun ho => ?_) (fun _ => ite (fun hv => ite (fun _ => fin (r := fun t => (t, true)) hv id) (fun _ => h)) (fun _ => h)))
  exact ite (fun _ => fin (r := fun t => t.openedByActuator f) ho fun h => h.openedByActuator f)
    (fun _ => ite (fun _ => fin (r := fun t => t.openedByUser f) ho fun h => h.openedByUser f) (fun _ => h))

theorem doorWash (h : s.keeps k t) (left : Bool) : s.keeps k (t.doorWash left) :=
  ite (fun _ => h.addReason _) (fun _ => ite (fun _ => h.quiet rfl rfl) (fun _ => h))

theorem doorChange (h : s.keeps k t) (sw : DoorSwitch) (level : Bool) : s.keeps k (t.doorChange sw level) := by
  unfold State.doorChange
  refine ite (fun _ => h.quiet rfl rfl) (fun _ => ?_)
  dsimp only
  split
  · exact h.quiet rfl rfl
  · have hd : ∀ (d : DoorUnit) (old : DoorState), s.keeps k (State.markEval
        (State.post { t with door := d } .doorChanged 6 (doorCode d.state) (doorCode old))) :=
      fun d old => (post (h.quiet (by rfl) (by rfl)) ..).markEval
    split
    · split
      · split
        · exact ((hd _ _).quiet (by rfl) (by rfl)).doorDry ..
        · exact ((hd _ _).quiet (by rfl) (by rfl)).doorWash _
      · exact (hd _ _).quiet rfl rfl
    · split
      · split
        · exact ((hd _ _).quiet (by rfl) (by rfl)).doorDry ..
        · exact ((hd _ _).quiet (by rfl) (by rfl)).doorWash _
      · exact (hd _ _).quiet rfl rfl

end State.keeps
end Sys2Proof.Machine
end

section
/-! ### The arbiter's passes (08 8.5)

`State.regrants`: an evaluation's passes change grants, wait causes and the notice queue, and nothing else. Then what they do to
the watts, and which grants may stand after them. -/

namespace Sys2Proof.Machine

/-! #### Loads and their watts -/

theorem mem_allLoads (l : LoadId) : l ∈ allLoads := by cases l <;> decide

theorem allLoads_nodup : allLoads.Nodup := by decide

/-- A pass over loads that writes each load from itself. -/
theorem State.foldl_load {f : State → LoadId → State} {g : LoadId → LoadState → LoadState}
    (hf : ∀ t l k, (f t l).load k = if k = l then g l (t.load l) else t.load k) (ls : List LoadId) (hn : ls.Nodup)
    (s : State) (k : LoadId) : ((ls.foldl f s).load k) = if k ∈ ls then g k (s.load k) else s.load k := by
  induction ls generalizing s with
  | nil => simp
  | cons l ls ih =>
    rw [List.nodup_cons] at hn
    rw [List.foldl_cons, ih hn.2, hf]
    by_cases hk : k = l
    · subst hk; simp [hn.1]
    · simp [hk]

/-- Everything but the loads is as it was. -/
def State.besideLoads (s t : State) : Prop := t = { s with arb.loads := t.arb.loads }

theorem State.besideLoads.trans {s t u : State} (h : s.besideLoads t) (g : t.besideLoads u) : s.besideLoads u := by
  unfold State.besideLoads at *
  exact g.trans (by rw [h])

theorem State.foldl_besideLoads {f : State → LoadId → State} (hf : ∀ (t : State) (l : LoadId), t.besideLoads (f t l))
    (ls : List LoadId) (s : State) : s.besideLoads (ls.foldl f s) := by
  induction ls generalizing s with
  | nil => rfl
  | cons l ls ih => exact (hf s l).trans (ih _)

/-- The grants of loads no longer requested end, and nothing else happens (R148). -/
theorem State.dropReleased_besideLoads (s : State) : s.besideLoads s.dropReleased :=
  State.foldl_besideLoads (fun t l => by split <;> rfl) _ _

theorem State.dropReleased_load (s : State) (l : LoadId) :
    s.dropReleased.load l = if s.requested l then s.load l else { s.load l with grant := none } := by
  have h := State.foldl_load (f := fun t l => if s.requested l then t else t.setGrant l none)
    (g := fun l x => if s.requested l then x else { x with grant := none }) (fun t l k => by
      split
      · split
        · subst k; rfl
        · rfl
      · exact State.setGrant_load t l k none) allLoads allLoads_nodup s l
  rw [if_pos (mem_allLoads l)] at h
  exact h

/-- The watts of a load at a step (R149). -/
def State.wattsAt (s : State) (l : LoadId) : Option Step → Nat
  | none => 0
  | some .full => (s.loadEntry l).contents.rated
  | some .half => (s.loadEntry l).contents.half

theorem State.watts_eq (s : State) (l : LoadId) : s.watts l = s.wattsAt l (s.load l).grant := by
  unfold State.watts State.wattsAt
  split <;> simp_all

theorem State.watts_setGrant (s : State) (l k : LoadId) (g : Option Step) :
    (s.setGrant l g).watts k = if k = l then s.wattsAt l g else s.watts k := by
  rw [State.watts_eq, State.watts_eq, State.setGrant_load]
  split
  · subst k; rfl
  · rfl

theorem State.totalWatts_sum (s : State) : s.totalWatts = (allLoads.map s.watts).sum := by
  rw [State.totalWatts, List.sum_eq_foldl]

theorem map_sum_update {α : Type} [DecidableEq α] (f : α → Nat) (a : α) (y : Nat) (l : List α) (hn : l.Nodup)
    (ha : a ∈ l) : (l.map (fun k => if k = a then y else f k)).sum + f a = (l.map f).sum + y := by
  induction l with
  | nil => simp at ha
  | cons b l ih =>
    rw [List.nodup_cons] at hn
    by_cases hb : b = a
    · subst hb
      have : l.map (fun k => if k = b then y else f k) = l.map f :=
        List.map_congr_left fun k hk => if_neg fun (e : k = b) => hn.1 (e ▸ hk)
      simp [this]; omega
    · have hm : a ∈ l := by simpa [Ne.symm hb] using ha
      have := ih hn.2 hm
      simp [hb]; omega

/-- G moves by the watts of the load whose grant is set (R149). -/
theorem State.totalWatts_setGrant (s : State) (l : LoadId) (g : Option Step) :
    (s.setGrant l g).totalWatts + s.watts l = s.totalWatts + s.wattsAt l g := by
  rw [State.totalWatts_sum, State.totalWatts_sum]
  have : allLoads.map (s.setGrant l g).watts = allLoads.map (fun k => if k = l then s.wattsAt l g else s.watts k) :=
    List.map_congr_left fun k _ => State.watts_setGrant s l k g
  rw [this]
  exact map_sum_update _ _ _ _ allLoads_nodup (mem_allLoads l)

theorem State.totalWatts_ungrant_le (s : State) (l : LoadId) : (s.setGrant l none).totalWatts ≤ s.totalWatts := by
  have h := s.totalWatts_setGrant l none
  have : s.wattsAt l none = 0 := rfl
  omega

theorem State.totalWatts_withdraw_le (s : State) (l : LoadId) : (s.withdraw l).totalWatts ≤ s.totalWatts := by
  unfold State.withdraw
  split
  · exact ((s.setGrant .circPump none).totalWatts_ungrant_le .heater).trans (s.totalWatts_ungrant_le .circPump)
  · exact s.totalWatts_ungrant_le l

/-! #### What the passes leave alone -/

/-- Only grants, wait causes and the notice queue differ. -/
structure State.regrants (s t : State) : Prop where
  rest : t = { s with arb.loads := t.arb.loads, link := t.link }
  own : ∀ l, (t.load l).own = (s.load l).own ∧ (t.load l).forced = (s.load l).forced
  posts : ∃ ns : List Notice, t.link = ns.foldl LinkUnit.post s.link

namespace State.regrants

variable {s t u : State}

theorem refl (s : State) : s.regrants s := ⟨rfl, fun _ => ⟨rfl, rfl⟩, [], rfl⟩

theorem trans (h : s.regrants t) (g : t.regrants u) : s.regrants u := by
  obtain ⟨ns, hn⟩ := h.posts
  obtain ⟨ms, hm⟩ := g.posts
  refine ⟨?_, fun l => ⟨(g.own l).1.trans (h.own l).1, (g.own l).2.trans (h.own l).2⟩, ns ++ ms, ?_⟩
  · exact g.rest.trans (by rw [h.rest])
  · rw [hm, hn, List.foldl_append]

theorem active (h : s.regrants t) : t.arb.active = s.arb.active := (congrArg (fun x : State => x.arb.active) h.rest :)
theorem budget (h : s.regrants t) : t.arb.budget = s.arb.budget := (congrArg (fun x : State => x.arb.budget) h.rest :)
theorem flood (h : s.regrants t) : t.arb.flood = s.arb.flood := (congrArg (fun x : State => x.arb.flood) h.rest :)
theorem zc (h : s.regrants t) : t.arb.zc = s.arb.zc := (congrArg (fun x : State => x.arb.zc) h.rest :)
theorem evalDue (h : s.regrants t) : t.arb.evalDue = s.arb.evalDue := (congrArg (fun x : State => x.arb.evalDue) h.rest :)
theorem reports (h : s.regrants t) : t.arb.reports = s.arb.reports := (congrArg (fun x : State => x.arb.reports) h.rest :)
theorem chan (h : s.regrants t) : t.chan = s.chan := (congrArg (fun x : State => x.chan) h.rest :)
theorem eng (h : s.regrants t) : t.eng = s.eng := (congrArg (fun x : State => x.eng) h.rest :)
theorem soft (h : s.regrants t) : t.soft = s.soft := (congrArg (fun x : State => x.soft) h.rest :)
theorem dosing (h : s.regrants t) : t.dosing = s.dosing := (congrArg (fun x : State => x.dosing) h.rest :)
theorem door (h : s.regrants t) : t.door = s.door := (congrArg (fun x : State => x.door) h.rest :)
theorem trip (h : s.regrants t) : t.trip = s.trip := (congrArg (fun x : State => x.trip) h.rest :)
theorem now (h : s.regrants t) : t.now = s.now := (congrArg (fun x : State => x.now) h.rest :)
theorem pending (h : s.regrants t) : t.pending = s.pending := (congrArg (fun x : State => x.pending) h.rest :)

theorem loadEntry (h : s.regrants t) (l : LoadId) : t.loadEntry l = s.loadEntry l := by
  simp [State.loadEntry, h.active]

theorem available (h : s.regrants t) (l : LoadId) : t.available l = s.available l := by
  simp [State.available, h.loadEntry]

theorem priority (h : s.regrants t) (l : LoadId) : t.priority l = s.priority l := by
  simp [State.priority, h.loadEntry]

theorem requested (h : s.regrants t) (l : LoadId) : t.requested l = s.requested l := by
  simp [State.requested, (h.own l).1, (h.own l).2, h.flood]

theorem commonInterlock (h : s.regrants t) (l : LoadId) : t.commonInterlock l = s.commonInterlock l := by
  simp [State.commonInterlock, h.zc, h.trip, h.flood]

theorem wattsAt (h : s.regrants t) (l : LoadId) (g : Option Step) : t.wattsAt l g = s.wattsAt l g := by
  unfold State.wattsAt; rw [h.loadEntry]

/-- What else the interlocks of R151 read. -/
theorem levelSafe (h : s.regrants t) :
    t.fresh .tubLevel = s.fresh .tubLevel ∧ t.machine = s.machine ∧ t.roleValue .tubLevel = s.roleValue .tubLevel := by
  refine ⟨?_, ?_, ?_⟩
  · simp [State.fresh, State.roleFreshness, State.bound, h.chan]
  · simp [State.machine, h.trip, h.eng]
  · simp [State.roleValue, State.bound, h.chan]

theorem setGrant (s : State) (l : LoadId) (g : Option Step) : s.regrants (s.setGrant l g) :=
  ⟨rfl, fun k => by rw [State.setGrant_load]; split <;> simp_all, [], rfl⟩

theorem post (s : State) (k : NoticeKind) (l n : Nat) (v : Int) : s.regrants (s.post k l n v) :=
  ⟨rfl, fun _ => ⟨rfl, rfl⟩, [s.notice k l n v], rfl⟩

theorem withdraw (s : State) (l : LoadId) : s.regrants (s.withdraw l) := by
  unfold State.withdraw
  split
  · exact (setGrant ..).trans (setGrant ..)
  · exact setGrant ..

theorem recheck (s : State) (l : LoadId) : s.regrants (s.recheck l) := by
  unfold State.recheck
  split
  · exact withdraw ..
  · exact refl s

theorem foldl {α : Type} {f : State → α → State} (hf : ∀ (t : State) (a : α), t.regrants (f t a)) (l : List α) (s : State) :
    s.regrants (l.foldl f s) := by
  induction l generalizing s with
  | nil => exact refl s
  | cons a l ih => exact (hf s a).trans (ih _)

theorem passOne (s : State) : s.regrants s.passOne := (foldl recheck _ _).trans (recheck ..)

theorem budgetCut (n : Nat) (s : State) : s.regrants (State.budgetCut n s) := by
  induction n generalizing s with
  | zero => exact refl s
  | succ n ih =>
    unfold State.budgetCut
    split
    · split
      · exact refl s
      · exact (withdraw ..).trans (ih _)
    · exact refl s

theorem shed (c : LoadId) (need n : Nat) (s : State) : s.regrants (State.shed c need n s) := by
  induction n generalizing s with
  | zero => exact refl s
  | succ n ih =>
    unfold State.shed
    split
    · exact refl s
    · split
      · exact refl s
      · exact ((withdraw ..).trans (post ..)).trans (ih _)

end State.regrants

/-- A preemption is what the withdrawals leave, where they make the room (R158). -/
theorem State.preempt_eq_some {s t : State} {c : LoadId} {need : Nat} (h : s.preempt c need = some t) :
    t = State.shed c need 11 s ∧ need ≤ t.room := by
  unfold State.preempt at h
  dsimp only at h
  split at h
  · split at h
    · cases h; exact ⟨rfl, by assumption⟩
    · cases h
  · cases h

/-- What a candidate's turn does (R157): nothing, a grant where its watts fit, or a grant after preemption. -/
theorem State.turn_cases (s : State) (l : LoadId) :
    s.turn l = s ∨
      (s.candidate l = true ∧ s.interlock l = true ∧
        ∃ (t : State) (g : Step), s.turn l = t.setGrant l (some g) ∧ s.wattsAt l (some g) ≤ t.room ∧
          (g = .half → l = .heater) ∧ (t = s ∨ ∃ need, t = State.shed l need 11 s)) := by
  unfold State.turn
  split
  case isFalse => exact .inl rfl
  case isTrue hc =>
    rw [Bool.and_eq_true] at hc
    unfold State.place
    dsimp only
    split
    case isTrue hfit => exact .inr ⟨hc.1, hc.2, s, .full, rfl, hfit, by simp, .inl rfl⟩
    case isFalse =>
      split
      case isTrue hhalf => exact .inr ⟨hc.1, hc.2, s, .half, rfl, hhalf.1 ▸ hhalf.2, fun _ => hhalf.1, .inl rfl⟩
      case isFalse =>
        split
        · rename_i t _ ht
          obtain ⟨rfl, hr⟩ := State.preempt_eq_some ht
          exact .inr ⟨hc.1, hc.2, _, .full, rfl, hr, by simp, .inr ⟨_, rfl⟩⟩
        · rename_i t _ ht
          split at ht
          · rename_i hl
            obtain ⟨rfl, hr⟩ := State.preempt_eq_some ht
            exact .inr ⟨hc.1, hc.2, _, .half, rfl, hr, fun _ => hl, .inr ⟨_, rfl⟩⟩
          · cases ht
        · exact .inl rfl

namespace State.regrants

variable {s t u : State}

theorem turn (s : State) (l : LoadId) : s.regrants (s.turn l) := by
  rcases s.turn_cases l with h | ⟨-, -, t, g, h, -, -, rfl | ⟨need, rfl⟩⟩
  · rw [h]; exact refl s
  · rw [h]; exact setGrant ..
  · rw [h]; exact (shed ..).trans (setGrant ..)

theorem upgrade (s : State) : s.regrants s.upgrade := by
  unfold State.upgrade
  dsimp only
  split
  · exact setGrant ..
  · exact refl s

theorem setCauses (s : State) : s.regrants s.setCauses := by
  unfold State.setCauses
  refine foldl (fun t l => ?_) _ _
  exact ⟨rfl, fun k => by rw [State.setLoad_load]; split <;> simp_all, [], rfl⟩

end State.regrants

/-- A property that every turn keeps holds after the walk over the places. -/
theorem State.walk_induct {p : State → Prop} (hp : ∀ t l, p t → p (t.turn l)) (d : Bool) (ls : List LoadId) (s : State)
    (h : p s) : p (State.walk d ls s) := by
  induction ls generalizing d s with
  | nil => exact h
  | cons l ls ih =>
    unfold State.walk
    split
    · split
      · exact ih _ _ h
      · exact ih _ _ (hp _ _ h)
    · dsimp only
      split
      · exact ih _ _ (hp _ _ (hp _ _ h))
      · exact ih _ _ (hp _ _ h)
    · exact ih _ _ (hp _ _ h)

theorem State.grantPass_induct {p : State → Prop} (hp : ∀ t l, p t → p (t.turn l)) (s : State) (h : p s) :
    p s.grantPass := by
  unfold State.grantPass
  dsimp only
  split
  · exact State.walk_induct hp _ _ _ (hp _ _ h)
  · exact State.walk_induct hp _ _ _ h

theorem State.regrants.grantPass (s : State) : s.regrants s.grantPass :=
  State.grantPass_induct (p := fun t => s.regrants t) (fun t l h => h.trans (.turn t l)) s (.refl s)

end Sys2Proof.Machine
end

section
/-! #### What the passes leave granted -/

namespace Sys2Proof.Machine

theorem State.isGranted_setGrant (s : State) (l k : LoadId) (g : Option Step) :
    (s.setGrant l g).isGranted k = if k = l then g.isSome else s.isGranted k := by
  unfold State.isGranted
  rw [State.setGrant_load]
  split
  · subst k; rfl
  · rfl

theorem State.isGranted_withdraw (s : State) (l k : LoadId) :
    (s.withdraw l).isGranted k = (s.isGranted k && !(decide (k = l) || (decide (k = .heater) && decide (l = .circPump)))) := by
  unfold State.withdraw
  split
  · subst l
    rw [State.isGranted_setGrant, State.isGranted_setGrant]
    cases k <;> simp
  · rename_i hl
    rw [State.isGranted_setGrant]
    by_cases hk : k = l <;> simp [hk, hl]

theorem State.withdraw_load (s : State) (l k : LoadId) (h : (s.withdraw l).isGranted k = true) :
    (s.withdraw l).load k = s.load k := by
  rw [State.isGranted_withdraw] at h
  simp only [Bool.and_eq_true, Bool.not_eq_true', Bool.or_eq_false_iff, Bool.and_eq_false_imp, decide_eq_false_iff_not,
    decide_eq_true_eq] at h
  obtain ⟨-, hkl, hkc⟩ := h
  unfold State.withdraw
  split
  · rename_i hl
    have hk : k ≠ .heater := fun e => hkc e hl
    rw [State.setGrant_load, if_neg hk, State.setGrant_load, if_neg (hl ▸ hkl)]
  · rw [State.setGrant_load, if_neg hkl]

/-- Grants are withdrawn, HEATER's with CIRC_PUMP's (R152), and no grant is given. -/
structure State.withdraws (s t : State) : Prop where
  regrants : s.regrants t
  kept : ∀ l, t.isGranted l = true → t.load l = s.load l
  follows : t.isGranted .heater = true → s.isGranted .circPump = true → t.isGranted .circPump = true

namespace State.withdraws

variable {s t u : State}

theorem refl (s : State) : s.withdraws s := ⟨.refl s, fun _ _ => rfl, fun _ => id⟩

theorem granted (h : s.withdraws t) {l : LoadId} (hl : t.isGranted l = true) : s.isGranted l = true := by
  unfold State.isGranted at *
  rwa [← h.kept l hl]

theorem ungranted (h : s.withdraws t) {l : LoadId} (hl : s.isGranted l = false) : t.isGranted l = false := by
  cases ht : t.isGranted l
  · rfl
  · exact absurd (h.granted ht) (by simp [hl])

theorem trans (h : s.withdraws t) (g : t.withdraws u) : s.withdraws u :=
  ⟨h.regrants.trans g.regrants, fun l hl => (g.kept l hl).trans (h.kept l (g.granted hl)),
    fun hu hs => g.follows hu (h.follows (g.granted hu) hs)⟩

theorem withdraw (s : State) (l : LoadId) : s.withdraws (s.withdraw l) :=
  ⟨.withdraw s l, s.withdraw_load l, fun h hc => by
    rw [State.isGranted_withdraw] at h ⊢
    cases l <;> simp_all⟩

theorem post (s : State) (k : NoticeKind) (l n : Nat) (v : Int) : s.withdraws (s.post k l n v) :=
  ⟨.post s k l n v, fun _ _ => rfl, fun _ => id⟩

theorem recheck (s : State) (l : LoadId) : s.withdraws (s.recheck l) := by
  unfold State.recheck
  split
  · exact withdraw s l
  · exact refl s

theorem foldl {f : State → LoadId → State} (hf : ∀ (t : State) (l : LoadId), t.withdraws (f t l)) (ls : List LoadId)
    (s : State) : s.withdraws (ls.foldl f s) := by
  induction ls generalizing s with
  | nil => exact refl s
  | cons l ls ih => exact (hf s l).trans (ih _)

theorem passOne (s : State) : s.withdraws s.passOne := (foldl recheck _ _).trans (recheck ..)

theorem budgetCut (n : Nat) (s : State) : s.withdraws (State.budgetCut n s) := by
  induction n generalizing s with
  | zero => exact refl s
  | succ n ih =>
    unfold State.budgetCut
    split
    · split
      · exact refl s
      · exact (withdraw ..).trans (ih _)
    · exact refl s

theorem shed (c : LoadId) (need n : Nat) (s : State) : s.withdraws (State.shed c need n s) := by
  induction n generalizing s with
  | zero => exact refl s
  | succ n ih =>
    unfold State.shed
    split
    · exact refl s
    · split
      · exact refl s
      · exact ((withdraw ..).trans (post ..)).trans (ih _)

/-- The watts of what stays granted are no more. -/
theorem totalWatts_le (h : s.withdraws t) : t.totalWatts ≤ s.totalWatts := by
  rw [State.totalWatts_sum, State.totalWatts_sum]
  refine List.sum_le_sum fun l _ => ?_
  rw [State.watts_eq, State.watts_eq, h.regrants.wattsAt]
  cases ht : (t.load l).grant with
  | none => exact Nat.zero_le _
  | some g => rw [← ht, h.kept l (by simp [State.isGranted, ht])]

/-- An interlock other than HEATER's that holds still holds with fewer grants (R151). -/
theorem interlock (h : s.withdraws t) {l : LoadId} (hl : l ≠ .heater) (hi : s.interlock l = true) :
    t.interlock l = true := by
  unfold State.interlock at *
  rw [h.regrants.commonInterlock]
  rw [Bool.and_eq_true] at hi ⊢
  refine ⟨hi.1, ?_⟩
  obtain ⟨-, hi⟩ := hi
  cases l with
  | heater => exact absurd rfl hl
  | inletValve =>
    simp only [State.inletInterlock, h.regrants.soft, h.regrants.door, Bool.and_eq_true, Bool.or_eq_true,
      decide_eq_true_eq, Bool.not_eq_true'] at hi ⊢
    exact ⟨hi.1, hi.2.imp_right fun hd => ⟨hd.1, h.ungranted hd.2⟩⟩
  | drainPump =>
    simp only [State.inletOnTub, h.regrants.soft, h.regrants.flood, Bool.or_eq_true, Bool.not_eq_true',
      Bool.and_eq_false_imp] at hi ⊢
    exact hi.imp_right fun hd ht => hd (h.granted ht)
  | _ => rfl

/-- HEATER's interlock stays where HEATER does. -/
theorem interlock_heater (h : s.withdraws t) (ht : t.isGranted .heater = true) (hi : s.interlock .heater = true) :
    t.interlock .heater = true := by
  obtain ⟨hf, hm, hv⟩ := h.regrants.levelSafe
  simp only [State.interlock, State.heaterInterlock, h.regrants.commonInterlock, hf, hm, hv, Bool.and_eq_true] at hi ⊢
  exact ⟨hi.1, ⟨h.follows ht hi.2.1.1, hi.2.1.2⟩, hi.2.2⟩

end State.withdraws

/-- A granted load is available and its interlock holds (R155). -/
def State.allFit (s : State) : Prop := ∀ l, s.isGranted l = true → s.available l = true ∧ s.interlock l = true

/-- A granted load is available and what all interlocks ask holds, mains and latch (R151, R154). -/
def State.allCommon (s : State) : Prop :=
  ∀ l, s.isGranted l = true → s.available l = true ∧ s.commonInterlock l = true

theorem State.allCommon_of_allFit {s : State} (h : s.allFit) : s.allCommon := fun l hl =>
  ⟨(h l hl).1, (Bool.and_eq_true_iff.mp (h l hl).2).1⟩

theorem State.withdraws.allFit {s t : State} (h : s.withdraws t) (hs : s.allFit) : t.allFit := fun l hl => by
  obtain ⟨ha, hi⟩ := hs l (h.granted hl)
  refine ⟨h.regrants.available l ▸ ha, ?_⟩
  by_cases e : l = .heater
  · subst e; exact h.interlock_heater hl hi
  · exact h.interlock e hi

/-- A load that pass 1 has judged is out, or stands. -/
theorem State.recheck_fit (s : State) (l : LoadId) (h : (s.recheck l).isGranted l = true) :
    s.recheck l = s ∧ s.available l = true ∧ s.interlock l = true := by
  unfold State.recheck at *
  split
  · rename_i hc
    rw [if_pos hc, State.isGranted_withdraw] at h
    simp at h
  · rename_i hc
    rw [if_neg hc] at h
    simp_all

theorem State.foldl_recheck_fit (ls : List LoadId) (hh : .heater ∉ ls) (s : State) :
    ∀ l ∈ ls, (ls.foldl State.recheck s).isGranted l = true →
      (ls.foldl State.recheck s).available l = true ∧ (ls.foldl State.recheck s).interlock l = true := by
  induction ls generalizing s with
  | nil => simp
  | cons k ls ih =>
    intro l hl hg
    rw [List.foldl_cons] at hg ⊢
    have w : (s.recheck k).withdraws (ls.foldl State.recheck (s.recheck k)) := .foldl .recheck _ _
    rcases List.mem_cons.mp hl with rfl | hm
    · obtain ⟨e, ha, hi⟩ := s.recheck_fit l (w.granted hg)
      refine ⟨w.regrants.available l ▸ e.symm ▸ ha, w.interlock (fun e => hh (by simp [e])) (e.symm ▸ hi)⟩
    · exact ih (fun e => hh (by simp [e])) _ l hm hg

/-- Pass 1 leaves only grants that stand (R155). -/
theorem State.passOne_allFit (s : State) : s.passOne.allFit := by
  intro l hl
  unfold State.passOne at *
  generalize ht : (allLoads.drop 1).foldl State.recheck s = t at *
  by_cases e : l = .heater
  · subst e
    obtain ⟨e, ha, hi⟩ := t.recheck_fit _ hl
    rw [e]; exact ⟨ha, hi⟩
  · have w := State.withdraws.recheck t .heater
    have hm : l ∈ allLoads.drop 1 := (List.mem_cons.mp (mem_allLoads l)).resolve_left e
    obtain ⟨ha, hi⟩ := ht ▸ State.foldl_recheck_fit (allLoads.drop 1) (by decide) s l hm (ht.symm ▸ w.granted hl)
    exact ⟨w.regrants.available l ▸ ha, w.interlock e hi⟩

/-! #### The budget cut (R156) -/

theorem State.worst_mem (s : State) (ls : List LoadId) (hl : ls ≠ []) : ∃ l ∈ ls, s.worst ls = some l := by
  have fold : ∀ (ls : List LoadId) (b : LoadId), ∃ l ∈ b :: ls, ls.foldl s.worse (some b) = some l := by
    intro ls
    induction ls with
    | nil => exact fun b => ⟨b, by simp⟩
    | cons k ls ih =>
      intro b
      simp only [List.foldl_cons, State.worse]
      split
      · obtain ⟨l, hm, h⟩ := ih k; exact ⟨l, by simp at hm ⊢; tauto, h⟩
      · obtain ⟨l, hm, h⟩ := ih b; exact ⟨l, by simp at hm ⊢; tauto, h⟩
  cases ls with
  | nil => exact absurd rfl hl
  | cons k ls => exact fold ls k

theorem State.worst_eq_some {s : State} {ls : List LoadId} {l : LoadId} (h : s.worst ls = some l) : l ∈ ls := by
  cases ls with
  | nil => cases h
  | cons k ls =>
    obtain ⟨m, hm, e⟩ := s.worst_mem (k :: ls) (by simp)
    rw [h] at e; cases e; exact hm

theorem State.worst_eq_none {s : State} {ls : List LoadId} (h : s.worst ls = none) : ls = [] := by
  cases ls with
  | nil => rfl
  | cons k ls =>
    obtain ⟨m, -, e⟩ := s.worst_mem (k :: ls) (by simp)
    rw [h] at e; cases e

/-- A withdrawal shortens every list of granted loads that the withdrawn one is on. -/
theorem filter_length_lt {p q : LoadId → Bool} (hq : ∀ l, q l = true → p l = true) {l : LoadId} (hp : p l = true)
    (hl : q l = false) (ls : List LoadId) (hm : l ∈ ls) : (ls.filter q).length < (ls.filter p).length := by
  induction ls with
  | nil => simp at hm
  | cons k ls ih =>
    have le : (ls.filter q).length ≤ (ls.filter p).length := (List.monotone_filter_right ls hq).length_le
    rcases List.mem_cons.mp hm with rfl | hm
    · simp [hp, hl]; omega
    · have := ih hm
      rw [List.filter_cons, List.filter_cons]
      have := hq k
      split <;> split <;> simp_all

theorem State.totalWatts_of_noneGranted {s : State} (h : allLoads.filter s.isGranted = []) : s.totalWatts = 0 := by
  rw [State.totalWatts_sum]
  refine List.sum_eq_zero fun x hx => ?_
  obtain ⟨l, hl, rfl⟩ := List.mem_map.mp hx
  have hn : (s.load l).grant = none := by simpa [State.isGranted] using List.filter_eq_nil_iff.mp h l hl
  rw [State.watts_eq, hn, State.wattsAt]

/-- A cut that may take every granted load ends within B (R156). -/
theorem State.budgetCut_budgetKept (n : Nat) (s : State) (h : (allLoads.filter s.isGranted).length ≤ n) :
    (State.budgetCut n s).budgetKept := by
  induction n generalizing s with
  | zero =>
    have hw := State.totalWatts_of_noneGranted (List.length_eq_zero_iff.mp (Nat.le_zero.mp h))
    exact hw.le.trans (Nat.zero_le _)
  | succ n ih =>
    unfold State.budgetCut
    split
    case isFalse hc => exact not_lt.mp hc
    case isTrue hc =>
      split
      case h_1 hw =>
        rw [State.totalWatts_of_noneGranted (State.worst_eq_none hw)] at hc
        exact absurd hc (Nat.not_lt_zero _)
      case h_2 l hw =>
        obtain ⟨hmem, hg⟩ := List.mem_filter.mp (State.worst_eq_some hw)
        have fewer : (allLoads.filter (s.withdraw l).isGranted).length < (allLoads.filter s.isGranted).length :=
          filter_length_lt (p := s.isGranted) (q := (s.withdraw l).isGranted) (fun k hk =>
            (State.withdraws.withdraw s l).granted hk) hg (by simp [State.isGranted_withdraw]) _ hmem
        exact ih _ (Nat.le_of_lt_succ (fewer.trans_le h))

end Sys2Proof.Machine
end

section
/-! #### The grant pass (R157 to R159) -/

namespace Sys2Proof.Machine

/-- HEATER spares CIRC_PUMP in its preemption (R158). -/
theorem State.shed_circPump (need n : Nat) (s : State) :
    (State.shed .heater need n s).isGranted .circPump = s.isGranted .circPump := by
  induction n generalizing s with
  | zero => rfl
  | succ n ih =>
    unfold State.shed
    split
    · rfl
    · split
      · rfl
      · rename_i l hw
        have hm := State.worst_eq_some hw
        have hl : l ≠ .circPump := by rintro rfl; simp [State.victims] at hm
        rw [ih]
        exact (s.isGranted_withdraw l .circPump).trans (by simp [Ne.symm hl])

/-- A load that is out is given a grant that its watts fit. -/
structure State.gives (s : State) (l : LoadId) (t : State) : Prop where
  ok : ∃ (u : State) (g : Step), s.withdraws u ∧ t = u.setGrant l (some g) ∧ s.isGranted l = false ∧
    s.available l = true ∧ u.interlock l = true ∧ u.wattsAt l (some g) ≤ u.room

/-- What a candidate's turn does (R157). -/
theorem State.turn_gives (s : State) (l : LoadId) : s.turn l = s ∨ s.gives l (s.turn l) := by
  rcases s.turn_cases l with h | ⟨hc, hi, t, g, h, hw, -, hs⟩
  · exact .inl h
  · simp only [State.candidate, Bool.and_eq_true, Bool.not_eq_true'] at hc
    have w : s.withdraws t := by
      rcases hs with rfl | ⟨need, rfl⟩
      · exact .refl _
      · exact .shed ..
    refine .inr ⟨t, g, w, h, hc.1.2, hc.2, ?_, w.regrants.wattsAt l _ ▸ hw⟩
    by_cases e : l = .heater
    · subst e
      obtain ⟨hf, hm, hv⟩ := w.regrants.levelSafe
      have circ : t.isGranted .circPump = s.isGranted .circPump := by
        rcases hs with rfl | ⟨need, rfl⟩
        · rfl
        · exact s.shed_circPump ..
      simpa only [State.interlock, State.heaterInterlock, w.regrants.commonInterlock, hf, hm, hv, circ] using hi
    · exact w.interlock e hi

/-- A load that is out has no watts. -/
theorem State.watts_of_ungranted {s : State} {l : LoadId} (h : s.isGranted l = false) : s.watts l = 0 := by
  have : (s.load l).grant = none := by simpa [State.isGranted] using h
  rw [State.watts_eq, this, State.wattsAt]

namespace State.gives

variable {s t : State} {l : LoadId}

theorem budgetKept (h : s.gives l t) (hb : s.budgetKept) : t.budgetKept := by
  obtain ⟨u, g, w, rfl, hg, -, -, hw⟩ := h.ok
  have hub : u.budgetKept := w.totalWatts_le.trans (w.regrants.budget ▸ hb)
  have sum := u.totalWatts_setGrant l (some g)
  rw [State.watts_of_ungranted (w.ungranted hg)] at sum
  have : u.totalWatts + (u.arb.budget - u.totalWatts) = u.arb.budget := Nat.add_sub_cancel' hub
  show _ ≤ u.arb.budget
  unfold State.room at hw
  omega

theorem regrants (h : s.gives l t) : s.regrants t := by
  obtain ⟨u, g, w, rfl, -⟩ := h.ok
  exact w.regrants.trans (.setGrant ..)

theorem allCommon (h : s.gives l t) (hs : s.allCommon) : t.allCommon := by
  have r := h.regrants
  obtain ⟨u, g, w, rfl, -, ha, hi, -⟩ := h.ok
  intro k hk
  rw [r.available, r.commonInterlock]
  rw [State.isGranted_setGrant] at hk
  split at hk
  · subst k
    exact ⟨ha, w.regrants.commonInterlock l ▸ (Bool.and_eq_true_iff.mp hi).1⟩
  · exact hs k (w.granted hk)

/-- With one more grant, DRAIN_PUMP's own interlock and INLET_VALVE's keep the two apart on TUB (R151); under FLOOD no other
load has its interlock at all (R154). -/
theorem interlock_setGrant {u : State} (hf : u.floodKept) (hu : u.allFit) {g : Option Step}
    (hi : u.interlock l = true) {k : LoadId} (hk : k = l ∨ u.isGranted k = true) (hg : g.isSome = true) :
    (u.setGrant l g).interlock k = true := by
  have rg : u.regrants (u.setGrant l g) := .setGrant ..
  have hki : u.interlock k = true := hk.elim (fun e => e ▸ hi) fun hk => (hu k hk).2
  have noFlood : k ≠ .drainPump → u.arb.flood = false := by
    intro hne
    have hc := (Bool.and_eq_true_iff.mp hki).1
    simp only [State.commonInterlock, Bool.and_eq_true, Bool.or_eq_true, Bool.not_eq_true', decide_eq_true_eq] at hc
    cases hfl : u.arb.flood
    · rfl
    · rcases hc.2 with h | h
      · exact absurd ((hf hfl).1.symm.trans h) (by decide)
      · exact absurd h.1 hne
  obtain ⟨hfr, hm, hv⟩ := rg.levelSafe
  simp only [State.interlock, rg.commonInterlock, State.heaterInterlock, State.inletInterlock, State.inletOnTub, hfr, hm,
    hv, rg.soft, rg.door, rg.flood, State.isGranted_setGrant, hg] at hi hki ⊢
  cases k with
  | heater => simp at hki ⊢; tauto
  | inletValve =>
    have := noFlood (by decide)
    cases l <;> simp_all
  | drainPump => cases l <;> simp_all
  | _ => simpa using hki

/-- Where the arbiter's own request stands only under a FLOOD trip, a grant leaves every other one standing. -/
theorem allFit (h : s.gives l t) (hf : s.floodKept) (hs : s.allFit) : t.allFit := by
  have r := h.regrants
  obtain ⟨u, g, w, rfl, -, ha, hi, -⟩ := h.ok
  have hu := w.allFit hs
  have hfu : u.floodKept := by simpa [State.floodKept, w.regrants.flood, w.regrants.trip] using hf
  intro k hk
  rw [State.isGranted_setGrant] at hk
  have hk : k = l ∨ u.isGranted k = true := by
    by_cases e : k = l
    · exact .inl e
    · exact .inr (by simpa [e] using hk)
  refine ⟨?_, interlock_setGrant hfu hu hi hk rfl⟩
  rw [r.available]
  rcases hk with rfl | hk
  · exact ha
  · exact (hs k (w.granted hk)).1

end State.gives
end Sys2Proof.Machine
end

section
namespace Sys2Proof.Machine

theorem State.upgrade_isGranted (s : State) (l : LoadId) : s.upgrade.isGranted l = s.isGranted l := by
  unfold State.upgrade
  dsimp only
  split
  · rename_i h
    rw [State.give, State.isGranted_setGrant]
    split
    · subst l; simp [State.isGranted, h.1]
    · rfl
  · rfl

theorem State.upgrade_budgetKept {s : State} (h : s.budgetKept) : s.upgrade.budgetKept := by
  unfold State.upgrade
  dsimp only
  split
  · rename_i hc
    have sum := s.totalWatts_setGrant .heater (some .full)
    rw [State.watts_eq, hc.1] at sum
    simp only [State.wattsAt] at sum
    show _ ≤ s.arb.budget
    unfold State.give
    omega
  · exact h

/-- The wait causes of an evaluation (R155). -/
theorem State.setCauses_load (s : State) (l : LoadId) : s.setCauses.load l = { s.load l with cause := s.causeOf l } := by
  unfold State.setCauses
  rw [State.foldl_load (g := fun l x => { x with cause := s.causeOf l })
    (fun t l k => by rw [State.setLoad_load]) allLoads allLoads_nodup, if_pos (mem_allLoads l)]

theorem State.setCauses_totalWatts (s : State) : s.setCauses.totalWatts = s.totalWatts := by
  rw [State.totalWatts_sum, State.totalWatts_sum]
  refine congrArg List.sum (List.map_congr_left fun l _ => ?_)
  rw [State.watts_eq, State.watts_eq, State.setCauses_load, (State.regrants.setCauses s).wattsAt]

theorem State.setCauses_isGranted (s : State) (l : LoadId) : s.setCauses.isGranted l = s.isGranted l := by
  rw [State.isGranted, State.setCauses_load, State.isGranted]

/-- The grants that an evaluation places, on entries and a profile already checked (R155 to R159). -/
def State.placing (s : State) : State := (State.budgetCut 11 s.passOne).grantPass.upgrade

theorem State.regrants.placing (s : State) : s.regrants s.placing :=
  (((State.withdraws.passOne s).trans (.budgetCut 11 _)).regrants.trans (.grantPass _)).trans (.upgrade _)

/-- What an evaluation's passes do, by the names of their parts. -/
theorem State.passes_eq (s : State) :
    s.passes = { s.checkHeater.checkEntries.placing.setCauses with arb.evalDue := false } := by
  simp only [State.passes, State.placing]

theorem State.granted_length_le (s : State) : (allLoads.filter s.isGranted).length ≤ 11 :=
  (List.length_filter_le ..).trans (by decide)

theorem State.placing_budgetKept (s : State) : s.placing.budgetKept := by
  refine State.upgrade_budgetKept (State.grantPass_induct (p := State.budgetKept) (fun t l ht => ?_) _
    (State.budgetCut_budgetKept 11 _ (State.granted_length_le _)))
  rcases t.turn_gives l with h | h
  · rwa [h]
  · exact h.budgetKept ht

theorem State.placing_allCommon (s : State) : s.placing.allCommon := by
  have pass : (State.budgetCut 11 s.passOne).grantPass.allCommon :=
    State.grantPass_induct (p := State.allCommon)
      (fun t l ht => (t.turn_gives l).elim (fun h => by rwa [h]) (fun h => h.allCommon ht)) _
      (State.allCommon_of_allFit ((State.withdraws.budgetCut 11 _).allFit s.passOne_allFit))
  intro l hl
  have r := State.regrants.upgrade (State.budgetCut 11 s.passOne).grantPass
  rw [State.placing] at hl ⊢
  rw [State.upgrade_isGranted] at hl
  rw [r.available, r.commonInterlock]
  exact pass l hl

theorem State.placing_allFit (s : State) (hf : s.floodKept) : s.placing.allFit := by
  have pass : (State.budgetCut 11 s.passOne).grantPass.floodKept ∧ (State.budgetCut 11 s.passOne).grantPass.allFit := by
    refine State.grantPass_induct (p := fun t => t.floodKept ∧ t.allFit) (fun t l ht => ?_) _ ⟨?_, ?_⟩
    · refine ⟨?_, (t.turn_gives l).elim (fun h => by rw [h]; exact ht.2) (fun h => h.allFit ht.1 ht.2)⟩
      simpa [State.floodKept, (State.regrants.turn t l).flood, (State.regrants.turn t l).trip] using ht.1
    · have r := ((State.withdraws.passOne s).trans (.budgetCut 11 _)).regrants
      simpa [State.floodKept, r.flood, r.trip] using hf
    · exact (State.withdraws.budgetCut 11 _).allFit s.passOne_allFit
  intro l hl
  have r := State.regrants.upgrade (State.budgetCut 11 s.passOne).grantPass
  rw [State.placing, State.upgrade_isGranted] at hl
  rw [State.placing, r.available]
  refine ⟨(pass.2 l hl).1, ?_⟩
  have hi := (pass.2 l hl).2
  obtain ⟨hfr, hm, hv⟩ := r.levelSafe
  simpa only [State.interlock, r.commonInterlock, State.heaterInterlock, State.inletInterlock, State.inletOnTub, hfr, hm,
    hv, r.soft, r.door, r.flood, State.upgrade_isGranted] using hi

/-- Without mains, or with the latch set, only what the common interlock lets stand is granted. -/
theorem State.allCommon.mainsKept {s : State} (h : s.allCommon) : s.mainsKept := by
  intro hp l
  cases hg : (s.load l).grant
  · rfl
  · have := (h l (by simp [State.isGranted, hg])).2
    simp [State.commonInterlock, hp] at this

theorem State.allCommon.tripGrantsKept {s : State} (h : s.allCommon) : s.tripGrantsKept := by
  intro hl l hg
  have := (h l (by simpa [State.isGranted, Option.isSome_iff_ne_none] using hg)).2
  simp [State.commonInterlock, hl] at this
  exact this.2

/-- A fold of postings keeps the bound of the notice queue, and changes nothing else of the link port but the line and the
overrun flag (R197). -/
theorem LinkUnit.foldl_post (ns : List Notice) (l : LinkUnit) :
    (l.notices.length ≤ 32 → (ns.foldl LinkUnit.post l).notices.length ≤ 32) ∧
      { ns.foldl LinkUnit.post l with notices := [], overrun := false, attn := false }
        = { l with notices := [], overrun := false, attn := false } := by
  induction ns generalizing l with
  | nil => exact ⟨id, rfl⟩
  | cons n ns ih =>
    obtain ⟨hn, hr⟩ := ih (l.post n)
    exact ⟨fun hl => hn (l.post_notices_length n hl), hr.trans (LinkUnit.post_rest l n)⟩

/-- Everything of the link port but its notice queue stands. -/
theorem State.regrants.link {s t : State} (h : s.regrants t) :
    { t.link with notices := [], overrun := false, attn := false }
      = { s.link with notices := [], overrun := false, attn := false } := by
  obtain ⟨ns, hn⟩ := h.posts
  rw [hn]
  exact (LinkUnit.foldl_post ns s.link).2

namespace State.keeps

variable {k : Lock} {s t u : State}

/-- An evaluation has placed the grants: they are within B, and each stands under the common interlock (R149, R151). -/
theorem evaluated (h : s.keeps k t) (r : t.regrants u) (hb : u.budgetKept) (hc : u.allCommon) :
    s.keeps k { u with arb.evalDue := false } := by
  have hmode : u.link.mode = t.link.mode := (congrArg LinkUnit.mode r.link :)
  have hstaging : u.link.staging = t.link.staging := (congrArg LinkUnit.staging r.link :)
  refine h.trans ⟨r.pending, r.now, ?_, ?_, ?_, fun _ _ => ⟨hb, hc.mainsKept⟩, ?_⟩
  · obtain ⟨ns, hn⟩ := r.posts
    simpa only [State.noticesKept, hn] using (LinkUnit.foldl_post ns t.link).1
  · simp [State.serviceKept, r.soft]
  · simp [State.queueKept, State.stagingKept, r.eng, hstaging]
  · have lock : ∀ allowed, t.lockedTo allowed → State.lockedTo allowed { u with arb.evalDue := false } := by
      rintro allowed ⟨hf, -, hl⟩
      exact ⟨by simpa [State.floodKept, r.flood, r.trip] using hf, fun _ => hc.tripGrantsKept,
        by simpa [r.trip, r.eng, hmode] using hl⟩
    cases k with
    | off => exact id
    | clear => exact (congrArg TripUnit.latch r.trip).trans
    | loose => exact lock _
    | strict => exact lock _

theorem checkHeater (h : s.keeps k t) : s.keeps k t.checkHeater := ite (fun _ => h.useProfile ..) (fun _ => h)

theorem checkEntries (h : s.keeps k t) : s.keeps k t.checkEntries :=
  foldl (fun _ _ h => ite (fun _ => h.integrityError ..) (fun _ => h)) _ h

theorem passes (h : s.keeps k t) : s.keeps k t.passes := by
  rw [State.passes_eq]
  have r := State.regrants.setCauses t.checkHeater.checkEntries.placing
  refine h.checkHeater.checkEntries.evaluated ((State.regrants.placing _).trans r) ?_ ?_
  · unfold State.budgetKept
    rw [State.setCauses_totalWatts, r.budget]
    exact State.placing_budgetKept _
  · intro l hl
    rw [r.available, r.commonInterlock]
    refine State.placing_allCommon _ l ?_
    rwa [State.setCauses_isGranted] at hl

/-- Releases are taken where an evaluation is due. -/
theorem dropReleased (h : s.keeps k t) (g : t.arb.evalDue = true) : s.keeps k t.dropReleased := by
  rw [show t.dropReleased = _ from t.dropReleased_besideLoads]
  exact h.same rfl (.inl g)

end State.keeps
end Sys2Proof.Machine
end

section
/-! ### What a trip does to the blocks (R53, R82, R109, R123, R170) -/

namespace Sys2Proof.Machine

/-- What a trip's blocks leave alone besides `State.besidePath`: the FLOOD request, the columns, and of the regeneration its
column. A waiting request of the path is served only where there is one. -/
structure State.pathKept (s t : State) : Prop where
  flood : t.arb.flood = s.arb.flood
  columns : t.soft.colA = s.soft.colA ∧ t.soft.colB = s.soft.colB
  regen : t.soft.regen.map Regen.column = s.soft.regen.map Regen.column
  waiting : s.soft.waiting = false → t.soft.waiting = false ∧ (t.soft.holder = .none ∨ t.soft.holder = s.soft.holder)

namespace State.pathKept

variable {s t u : State}

theorem refl (s : State) : s.pathKept s := ⟨rfl, ⟨rfl, rfl⟩, rfl, fun h => ⟨h, .inr rfl⟩⟩

theorem trans (h : s.pathKept t) (g : t.pathKept u) : s.pathKept u :=
  ⟨g.flood.trans h.flood, ⟨g.columns.1.trans h.columns.1, g.columns.2.trans h.columns.2⟩, g.regen.trans h.regen,
    fun hw => by
      obtain ⟨hw, hh⟩ := h.waiting hw
      obtain ⟨hw, hg⟩ := g.waiting hw
      exact ⟨hw, hg.elim .inl fun e => hh.imp e.trans e.trans⟩⟩

/-- An update of nothing that is followed here. -/
theorem quiet (h : s.pathKept t) (e : (u.arb.flood, u.soft.colA, u.soft.colB, u.soft.regen, u.soft.waiting, u.soft.holder)
    = (t.arb.flood, t.soft.colA, t.soft.colB, t.soft.regen, t.soft.waiting, t.soft.holder)) : s.pathKept u := by
  simp only [Prod.mk.injEq] at e
  obtain ⟨e1, e2, e3, e4, e5, e6⟩ := e
  exact h.trans ⟨e1, ⟨e2, e3⟩, by rw [e4], fun hw => ⟨e5.trans hw, .inr e6⟩⟩

theorem request (h : s.pathKept t) (l : LoadId) (a : Nat) : s.pathKept (t.request l a) := h.quiet rfl

theorem release (h : s.pathKept t) (l : LoadId) : s.pathKept (t.release l) := by
  unfold State.release
  split
  · exact h.quiet rfl
  · exact h

theorem becomeSet (s : State) : s.pathKept s.becomeSet := by
  have set : s.pathKept (State.markEval { s with soft.progress := .set }) := (refl s).quiet rfl
  unfold State.becomeSet
  dsimp only
  split
  · exact set
  · exact set.request ..
  · split
    · exact set
    · rename_i r hr
      have flow : s.pathKept
          { State.markEval { s with soft.progress := .set } with soft.regen := some { r with flowing := true } } :=
        ⟨rfl, ⟨rfl, rfl⟩, by rw [show s.soft.regen = some r from hr]; rfl, fun hw => ⟨hw, .inr rfl⟩⟩
      split
      · split
        · exact (flow.request ..).request ..
        · exact flow.request ..
      · exact flow.request ..
      · exact flow

theorem routeHolder (s : State) : s.pathKept s.routeHolder := by
  unfold State.routeHolder
  split
  · exact becomeSet s
  · exact (refl s).quiet rfl

theorem servePath (s : State) (h : s.soft.holder = .regen) : s.pathKept s.servePath := by
  unfold State.servePath
  split
  · exact refl s
  · split
    · exact refl s
    · exact refl s
    · simp_all
    · exact routeHolder s

theorem fillGiveBack (s : State) : s.pathKept s.fillGiveBack := by
  unfold State.fillGiveBack
  split
  · dsimp only
    have rel := (refl s).release .inletValve
    have free : s.pathKept (State.markEval { s.release .inletValve with
        soft.holder := .none, soft.progress := .selecting }) :=
      ⟨rel.flood, rel.columns, rel.regen, fun hw => ⟨(rel.waiting hw).1, .inl rfl⟩⟩
    split
    · rename_i hw
      have serve := servePath { State.markEval { s.release .inletValve with
        soft.holder := .none, soft.progress := .selecting } with
          soft.waiting := false, soft.holder := .regen, soft.progress := .routing } rfl
      refine ⟨serve.flood.trans free.flood, ⟨serve.columns.1.trans free.columns.1, serve.columns.2.trans free.columns.2⟩,
        serve.regen.trans free.regen, fun h => ?_⟩
      exact absurd ((free.waiting h).1.symm.trans hw) (by decide)
    · exact free
  · exact refl s

end State.pathKept

theorem State.pathKept.releaseEngine {s t : State} (h : s.pathKept t) : s.pathKept t.releaseEngine :=
  ((h.release ..).release ..).release ..

theorem State.pathKept.dryRecord {s t : State} (h : s.pathKept t) (d : Option DryRecord) :
    s.pathKept { t with door.dry := d } := h.quiet rfl

theorem State.pathKept.dropDry {s t : State} (h : s.pathKept t) : s.pathKept t.dropDry :=
  ((h.release .fan).release .doorActuator).dryRecord none

theorem State.dropDry_load (s : State) (k : LoadId) :
    s.dropDry.load k = ((s.release .fan).release .doorActuator).load k := rfl

/-- The requests of the engine and of the door unit end, and nothing else but the DRY record (R142, R144). -/
theorem State.dropRequests_spec (s : State) :
    s.releaseEngine.dropDry.eng = s.eng ∧ s.releaseEngine.dropDry.link = s.link ∧ s.releaseEngine.dropDry.chan = s.chan ∧
      s.releaseEngine.dropDry.bus = s.bus ∧ s.releaseEngine.dropDry.dosing = s.dosing ∧
      s.releaseEngine.dropDry.trip = s.trip ∧
      ∀ r, (s.releaseEngine.dropDry.load (pumpOf r)).own = (s.load (pumpOf r)).own := by
  refine ⟨by simp [State.dropDry, State.releaseEngine], by simp [State.dropDry, State.releaseEngine],
    by simp [State.dropDry, State.releaseEngine], by simp [State.dropDry, State.releaseEngine],
    by simp [State.dropDry, State.releaseEngine], by simp [State.dropDry, State.releaseEngine], fun r => ?_⟩
  rw [State.dropDry_load, State.releaseEngine]
  simp only [State.release_own]
  cases r <;> simp [pumpOf]

/-- The engine takes a trip: the cycle ends, the queue is empty, and the fill gives the path back (R54, R82). -/
theorem State.engineTrip_spec (s : State) :
    s.pathKept s.engineTrip ∧ s.engineTrip.trip = s.trip ∧ s.engineTrip.link = s.link ∧ s.engineTrip.chan = s.chan ∧
      s.engineTrip.bus = s.bus ∧ s.engineTrip.dosing = s.dosing ∧
      s.engineTrip.eng = { s.eng with
        state := if s.link.mode = .run then .tripped else .idle, queue := [], head := none, susp := .empty
        totals := { s.eng.totals with part := 0, held := false } } ∧
      ∀ r, (s.engineTrip.load (pumpOf r)).own = (s.load (pumpOf r)).own := by
  obtain ⟨x, hx⟩ : ∃ x, x = if s.underWay then ((s.fillGiveBack).releaseEngine).dropDry else s := ⟨_, rfl⟩
  have he : s.engineTrip = { x.endCycle with
      eng.queue := [], eng.state := if x.link.mode = .run then .tripped else .idle } := by rw [hx]; rfl
  have hs : s.pathKept x ∧ (x.eng = s.eng ∧ x.link = s.link ∧ x.chan = s.chan ∧ x.bus = s.bus ∧ x.dosing = s.dosing ∧
      x.trip = s.trip) ∧ ∀ r, (x.load (pumpOf r)).own = (s.load (pumpOf r)).own := by
    rw [hx]
    split
    · obtain ⟨⟨a, b, c, d, -, f, g⟩, -, own⟩ := s.fillGiveBack_spec
      obtain ⟨a', b', c', d', f', g', own'⟩ := s.fillGiveBack.dropRequests_spec
      refine ⟨(State.pathKept.fillGiveBack s).releaseEngine.dropDry, ⟨a'.trans a, b'.trans b, c'.trans c, d'.trans d,
        f'.trans f, g'.trans g⟩, fun r => (own' r).trans (own _ ?_)⟩
      cases r <;> simp [ofPath, pumpOf]
    · exact ⟨.refl s, ⟨rfl, rfl, rfl, rfl, rfl, rfl⟩, fun _ => rfl⟩
  obtain ⟨hp, ⟨a, b, c, d, f, g⟩, own⟩ := hs
  rw [he]
  refine ⟨⟨hp.flood, hp.columns, hp.regen, hp.waiting⟩, g, b, c, d, f, ?_, own⟩
  simp [State.endCycle, a, b]

/-- A dose in flight is dropped and counted, with its pump released (R123). -/
theorem State.dropDose_spec (s : State) :
    s.pathKept s.dropDose ∧ s.dropDose.trip = s.trip ∧ s.dropDose.link = s.link ∧ s.dropDose.chan = s.chan ∧
      s.dropDose.bus = s.bus ∧ s.dropDose.dosing.dose = none ∧ s.dropDose.soft = s.soft ∧
      s.dropDose.eng = { s.eng with
        totals.doses := if s.dosing.dose = none then s.eng.totals.doses else min 65535 (s.eng.totals.doses + 1) } ∧
      ∀ r, (s.dropDose.load (pumpOf r)).own =
        if ∃ d, s.dosing.dose = some d ∧ d.reservoir = r then none else (s.load (pumpOf r)).own := by
  unfold State.dropDose
  split
  · rename_i h
    exact ⟨.refl s, rfl, rfl, rfl, rfl, h, rfl, by simp [h], by simp [h]⟩
  · rename_i d h
    have rel : s.pathKept (State.release { s with dosing.dose := none } (pumpOf d.reservoir)) :=
      ((State.pathKept.refl s).quiet (by rfl)).release ..
    refine ⟨rel.quiet rfl, by simp [State.countDose], by simp [State.countDose], by simp [State.countDose],
      by simp [State.countDose], by simp [State.countDose], by simp [State.countDose], by simp [State.countDose, h],
      fun r => ?_⟩
    show ((State.release _ _).load _).own = _
    rw [State.release_own]
    have hpump : pumpOf r = pumpOf d.reservoir ↔ d.reservoir = r := by cases r <;> cases d.reservoir <;> simp [pumpOf]
    simp only [hpump, h, Option.some.injEq, exists_eq_left']
    rfl

/-- A regeneration leaves the path and releases its valves (R94, R108). -/
theorem State.regenGiveBack_spec (s : State) :
    s.regenGiveBack.trip = s.trip ∧ s.regenGiveBack.link = s.link ∧ s.regenGiveBack.chan = s.chan ∧
      s.regenGiveBack.bus = s.bus ∧ s.regenGiveBack.dosing = s.dosing ∧ s.regenGiveBack.eng = s.eng ∧
      s.regenGiveBack.arb.flood = s.arb.flood ∧ s.regenGiveBack.soft.holder ≠ .regen ∧
      s.regenGiveBack.soft.waiting = false ∧ (∀ c, s.regenGiveBack.column c = s.column c) ∧
      ∀ r, (s.regenGiveBack.load (pumpOf r)).own = (s.load (pumpOf r)).own := by
  obtain ⟨x, hx⟩ : ∃ x : State, x =
    { s with soft.waiting := false, soft.regen := s.soft.regen.map (fun r => { r with flowing := false }) } := ⟨_, rfl⟩
  have rest : x.trip = s.trip ∧ x.link = s.link ∧ x.chan = s.chan ∧ x.bus = s.bus ∧ x.dosing = s.dosing ∧ x.eng = s.eng ∧
      x.arb = s.arb ∧ x.soft.waiting = false ∧ ∀ c, x.column c = s.column c := by
    subst hx
    exact ⟨rfl, rfl, rfl, rfl, rfl, rfl, rfl, rfl, fun c => by cases c <;> rfl⟩
  obtain ⟨htrip, hlink, hchan, hbus, hdos, heng, harb, hwait, hcol⟩ := rest
  have he : s.regenGiveBack = if x.soft.holder = .regen then
      State.markEval { ((x.release .inletValve).release .brineValve) with
        soft.holder := .none, soft.progress := .selecting } else x := by rw [hx]; rfl
  have own : ∀ l, (x.load l).own = (s.load l).own := fun l => by unfold State.load; rw [harb]
  rw [he]
  split
  · have flood := ((State.pathKept.refl x).release .inletValve).release .brineValve
    refine ⟨by simpa using htrip, by simpa using hlink, by simpa using hchan, by simpa using hbus, by simpa using hdos,
      by simpa using heng, flood.flood.trans (by rw [harb]), by simp, by simpa using hwait, fun c => ?_, fun r => ?_⟩
    · refine Eq.trans ?_ (hcol c)
      cases c <;> simp [State.column]
    · show (((x.release .inletValve).release .brineValve).load _).own = _
      rw [State.release_own, State.release_own, ← own]
      cases r <;> simp [pumpOf]
  · rename_i h
    exact ⟨htrip, hlink, hchan, hbus, hdos, heng, by rw [harb], h, hwait, hcol, fun r => own _⟩

/-- A regeneration is aborted: its column is exhausted, and it leaves the path (R109). -/
theorem State.abortRegen_spec (s : State) :
    s.abortRegen.trip = s.trip ∧ s.abortRegen.link = s.link ∧ s.abortRegen.chan = s.chan ∧ s.abortRegen.bus = s.bus ∧
      s.abortRegen.dosing = s.dosing ∧ s.abortRegen.eng = s.eng ∧ s.abortRegen.arb.flood = s.arb.flood ∧
      s.abortRegen.soft.regen = none ∧ (s.soft.regen ≠ none → s.abortRegen.soft.holder ≠ .regen) ∧
      (s.soft.regen ≠ none → s.abortRegen.soft.waiting = false) ∧
      (∀ g, s.soft.regen = some g →
        s.abortRegen.column g.column = { s.column g.column with state := .exhausted }) ∧
      ∀ r, (s.abortRegen.load (pumpOf r)).own = (s.load (pumpOf r)).own := by
  unfold State.abortRegen
  split
  · rename_i h
    simp [h]
  · rename_i r hr
    obtain ⟨htrip, hlink, hchan, hbus, hdos, heng, hflood, hhold, hwait, hcol, hown⟩ := s.regenGiveBack_spec
    simp only [State.setColumn_trip, State.setColumn_link, State.setColumn_chan, State.setColumn_bus,
      State.setColumn_dosing, State.setColumn_eng, State.setColumn_arb]
    refine ⟨htrip, hlink, hchan, hbus, hdos, heng, hflood, ?_, fun _ => ?_, fun _ => ?_, ?_, fun q => ?_⟩
    · cases r.column <;> rfl
    · cases r.column <;> exact hhold
    · cases r.column <;> exact hwait
    · rintro g hg
      cases hr.symm.trans hg
      rw [State.setColumn_column, if_pos rfl]
      exact congrArg (fun c : Column => { c with state := .exhausted }) (hcol _)
    · rw [State.setColumn_load]
      exact hown q

end Sys2Proof.Machine
end

section
namespace Sys2Proof.Machine

/-- The blocks have taken a trip (R53, R54, R82, R109, R123). -/
structure State.ended (s t : State) : Prop where
  trip : t.trip = s.trip
  link : t.link = s.link
  chan : t.chan = s.chan
  bus : t.bus = s.bus
  flood : t.arb.flood = s.arb.flood
  eng : t.eng = { s.eng with
    state := if s.link.mode = .run then .tripped else .idle, queue := [], head := none, susp := .empty
    totals := { s.eng.totals with
      part := 0, held := false
      doses := if s.dosing.dose = none then s.eng.totals.doses else min 65535 (s.eng.totals.doses + 1) } }
  dose : t.dosing.dose = none
  pump : ∀ d, s.dosing.dose = some d → (t.load (pumpOf d.reservoir)).own = none
  regen : t.soft.regen = none
  holder : s.soft.regen ≠ none → t.soft.holder ≠ .regen
  column : ∀ g, s.soft.regen = some g → t.column g.column = { s.column g.column with state := .exhausted }

theorem State.pathKept.column {s t : State} (h : s.pathKept t) (c : Side) : t.column c = s.column c := by
  cases c
  · exact h.columns.1
  · exact h.columns.2

theorem State.pathKept.noRegen {s t : State} (h : s.pathKept t) : t.soft.regen = none ↔ s.soft.regen = none := by
  have := h.regen
  cases hs : s.soft.regen <;> cases ht : t.soft.regen <;> simp_all

/-- The engine and the dosing unit first, then the softener. -/
theorem State.ended_regenLast (s : State) : s.ended s.dropDose.engineTrip.abortRegen := by
  obtain ⟨p1, trip1, link1, chan1, bus1, dose1, soft1, eng1, own1⟩ := s.dropDose_spec
  obtain ⟨p2, trip2, link2, chan2, bus2, dos2, eng2, own2⟩ := s.dropDose.engineTrip_spec
  obtain ⟨trip3, link3, chan3, bus3, dos3, eng3, flood3, regen3, holder3, -, col3, own3⟩ :=
    s.dropDose.engineTrip.abortRegen_spec
  have p := p1.trans p2
  refine ⟨trip3.trans (trip2.trans trip1), link3.trans (link2.trans link1), chan3.trans (chan2.trans chan1),
    bus3.trans (bus2.trans bus1), flood3.trans p.flood, eng3.trans (eng2.trans ?_), ?_, fun d hd => ?_, regen3, fun h => ?_,
    fun g hg => ?_⟩
  · rw [eng1, link1]
  · rw [dos3, dos2, dose1]
  · rw [own3, own2, own1, if_pos ⟨d, hd, rfl⟩]
  · exact holder3 fun e => h (p.noRegen.mp e)
  · obtain ⟨x, hx, hc⟩ : ∃ x, s.dropDose.engineTrip.soft.regen = some x ∧ x.column = g.column := by
      have := p.regen
      rw [hg] at this
      exact Option.map_eq_some_iff.mp this
    rw [← hc, col3 x hx, p.column]

/-- The softener first, for a regeneration that waits behind a fill. -/
theorem State.ended_regenFirst (s : State) : s.ended s.abortRegen.dropDose.engineTrip := by
  obtain ⟨trip1, link1, chan1, bus1, dos1, eng1, flood1, regen1, holder1, wait1, col1, own1⟩ := s.abortRegen_spec
  obtain ⟨p2, trip2, link2, chan2, bus2, dose2, soft2, eng2, own2⟩ := s.abortRegen.dropDose_spec
  obtain ⟨p3, trip3, link3, chan3, bus3, dos3, eng3, own3⟩ := s.abortRegen.dropDose.engineTrip_spec
  have p := p2.trans p3
  refine ⟨trip3.trans (trip2.trans trip1), link3.trans (link2.trans link1), chan3.trans (chan2.trans chan1),
    bus3.trans (bus2.trans bus1), p.flood.trans flood1, eng3.trans ?_, ?_, fun d hd => ?_, p.noRegen.mpr regen1, fun h => ?_,
    fun g hg => ?_⟩
  · rw [eng2, link2, link1, eng1, dos1]
  · rw [dos3, dose2]
  · rw [own3, own2, if_pos ⟨d, by rw [dos1]; exact hd, rfl⟩]
  · obtain ⟨-, hh⟩ := p.waiting (wait1 h)
    rcases hh with e | e
    · simp [e]
    · exact e ▸ holder1 h
  · rw [p.column, col1 g hg]

theorem State.tripBlocks_ended (s : State) : s.ended s.tripBlocks := by
  have drawn : ∀ t : State, s.draw.ended t → s.ended t := fun t h =>
    ⟨h.trip, h.link, h.chan, h.bus, h.flood, h.eng, h.dose, h.pump, h.regen, h.holder, h.column⟩
  unfold State.tripBlocks
  split
  · split
    · exact drawn _ s.draw.ended_regenFirst
    · exact drawn _ s.draw.ended_regenLast
  · exact s.ended_regenLast

/-- The state as the blocks of a trip find it: the latch and its record are set (R170). -/
def State.latched (s : State) (c : Cause) : State :=
  { s with
    trip.latch := true
    trip.record := s.recordOf c
    trip.tableMark := s.trip.tableMark || decide (c.reason = TripReason.table)
    trip.lostRole := c.lost
    trip.lossOpen := decide (c.reason = TripReason.sensorLost) && s.lossCounts }

/-- A cause taken while the latch is clear: the latch, the blocks, the FLOOD request, the notices and an evaluation
(R170). -/
theorem State.setLatch_spec (s : State) (c : Cause) :
    ∃ (u : State) (ns : List Notice), (s.latched c).ended u ∧ ns.Perm (s.tripNotices c) ∧
      { s.setLatch c with draws := u.draws } = { u with
        arb.flood := s.arb.flood || decide (c.reason = .flood)
        arb.evalDue := true
        link := ns.foldl LinkUnit.post u.link } := by
  obtain ⟨u, hu⟩ : ∃ u, u = (s.latched c).tripBlocks := ⟨_, rfl⟩
  have hended : (s.latched c).ended u := hu ▸ State.tripBlocks_ended _
  obtain ⟨v, hv⟩ : ∃ v : State, v = if c.reason = .flood then { u with arb.flood := true } else u := ⟨_, rfl⟩
  obtain ⟨ns, hperm, hlink, hrest⟩ := v.postTripNotices_cases (s.tripNotices c)
  have he : s.setLatch c = (v.postTripNotices (s.tripNotices c)).markEval := by rw [hv, hu]; rfl
  have hvu : v = { u with arb.flood := s.arb.flood || decide (c.reason = .flood) } := by
    have : u.arb.flood = s.arb.flood := hended.flood
    rw [hv]
    split
    · rename_i h; simp [h]
    · rename_i h; simp [h, ← this]
  refine ⟨u, ns, hended, hperm, ?_⟩
  have hlink' : v.link = u.link := by rw [hvu]
  rw [he, ← hlink', ← hlink]
  generalize v.postTripNotices (s.tripNotices c) = w at hrest
  have hw : w = { v with link := w.link, draws := w.draws } :=
    (congrArg (fun x : State => { x with link := w.link, draws := w.draws }) hrest :)
  rw [hw, hvu]
  rfl

end Sys2Proof.Machine
end

section
/-! ### Trips and the end of an event -/

namespace Sys2Proof.Machine

namespace State.keeps

variable {k : Lock} {s t u : State}

/-- The engine as a trip leaves it. -/
theorem engineEnds (h : s.keeps .off t) (e : EngineState) : s.keeps .off { t with eng.queue := [], eng.state := e } :=
  (h.engineState (.inl rfl) e).requeue [] (by simp)

theorem setReports (h : s.keeps k t) (r : List LoadId) : s.keeps k { t with arb.reports := r } := h.quiet rfl rfl

theorem engineTrip (h : s.keeps .off t) : s.keeps .off t.engineTrip := by
  have ended : s.keeps .off (if t.underWay then ((t.fillGiveBack).releaseEngine).dropDry else t) :=
    ite (fun _ => h.fillGiveBack.releaseEngine.dropDry) (fun _ => h)
  exact (ended.endCycle (.inl rfl)).engineEnds _

theorem tripBlocks (h : s.keeps .off t) : s.keeps .off t.tripBlocks :=
  ite (fun _ => ite (fun _ => h.draw.abortRegen.dropDose.engineTrip) (fun _ => h.draw.dropDose.engineTrip.abortRegen))
    (fun _ => h.dropDose.engineTrip.abortRegen)

theorem postTripNotices (h : s.keeps k t) (ns : List Notice) : s.keeps k (t.postTripNotices ns) :=
  ite (fun _ => h.postAll _) (fun _ => h.draw.postAll _)

/-- Besides the latch and what it locks, a trip keeps what any operation does. -/
theorem setLatch_off (h : s.keeps .off t) (c : Cause) : s.keeps .off (t.setLatch c) := by
  have latched : s.keeps .off (t.latched c) := by
    refine ⟨h.pending, h.now, h.notices, h.service, h.queue, h.grants, fun _ => trivial⟩
  have blocks := latched.tripBlocks
  have flood : s.keeps .off (if c.reason = .flood then { (t.latched c).tripBlocks with arb.flood := true }
      else (t.latched c).tripBlocks) :=
    ite (fun _ => ⟨blocks.pending, blocks.now, blocks.notices, blocks.service, blocks.queue, blocks.grants,
      fun _ => trivial⟩) (fun _ => blocks)
  exact (flood.postTripNotices _).markEval

/-- The latch is set: the engine and the queue stand as it locks them, and an evaluation is due (R54, R170). -/
theorem setLatch (h : s.keeps k t) (hk : k ≠ .clear) (hl : t.trip.latch = false) (c : Cause) :
    s.keeps k (t.setLatch c) := by
  have o := h.toOff.setLatch_off c
  refine ⟨o.pending, o.now, o.notices, o.service, o.queue, o.grants, fun hs => ?_⟩
  obtain ⟨u, ns, ended, -, he⟩ := t.setLatch_spec c
  have htrip : (t.setLatch c).trip = (t.latched c).trip := ((congrArg State.trip he :)).trans ended.trip
  have hflood : (t.setLatch c).arb.flood = (t.arb.flood || decide (c.reason = .flood)) :=
    (congrArg (fun x : State => x.arb.flood) he :)
  have heng : (t.setLatch c).eng = u.eng := (congrArg State.eng he :)
  have hmode : (t.setLatch c).link.mode = t.link.mode := by
    have := congrArg (fun x : State => x.link.mode) he
    have hpost := congrArg LinkUnit.mode (LinkUnit.posts_rest ns u.link)
    exact (this.trans hpost).trans ((congrArg LinkUnit.mode ended.link :) : u.link.mode = t.link.mode)
  have hdue : (t.setLatch c).arb.evalDue = true := (congrArg (fun x : State => x.arb.evalDue) he :)
  have lock : ∀ allowed : Mode → EngineState → Prop, (∀ m, allowed m (if m = .run then .tripped else .idle)) →
      t.floodKept → State.lockedTo allowed (t.setLatch c) := by
    intro allowed ha hf
    refine ⟨fun hfl => ?_, fun hu => ?_, fun _ => ?_⟩
    · rw [htrip]
      refine ⟨rfl, ?_⟩
      rw [hflood, Bool.or_eq_true, decide_eq_true_eq] at hfl
      rcases hfl with hfl | hfl
      · exact absurd ((hf hfl).1.symm.trans hl) (by decide)
      · exact hfl
    · exact absurd (hu.symm.trans hdue) (by decide)
    · rw [heng, hmode, ended.eng]
      exact ⟨rfl, ha _⟩
  have ht := h.locked hs
  cases k with
  | off => trivial
  | clear => exact absurd rfl hk
  | loose => exact lock _ (fun m => by unfold looseEngine; split <;> simp) ht.1
  | strict => exact lock _ (fun _ => rfl) ht.1

theorem restartQuiet (h : s.keeps k t) (c : Cause) : s.keeps k (t.restartQuiet c) := ite (fun _ => h.quiet rfl rfl) (fun _ => h)

theorem tripCause (h : s.keeps k t) (hk : k ≠ .clear) (c : Cause) : s.keeps k (t.tripCause c) := by
  have hq := h.restartQuiet c
  refine ite (fun _ => hq) (fun _ => ?_)
  split
  · exact ite (fun _ => hq.quiet rfl rfl) (fun _ => hq)
  · rename_i hl
    exact hq.setLatch hk (by simpa using hl) c

theorem judgeOvertemp (h : s.keeps k t) (hk : k ≠ .clear) : s.keeps k t.judgeOvertemp :=
  ite (fun _ => h) (fun _ => ite (fun _ => (h.useProfile _).tripCause hk _) (fun _ => h.useProfile _))

theorem judgeOverfill (h : s.keeps k t) (hk : k ≠ .clear) : s.keeps k t.judgeOverfill :=
  ite (fun _ => h) (fun _ => ite (fun _ => (h.useProfile _).tripCause hk _) (fun _ => h.useProfile _))

theorem leakChange (h : s.keeps k t) (hk : k ≠ .clear) (b : Bool) : s.keeps k (t.leakChange b) :=
  ite (fun _ => tripCause (h.quiet (by rfl) (by rfl)) hk _) (fun _ => h.quiet rfl rfl)

theorem judgeLeak (h : s.keeps k t) (hk : k ≠ .clear) : s.keeps k t.judgeLeak :=
  ite (fun _ => h.tripCause hk _) (fun _ => h)

theorem judgeLoss (h : s.keeps k t) (hk : k ≠ .clear) (r : Role) (src : Option Nat) (v : Int) :
    s.keeps k (t.judgeLoss r src v) := ite (fun _ => h.tripCause hk _) (fun _ => h)

theorem judgeRoleNow (h : s.keeps k t) (hk : k ≠ .clear) (r : Role) : s.keeps k (t.judgeRoleNow r) :=
  ite (fun _ => h.tripCause hk _) (fun _ => h)

theorem judgeSensorsNow (h : s.keeps k t) (hk : k ≠ .clear) : s.keeps k t.judgeSensorsNow :=
  (h.judgeRoleNow hk _).judgeRoleNow hk _

theorem drainTimeoutJudge (h : s.keeps k t) (hk : k ≠ .clear) (d : DrainFields) : s.keeps k (t.drainTimeoutJudge d) :=
  ite (fun _ => h) (fun _ => h.tripCause hk _)

/-! The end of an event (R148). -/

theorem tableTrip (h : s.keeps k t) (hk : k ≠ .clear) (l : LoadId) : s.keeps k (t.tableTrip l) :=
  ite (fun _ => h.tripCause hk _) (fun _ => h)

theorem firstGrant (h : s.keeps k t) (hk : k ≠ .clear) (b : State) : s.keeps k (t.firstGrant b) :=
  ite (fun _ => h.judgeSensorsNow hk) (fun _ => h)

theorem ownerReport (h : s.keeps k t) (l : LoadId) : s.keeps k (t.ownerReport l) := by
  cases l with
  | inletValve => exact (h.softenerReport _).engineInlet
  | routeValve => exact h.softenerReport .routeValve
  | selectorValve => exact h.softenerReport .selectorValve
  | brineValve => exact h.softenerReport .brineValve
  | doseDet => exact h.dosingReport _
  | doseRinse => exact h.dosingReport _
  | doorActuator => exact h.actuatorReport
  | _ => exact h

theorem round (h : s.keeps k t) (hk : k ≠ .clear) (hd : t.arb.evalDue = true) : s.keeps k t.round :=
  foldl (fun _ _ h => h.ownerReport _) _
    ((((h.dropReleased hd).passes.tableTrip hk _).tableTrip hk _).firstGrant hk _)

theorem lastRound (h : s.keeps k t) (hd : t.arb.evalDue = true) : s.keeps k t.lastRound := (h.dropReleased hd).passes.setReports _

theorem settleFor (n : Nat) (h : s.keeps k t) (hk : k ≠ .clear) : s.keeps k (State.settleFor n t) := by
  induction n generalizing t with
  | zero => exact ite (fun hd => h.lastRound hd) (fun _ => h)
  | succ n ih => exact ite (fun hd => ih (h.round hk hd)) (fun _ => h)

theorem settle (h : s.keeps k t) (hk : k ≠ .clear) : s.keeps k t.settle := h.settleFor 8 hk

end State.keeps

/-- No evaluation is due after the passes (R155). -/
theorem State.passes_settled (s : State) : s.passes.settled := rfl

theorem State.settled_reports {s : State} (h : s.settled) (r : List LoadId) :
    State.settled { s with arb.reports := r } := h

theorem State.lastRound_settled (s : State) : s.lastRound.settled := by
  unfold State.lastRound
  exact State.settled_reports s.dropReleased.passes_settled _

/-- An event ends with no evaluation due (R148). -/
theorem State.settle_settled (s : State) : s.settle.settled := by
  have : ∀ (n : Nat) (t : State), (State.settleFor n t).settled := by
    intro n
    induction n with
    | zero =>
      intro t
      unfold State.settleFor
      split
      · exact t.lastRound_settled
      · rename_i h; exact (Bool.not_eq_true _).mp h
    | succ n ih =>
      intro t
      unfold State.settleFor
      split
      · exact ih _
      · rename_i h; exact (Bool.not_eq_true _).mp h
  exact this 8 s

end Sys2Proof.Machine
end

section
/-! ### The channel unit, the bus and the bank swap -/

namespace Sys2Proof.Machine.State.keeps

variable {k : Lock} {s t u : State}

theorem withRun (h : s.keeps k t) (i : Fin 32) (f : ChannelRun → ChannelRun) : s.keeps k (t.withRun i f) := h.quiet rfl rfl

theorem storeRing (h : s.keeps k t) (i : Fin 32) (n : Nat) (b : Bool) (x : Sample) : s.keeps k (t.storeRing i n b x) := by
  unfold State.storeRing
  dsimp only
  split
  · split
    · exact (h.withRun ..).post ..
    · exact h.withRun ..
  · exact h.withRun ..

theorem storeSample (h : s.keeps k t) (i : Fin 32) (e : ChannelEntry) (b : Bool) (f : Byte) :
    s.keeps k (t.storeSample i e b f) := by
  unfold State.storeSample
  dsimp only
  split
  · exact h
  · exact ite (fun _ => h.withRun ..) (fun _ => h)
  · exact ite (fun _ => h.withRun ..) (fun _ => h)
  · exact h.storeRing ..
  · exact h.storeRing ..

theorem tellSwitch (h : s.keeps k t) (hk : k ≠ .clear) (r : Role) : s.keeps k (t.tellSwitch r) := by
  unfold State.tellSwitch
  dsimp only
  split
  · exact ite (fun _ => h) (fun _ => h.leakChange hk _)
  · exact h.quiet rfl rfl
  · exact ite (fun _ => h) (fun _ => h.lowTold ..)
  · exact ite (fun _ => h) (fun _ => h.lowTold ..)
  · exact h

theorem tellLost (h : s.keeps k t) (hk : k ≠ .clear) (r : Role) (b : Freshness) (src : Option Nat) (v : Int) :
    s.keeps k (t.tellLost r b src v) := by
  unfold State.tellLost
  dsimp only
  split
  · have told : s.keeps k (if b = .fresh then t.engineTempLost else t) := ite (fun _ => h.engineTempLost) (fun _ => h)
    exact ite (fun _ => told.judgeLoss hk ..) (fun _ => told)
  · exact ite (fun _ => h.markEval.judgeLoss hk ..) (fun _ => h.markEval)
  · exact h.tellSwitch hk _

theorem flowHand (h : s.keeps k t) (hk : k ≠ .clear) (n : Nat) (b : Freshness) : s.keeps k (t.flowHand n b) := by
  have hand := h.flowHandoff n b
  unfold State.flowHand
  dsimp only
  split
  · exact hand
  · exact hand.engineVolume _
  · exact hand.tripCause hk _

theorem updateIf (h : s.keeps k t) (b : Bool) (r : Role) : s.keeps k (t.updateIf b r) :=
  ite (fun _ => h.roleUpdate _) (fun _ => h)

theorem handOff (h : s.keeps k t) (hk : k ≠ .clear) (r : Role) (n : Nat) (b : Freshness) :
    s.keeps k (t.handOff r n b) := by
  unfold State.handOff
  dsimp only
  split
  · exact (h.engineTemp.updateIf ..).judgeOvertemp hk
  · exact (h.engineLevel.updateIf ..).markEval.judgeOverfill hk
  · exact h.flowHand hk ..
  · exact h
  · exact (h.tellSwitch hk _).updateIf ..

theorem faultChannel (h : s.keeps k t) (hk : k ≠ .clear) (i : Fin 32) : s.keeps k (t.faultChannel i) :=
  ((h.integrityError ..).withRun ..).tellLost hk ..

theorem countMiss (h : s.keeps k t) (hk : k ≠ .clear) (i : Fin 32) : s.keeps k (t.countMiss i) :=
  ite (fun _ => ((h.withRun ..).post ..).tellLost hk ..) (fun _ => h.withRun ..)

theorem miss (h : s.keeps k t) (hk : k ≠ .clear) (sat ch : Nat) : s.keeps k (t.miss sat ch) := by
  unfold State.miss
  split
  · exact h
  · exact ite (fun _ => h.countMiss hk _) (fun _ => h.faultChannel hk _)

theorem convert (h : s.keeps k t) (i : Fin 32) (e : ChannelEntry) (raw : Int) : s.keeps k (t.convert i e raw).1 := by
  unfold State.convert
  split
  · exact h
  · split
    · exact h
    · split
      · exact h
      · exact h.integrityError ..

theorem judgeLimit (h : s.keeps k t) (i : Fin 32) (e : ChannelEntry) : s.keeps k (t.judgeLimit i e) :=
  ite (fun _ => (h.withRun ..).post ..) (fun _ => h.withRun ..)

theorem takeValues (h : s.keeps k t) (i : Fin 32) (e : ChannelEntry) (v : Nat) : s.keeps k (t.takeValues i e v) :=
  ite (fun _ => h.withRun ..) (fun _ => (h.convert ..).withRun ..)

theorem validSample (h : s.keeps k t) (hk : k ≠ .clear) (i : Fin 32) (f : Byte) (v : Nat) :
    s.keeps k (t.validSample i f v) := (((h.takeValues ..).judgeLimit ..).storeSample ..).handOff hk ..

theorem faultySample (h : s.keeps k t) (hk : k ≠ .clear) (i : Fin 32) (f : Byte) : s.keeps k (t.faultySample i f) :=
  (h.countMiss hk i).storeSample ..

theorem sample (h : s.keeps k t) (hk : k ≠ .clear) (sat ch : Nat) (f : Byte) (v : Nat) :
    s.keeps k (t.sample sat ch f v) := by
  unfold State.sample
  split
  · exact h
  · exact ite (fun _ => h.faultChannel hk _) (fun _ => ite (fun _ => h.validSample hk ..) (fun _ => h.faultySample hk ..))

/-! The bank swap (R5, R195). -/

theorem swapIntegrity (h : s.keeps k t) (m : SwapMask) : s.keeps k (t.swapIntegrity m) := by
  unfold State.swapIntegrity
  split
  · exact h
  · exact ite (fun _ => h.clearIntegrity) (fun _ => h)

theorem tellSwap (h : s.keeps k t) (hk : k ≠ .clear) (old : State) (r : Role) : s.keeps k (State.tellSwap old t r) := by
  unfold State.tellSwap
  split
  · exact h.tellSwitch hk _
  · exact h.tellSwitch hk _
  · exact h.tellSwitch hk _
  · exact h.tellSwitch hk _
  · exact ite (fun _ => h.tellLost hk ..) (fun _ => h)

theorem setChan (h : s.keeps k t) (c : ChannelUnit) : s.keeps k { t with chan := c } := h.quiet rfl rfl

theorem swapLoads (h : s.keeps k t) :
    s.keeps k (State.markEval
      { t with arb := { t.arb with active := t.arb.shadow }, trip := { t.trip with tableMark := false } }) := h.due rfl rfl

theorem swap (h : s.keeps k t) (hk : k ≠ .clear) (m : SwapMask) : s.keeps k (t.swap m) := by
  unfold State.swap
  extract_lets old a b c _ _ d e
  have ha : s.keeps k a := h.quiet rfl rfl
  have hb : s.keeps k b := ite (fun _ => ha.setChan _) (fun _ => ha)
  have hc : s.keeps k c := ite (fun _ => hb.setChan _) (fun _ => hb)
  have hd : s.keeps k d := ite (fun _ => hc.swapLoads) (fun _ => hc)
  have he : s.keeps k e := hd.swapIntegrity m
  exact ite (fun _ => foldl (fun _ _ h => h.tellSwap hk _ _) _ he) (fun _ => he)

/-! The sump bus (02). -/

theorem withPoll (h : s.keeps k t) (i : Fin 16) (f : PollRun → PollRun) : s.keeps k (t.withPoll i f) := h.quiet rfl rfl

theorem setBus (h : s.keeps k t) (b : BusUnit) : s.keeps k { t with bus := b } := h.quiet rfl rfl

theorem withSat (h : s.keeps k t) (n : Nat) (f : Satellite → Satellite) : s.keeps k (t.withSat n f) := by
  unfold State.withSat
  split
  · exact h.quiet rfl rfl
  · exact h

theorem take (h : s.keeps k t) (i : Fin 16) : s.keeps k (t.take i) := (h.withPoll i _).setBus _

theorem takeIfFree (h : s.keeps k t) : s.keeps k t.takeIfFree := by
  rcases t.takeIfFree_cases with ⟨-, e⟩ | ⟨i, -, -, -, -, e⟩
  · rwa [e]
  · rw [e]; exact h.take i

theorem pollDue (h : s.keeps k t) (i : Fin 16) : s.keeps k (t.pollDue i) :=
  ite (fun _ => (h.withPoll ..).takeIfFree) (fun _ => h)

theorem pollingStart (h : s.keeps k t) : s.keeps k t.pollingStart := (h.setBus _).takeIfFree

theorem pollingStop (h : s.keeps k t) : s.keeps k t.pollingStop := h.setBus _

theorem clearHeard (h : s.keeps k t) : s.keeps k t.clearHeard := h.setBus _

theorem endTransaction (h : s.keeps k t) (x : Transaction) (o : PollOutcome) : s.keeps k (t.endTransaction x o) :=
  ((h.withPoll ..).setBus _).takeIfFree

theorem satelliteAnswered (h : s.keeps k t) (x : Transaction) : s.keeps k (t.satelliteAnswered x) :=
  ite (fun _ => (h.withSat ..).post ..) (fun _ => h.withSat ..)

theorem satelliteFailed (h : s.keeps k t) (x : Transaction) : s.keeps k (t.satelliteFailed x) :=
  ite (fun _ => (h.withSat ..).post ..) (fun _ => h.withSat ..)

theorem deliver (h : s.keeps k t) (hk : k ≠ .clear) (n : Nat) (gs : List Group) : s.keeps k (t.deliver n gs) :=
  foldl (fun _ _ h => (h.sample hk ..).settle hk) _ h

theorem misses (h : s.keeps k t) (hk : k ≠ .clear) (n : Nat) (cs : List Nat) : s.keeps k (t.misses n cs) :=
  foldl (fun _ _ h => (h.miss hk ..).settle hk) _ h

theorem beginLosses (h : s.keeps k t) : s.keeps k t.beginLosses := h.quiet rfl rfl

theorem responseAccepted (h : s.keeps k t) (hk : k ≠ .clear) (x : Transaction) (gs : List Group) :
    s.keeps k (t.responseAccepted x gs) :=
  (((h.beginLosses.satelliteAnswered x).deliver hk ..).misses hk ..).endTransaction ..

theorem attemptLost (h : s.keeps k t) (hk : k ≠ .clear) (x : Transaction) : s.keeps k (t.attemptLost x) :=
  ite (fun _ => h.endTransaction ..)
    (fun _ => ite (fun _ => h.setBus _) (fun _ => ((h.beginLosses.misses hk ..).satelliteFailed x).endTransaction ..))

theorem pollSent (h : s.keeps k t) : s.keeps k t.pollSent := by
  unfold State.pollSent
  split
  · exact h.setBus _
  · exact ite (fun _ => h.setBus _) (fun _ => (h.setBus _).clearHeard)

theorem sumpFrame (h : s.keeps k t) (hk : k ≠ .clear) (f : List Byte) : s.keeps k (t.sumpFrame f) := by
  unfold State.sumpFrame
  split
  · exact h
  · split
    · split
      · exact h.clearHeard.responseAccepted hk ..
      · exact h.clearHeard.attemptLost hk _
    · exact h

theorem sumpTimeout (h : s.keeps k t) (hk : k ≠ .clear) : s.keeps k t.sumpTimeout := by
  unfold State.sumpTimeout
  split
  · exact h
  · exact ite (fun _ => h.clearHeard.attemptLost hk _) (fun _ => h)

theorem writePoll (h : s.keeps k t) (i : Fin 16) (e : PollEntry) : s.keeps k (t.writePoll i e) := h.quiet rfl rfl

end Sys2Proof.Machine.State.keeps
end

section
/-! ### Events, mains and resets -/

namespace Sys2Proof.Machine

theorem State.totalWatts_of_noGrants {s : State} (h : ∀ l, (s.load l).grant = none) : s.totalWatts = 0 :=
  State.totalWatts_of_noneGranted (List.filter_eq_nil_iff.mpr fun l _ => by simp [State.isGranted, h l])

namespace State.keeps

variable {k : Lock} {s t u : State}

theorem fillStall (h : s.keeps k t) : s.keeps k t.fillStall :=
  ite (fun _ => (((h.useProfile _).withHead _).post ..).addReason _) (fun _ => h)

theorem setpointMiss (h : s.keeps k t) : s.keeps k t.setpointMiss := by
  unfold State.setpointMiss
  split
  · exact h
  · exact ite (fun _ => ((h.withHead _).post ..).enterHold ..) (fun _ => h)

theorem minimumHold (h : s.keeps k t) : s.keeps k t.minimumHold := by
  unfold State.minimumHold
  split
  · exact h
  · exact ite (fun _ => h.withHead _) (fun _ => h)

theorem holdExpiry (h : s.keeps k t) : s.keeps k t.holdExpiry := by
  unfold State.holdExpiry
  split
  · exact h
  · exact ite (fun _ => (h.withHead _).endHold _) (fun _ => h)

theorem drainMinimum (h : s.keeps k t) : s.keeps k t.drainMinimum := by
  unfold State.drainMinimum
  split
  · exact h
  · exact ite (fun _ => (h.withHead _).judgeDrain) (fun _ => h)

theorem drainExpiry (h : s.keeps k t) (hk : k ≠ .clear) : s.keeps k t.drainExpiry := by
  unfold State.drainExpiry
  split
  · exact ite (fun _ => ((h.useProfile _).withHead _).drainTimeoutJudge hk _) (fun _ => h)
  · exact h

theorem clockTick (h : s.keeps k t) : s.keeps k t.clockTick := ite (fun _ => h.quiet rfl rfl) (fun _ => h)

theorem strokeExpiry (h : s.keeps k t) : s.keeps k t.strokeExpiry := by
  unfold State.strokeExpiry
  split
  · exact h
  · exact ite (fun _ => h.strokeDone _) (fun _ => h)

theorem setDoor (h : s.keeps k t) (d : DoorUnit) : s.keeps k { t with door := d } := h.quiet rfl rfl

theorem selectorReading (h : s.keeps k t) (c : Side) : s.keeps k (t.selectorReading c) :=
  ite (fun _ => h.setDoor _) (fun _ => (h.setDoor _).positionChange _)

theorem travelExpiry (h : s.keeps k t) : s.keeps k t.travelExpiry := by
  unfold State.travelExpiry
  split
  · exact h
  · exact ite (fun _ => h.travelTimeout _) (fun _ => h)

theorem pulseExpiry (h : s.keeps k t) : s.keeps k t.pulseExpiry := by
  unfold State.pulseExpiry
  split
  · exact h
  · exact ite (fun _ => h.pulseEnd _) (fun _ => h)

theorem soakExpiry (h : s.keeps k t) : s.keeps k t.soakExpiry := by
  unfold State.soakExpiry
  split
  · exact h
  · exact ite (fun _ => (h.useProfile _).soakEnd _) (fun _ => h)

theorem settleExpiry (h : s.keeps k t) : s.keeps k t.settleExpiry :=
  ite (fun _ => (h.setDoor { t.door with settle := none }).removeReason _) (fun _ => h)

theorem condenseExpiry (h : s.keeps k t) : s.keeps k t.condenseExpiry := by
  unfold State.condenseExpiry
  split
  · exact h
  · exact ite (fun _ => (h.withDry _).enterOpening) (fun _ => h)

theorem windowExpiry (h : s.keeps k t) : s.keeps k t.windowExpiry := by
  unfold State.windowExpiry
  split
  · rename_i f d _ _
    refine ite (fun hp => ?_) (fun _ => h)
    have hu : t.underWay = true := State.underWay_of_runningIn (st := .opening) (by
      simp [State.pushing] at hp; simp [hp])
    exact h.whenUnderWay hu fun h g => (h.attemptFailed f d).finishIf (opened_of (fun _ => (refl _ _).attemptFailed f d) g)
  · exact h

theorem restExpiry (h : s.keeps k t) : s.keeps k t.restExpiry :=
  ite (fun _ => (h.withDry _).request ..) (fun _ => h)

theorem ventExpiry (h : s.keeps k t) : s.keeps k t.ventExpiry :=
  ite (fun hp => h.whenUnderWay (State.underWay_of_runningIn hp) fun h g => finishIf (r := (t, true)) h g) (fun _ => h)

theorem takeReport (h : s.keeps k t) (l : LoadId) : s.keeps k (t.takeReport l) :=
  ite (fun _ => (h.setReports _).ownerReport _) (fun _ => h)

/-! The mains (08 8.7): grants are dropped, and what is then present is judged by the evaluation. -/

theorem setZc (h : s.keeps k t) (z : ZeroCross) (e : z.presence = t.arb.zc.presence) :
    s.keeps k { t with arb.zc := z } := h.quiet rfl (by simp [State.placed, e])

/-- Every grant falls (R163), and an evaluation judges what then stands. -/
theorem mainsLost (h : s.keeps k t) : s.keeps k t.mainsLost := by
  have beside : t.besideLoads (allLoads.foldl (fun x l => x.setGrant l none) t) :=
    State.foldl_besideLoads (f := fun x l => x.setGrant l none) (fun _ _ => rfl) _ _
  unfold State.mainsLost
  dsimp only
  rw [show allLoads.foldl (fun x l => x.setGrant l none) t = _ from beside]
  generalize (allLoads.foldl (fun x l => x.setGrant l none) t).arb.loads = x
  have lost : s.keeps k (State.markEval
      { t with
        arb.loads := x
        arb.zc := { t.arb.zc with presence := .absent, run := 0, lostAt := some t.now }
        arb.reports := t.arb.reports ++ (allLoads.filter t.isGranted).filter (fun l => !t.arb.reports.contains l)
        arb.mainsReports :=
          { t.arb.mainsReports with lossEngine := true, lossSoftener := true, lossSnapshot := true } }) := h.due rfl rfl
  exact lost.post .mainsLost 1 0 t.totalWatts

theorem mainsPresent (h : s.keeps k t) : s.keeps k t.mainsPresent := by
  unfold State.mainsPresent
  dsimp only
  split
  · have back : s.keeps k (State.markEval
        { t with
          arb.zc := { t.arb.zc with presence := .present, misses := 0, run := 0 }
          arb.mainsReports := { t.arb.mainsReports with backEngine := true, backSoftener := true } }) := h.due rfl rfl
    exact back.post .mainsBack 4 0 _
  · exact h.due rfl rfl

theorem acceptCrossing (h : s.keeps k t) (g : Option Nat) : s.keeps k (t.acceptCrossing g) := by
  unfold State.acceptCrossing
  dsimp only
  split
  · exact h.setZc _ rfl
  · exact ite (fun _ => (h.setZc _ (by rfl)).mainsPresent) (fun _ => h.setZc _ (by rfl))

theorem zeroCross (h : s.keeps k t) : s.keeps k t.zeroCross := by
  unfold State.zeroCross
  split
  · exact h.acceptCrossing _
  · exact ite (fun _ => h) (fun _ => h.acceptCrossing _)

theorem missCrossing (h : s.keeps k t) : s.keeps k t.missCrossing := by
  unfold State.missCrossing
  dsimp only
  split
  · exact ite (fun _ => (h.setZc { t.arb.zc with misses := t.arb.zc.misses + 1 } rfl).mainsLost) (fun _ => h.setZc _ rfl)
  · exact h.setZc _ rfl

theorem setMainsReports (h : s.keeps k t) (m : MainsReports) : s.keeps k { t with arb.mainsReports := m } := h.quiet rfl rfl

/-! The resets (R203, R204). -/

/-- A reset: everything that is watched starts anew, but for the latch with its record and the columns out of a
regeneration. -/
theorem reset (h : s.keeps k t) (hk : k ≠ .loose) (pending : u.pending = t.pending) (now : u.now = t.now)
    (notices : u.link.notices = []) (mode : u.link.mode = .standby) (staging : u.link.staging = .empty)
    (queue : u.eng.queue = []) (state : u.eng.state = .idle) (loads : ∀ l, (u.load l).grant = none)
    (flood : u.arb.flood = false) (latch : u.trip.latch = true → t.trip.latch = true)
    (service : t.serviceKept → u.serviceKept) : s.keeps k u := by
  refine h.trans ⟨pending, now, fun _ => by simp [State.noticesKept, notices], service,
    fun _ => ⟨by simp [State.queueKept, queue], by simp [State.stagingKept, staging, Staging.empty, Staging.queue]⟩,
    fun _ _ => ⟨?_, fun _ => loads⟩, fun ht => ?_⟩
  · simp [State.budgetKept, State.totalWatts_of_noGrants loads]
  · cases k with
    | off => trivial
    | clear => exact Bool.eq_false_iff.mpr fun e => absurd (ht.symm.trans (latch e)) (by decide)
    | loose => exact absurd rfl hk
    | strict =>
      exact ⟨fun e => absurd (flood.symm.trans e) (by decide), fun _ _ l hg => absurd (loads l) hg,
        fun _ => ⟨queue, by simp [lockedEngine, mode, state]⟩⟩

theorem resetMove (h : s.keeps k t) : s.keeps k t.resetMove := by
  unfold State.resetMove
  split
  · exact ite (fun _ => h) (fun _ => h.createMove ..)
  · exact h

theorem softReset (h : s.keeps k t) (hk : k ≠ .loose) (pins : InputPins) : s.keeps k (t.softReset pins) := by
  have column : ∀ c : Column, c.softReset.state = .service → c.state = .service := by
    intro c hc
    unfold Column.softReset at hc
    split at hc <;> simp_all
  refine resetMove (h.reset hk rfl rfl rfl rfl rfl rfl rfl (fun l => ?_) rfl id fun hs hb => ?_)
  · cases l <;> rfl
  · exact hs ⟨column _ hb.1, column _ hb.2⟩

theorem powerOn (h : s.keeps k t) (hk : k ≠ .loose) (pins : InputPins) : s.keeps k (t.powerOn pins) := by
  refine h.reset hk rfl rfl rfl rfl rfl rfl rfl (fun l => ?_) rfl (fun e => ?_) (fun _ hb => ?_)
  · cases l <;> rfl
  · cases e
  · cases hb.1

end State.keeps
end Sys2Proof.Machine
end

section
/-! ### The requests, but for a change of mode and a restore -/

namespace Sys2Proof.Machine

@[simp] theorem Column.judgeDue_state (c : Column) (n : Nat) : (c.judgeDue n).state = c.state := rfl

/-- A use of the softener profile, with its defaults or not, changes the state of no column (R176). -/
theorem State.useSoftener_columnState (s : State) (c : Side) :
    ((s.useProfile .softener).column c).state = (s.column c).state := by
  unfold State.useProfile
  split
  · rfl
  · have soft : ∀ (u : State) (a : TableId) (b : Option Bank) (i : Nat), (u.integrityError a b i).soft = u.soft := by
      intro u a b i
      unfold State.integrityError
      dsimp only
      split
      · rfl
      · split <;> rfl
    cases c
    · exact (congrArg (fun x : SoftenerUnit => x.colA.state) (soft s .profile none (profileCode .softener)) :)
    · exact (congrArg (fun x : SoftenerUnit => x.colB.state) (soft s .profile none (profileCode .softener)) :)

end Sys2Proof.Machine

namespace Sys2Proof.Machine.State.keeps

variable {k : Lock} {s t u : State}

/-! Tables and profiles. -/

theorem checkEntry (h : s.keeps k t) (b : Bool) (a : TableId) (x : Bank) (i : Nat) : s.keeps k (t.checkEntry b a x i) :=
  ite (fun _ => h) (fun _ => h.integrityError ..)

theorem writeLoad (h : s.keeps k t) (i : Fin 11) (e : LoadEntry) : s.keeps k (t.writeLoad i e) := h.quiet rfl rfl

theorem profileWritten (h : s.keeps k t) (p : ProfileId) : s.keeps k (t.profileWritten p) := by
  have hs := h.setFaulted p false
  unfold State.profileWritten
  dsimp only
  split
  · exact ite (fun _ => hs.clearIntegrity) (fun _ => hs)
  · exact hs

theorem checkProfile (h : s.keeps k t) (p : ProfileId) : s.keeps k (t.checkProfile p) :=
  ite (fun _ => h) (fun _ => ite (fun _ => h.integrityError ..) (fun _ => h.useProfile _))

theorem writeMachine (h : s.keeps k t) (p : MachineProfile) : s.keeps k (t.writeMachine p) := by
  have w : s.keeps k { t with eng.profile := { contents := p, sound := true } } := h.quiet rfl rfl
  exact (w.profileWritten _).profileChanged _

theorem writeSoftener (h : s.keeps k t) (p : SoftenerProfile) : s.keeps k (t.writeSoftener p) := by
  have w : s.keeps k { t with soft.profile := { contents := p, sound := true } } := h.quiet rfl rfl
  exact ((w.profileWritten _).profileChanged _).autoCheck

theorem writeDosing (h : s.keeps k t) (r : Reservoir) (p : DosingProfile) : s.keeps k (t.writeDosing r p) :=
  ((h.setReservoir ..).profileWritten _).profileChanged _

/-! The queue and the cycle. -/

theorem useMaximum (h : s.keeps k t) (p : PhaseRecord) : s.keeps k (t.useMaximum p) := by
  unfold State.useMaximum
  split
  · exact h.useProfile _
  · exact h

theorem withdrawRecord (h : s.keeps k t) (tag : Nat) : s.keeps k (t.withdrawRecord tag) :=
  h.requeue _ (List.filter_sublist.map _)

theorem startCycle (h : s.keeps k t) (hk : k ≠ .clear) (hl : t.trip.latch = false) : s.keeps k t.startCycle := by
  have begun : s.keeps k { t with eng.totals := .zero, eng.susp := .empty, eng.state := .running } :=
    engineState (t := { t with eng.totals := .zero, eng.susp := .empty }) (h.quiet (by rfl) (by rfl)) (.inr hl) .running
  have g : State.opened k { t with eng.totals := .zero, eng.susp := .empty, eng.state := .running } := .inr hl
  exact ((begun.startHead g).finishIf (opened_of (fun h => (refl _ _).startHead (.inr h)) g)).judgeSensorsNow hk

theorem cancelStage (h : s.keeps k t) (x : StageRecord) : s.keeps k (t.cancelStage x) := by
  unfold State.cancelStage
  split
  · exact h.fillGiveBack.abandonDose.enterDrain
  · exact h.abandonDose.enterDrain
  · exact h.abandonDose.enterDrain
  · exact h

theorem cancelCycle (h : s.keeps k t) (hu : t.underWay = true) (x : StageRecord) : s.keeps k (t.cancelCycle x) := by
  have marked : s.keeps k
      { t with
        eng.queue := t.eng.queue.take 1
        eng.head := some { x with cancelling := true }
        eng.susp := t.eng.susp.clearHost } :=
    quiet (t := { t with eng.queue := t.eng.queue.take 1 }) (h.requeue _ ((List.take_sublist ..).map _)) rfl rfl
  unfold State.cancelCycle
  dsimp only
  split
  · refine whenUnderWay marked hu fun h g => h.dropDry.cancelEnd ?_
    exact opened_of (fun _ => (refl _ _).dropDry) g
  · exact (marked.cancelStage x).returnIfFree

theorem resumeEngine (h : s.keeps k t) : s.keeps k t.resumeEngine := returnIfFree (h.quiet (by rfl) (by rfl))

theorem resumeSoftener (h : s.keeps k t) : s.keeps k t.resumeSoftener := h.setHold _

theorem resume (h : s.keeps k t) : s.keeps k t.resume := by
  rcases t.resume_cases with e | ⟨-, e | e⟩ <;> rw [e]
  · exact h.resumeEngine.resumeSoftener
  · exact h.draw.resumeEngine.resumeSoftener
  · exact h.draw.resumeSoftener.resumeEngine

/-! The arbiter, the columns and the reservoirs. -/

theorem setBudget (h : s.keeps k t) (b : Nat) : s.keeps k (t.setBudget b) := h.due rfl rfl

theorem force (h : s.keeps k t) (l : LoadId) (a : Option Nat) : s.keeps k (t.force l a) := h.due rfl rfl

theorem writeColumn (h : s.keeps k t) (c : Side) (st : ColumnState) (n : Nat)
    (e : st = .service → (t.column (otherSide c)).state ≠ .service) : s.keeps k (t.writeColumn c st n) := by
  have hp := h.useProfile .softener
  refine hp.setColumn c _ fun hx => .inr ?_
  rw [State.useSoftener_columnState]
  refine e (Eq.trans ?_ hx)
  rw [Column.judgeDue_state]

theorem alignColumn (h : s.keeps k t) (c : Side) (st : ColumnState) : s.keeps k (t.alignColumn c st) :=
  ite (fun _ => h.createMove ..) (fun _ => h)

theorem columnSet (h : s.keeps k t) (c : Side) (st : ColumnState) (n : Nat)
    (e : st = .service → (t.column (otherSide c)).state ≠ .service) : s.keeps k (t.columnSet c st n) :=
  ((h.writeColumn c st n e).alignColumn ..).autoCheck

theorem adjust (h : s.keeps k t) (r : Reservoir) (n : Nat) : s.keeps k (t.adjust r n) := (h.useProfile _).setReservoir ..

/-! The link port. -/

theorem setThreshold (h : s.keeps k t) (n : Nat) : s.keeps k (t.setThreshold n) := by
  exact h.noticeQueue rfl rfl id

theorem takeNotices (h : s.keeps k t) : s.keeps k t.takeNotices :=
  h.noticeQueue rfl rfl fun hn => (List.length_drop ..).trans_le ((Nat.sub_le ..).trans hn)

theorem snapshot (h : s.keeps k t) (r : Nat) : s.keeps k (t.snapshot r) := h.quiet rfl rfl

theorem discardStaging (h : s.keeps k t) : s.keeps k t.discardStaging :=
  h.restage _ fun _ => by simp [State.stagingKept, Staging.empty, Staging.queue]

theorem sync (h : s.keeps k t) (r : Resolution) : s.keeps k (t.sync r) := h.quiet rfl rfl

theorem respond (h : s.keeps k t) (c : Byte) (x : Status) (p : List Byte) : s.keeps k (t.respond c x p) := h.quiet rfl rfl

/-! Requests are judged on the state that the port finds, and answered at the end of their event. -/

/-- A judged request is answered (R192). -/
theorem answer {v : Verdict} (h : s.keeps k v.state) (hk : k ≠ .clear) (c : Byte) : s.keeps k (v.answer c) := by
  rw [Verdict.answer_eq]
  exact (h.settle hk).respond ..

theorem handle (hk : k ≠ .clear) (c : Byte) (p : List Byte) (judge : State → Verdict) (h : s.keeps k (judge s).state) :
    s.keeps k (s.handle c p judge) := ite (fun _ => h.answer hk c) (fun _ => refl k s)

end Sys2Proof.Machine.State.keeps
end

section
/-! ### A change of mode (R196)

A mode is changed in steps: between them a set latch locks the engine IDLE or TRIPPED, and the step that leaves RUN or enters
it puts the engine where the new mode asks. -/

namespace Sys2Proof.Machine

/-- The steps of a change that leave the old mode. -/
def State.modeLeft (s : State) (m : Mode) : State :=
  let a := { s with link.mode := m, link.staging := .empty }
  let b := if s.link.mode = .service then a.releaseForced else a
  if s.link.mode = .run then b.leaveRun else b

/-- The steps that enter SERVICE or RUN. -/
def State.modeEntered (s : State) (old m : Mode) : State :=
  let e := if old = .standby then s.pollingStart.judgeLeak else s
  let f := e.renewFlood
  if m = .run then f.enterRun else f

theorem State.changeMode_standby (s : State) (h : s.link.mode ≠ .standby) :
    s.changeMode .standby = State.markEval { (s.modeLeft .standby).pollingStop with arb.flood := false } := by
  unfold State.changeMode State.modeLeft
  simp only [h, if_false, if_true, reduceCtorEq, ne_eq, not_true_eq_false]
  rfl

theorem State.changeMode_on (s : State) (m : Mode) (h : m ≠ .standby) :
    s.changeMode m = ((s.modeLeft m).modeEntered s.link.mode m).markEval := by
  unfold State.changeMode State.modeLeft State.modeEntered
  simp only [h, if_false, ne_eq, not_false_eq_true, if_true]

theorem State.postAll_mode (s : State) (ns : List Notice) : (s.postAll ns).link.mode = s.link.mode :=
  (congrArg LinkUnit.mode (LinkUnit.posts_rest ns s.link) :)

theorem State.parkMove_link (s : State) : s.parkMove.link = s.link := by
  unfold State.parkMove
  split
  · rfl
  · split
    · simp
    · rfl

theorem State.dropPulse_link (s : State) : s.dropPulse.link = s.link := by
  unfold State.dropPulse
  split
  · rfl
  · simp

theorem State.takeIfFree_link (s : State) : s.takeIfFree.link = s.link := by
  rcases s.takeIfFree_cases with ⟨-, e⟩ | ⟨i, -, -, -, -, e⟩ <;> rw [e]
  rfl

theorem State.pollingStart_link (s : State) : s.pollingStart.link = s.link := State.takeIfFree_link _

theorem State.judgeLeak_mode (s : State) : s.judgeLeak.link.mode = s.link.mode := by
  unfold State.judgeLeak
  split
  · exact State.of_outer (fun t => t.link.mode) (State.outer_tripCause s _)
  · rfl

theorem State.renewFlood_link (s : State) : s.renewFlood.link = s.link := by
  unfold State.renewFlood
  split <;> rfl

theorem State.releaseForced_besideLoads (s : State) : s.besideLoads s.releaseForced :=
  State.foldl_besideLoads (f := fun t l => t.setLoad l { t.load l with forced := none }) (fun _ _ => rfl) _ _

theorem State.releaseForced_load (s : State) (l : LoadId) : s.releaseForced.load l = { s.load l with forced := none } := by
  unfold State.releaseForced
  rw [State.foldl_load (g := fun _ x => { x with forced := none }) (fun t l k => by
    rw [State.setLoad_load]) allLoads allLoads_nodup, if_pos (mem_allLoads l)]

/-- Leaving RUN, but for the engine's state. -/
def State.leaveRunParts (s : State) : State := (s.postAll s.abortNotice).abortRegen.parkMove.dropPulse

theorem State.leaveRunParts_mode (s : State) : s.leaveRunParts.link.mode = s.link.mode := by
  obtain ⟨-, link, -⟩ := (s.postAll s.abortNotice).abortRegen_spec
  rw [State.leaveRunParts, State.dropPulse_link, State.parkMove_link, link, State.postAll_mode]

namespace State.keeps

variable {k : Lock} {s t u : State}

/-- What is carried without the latch, and the latch apart. -/
theorem relock (o : s.keeps .off t) (l : s.locked k → t.locked k) : s.keeps k t :=
  ⟨o.pending, o.now, o.notices, o.service, o.queue, o.grants, l⟩

/-- The arbiter's own request ends, with an evaluation due (R161). -/
theorem unflood (h : s.keeps k t) : s.keeps k (State.markEval { t with arb.flood := false }) := by
  refine h.trans ⟨rfl, rfl, id, id, id, fun _ hu => (nomatch (hu : true = false)), fun ht => ?_⟩
  have lock : ∀ allowed, t.lockedTo allowed → State.lockedTo allowed (State.markEval { t with arb.flood := false }) := by
    rintro allowed ⟨-, -, hl⟩
    exact ⟨fun e => (nomatch (e : false = true)), fun hu => (nomatch (hu : true = false)), hl⟩
  cases k with
  | off => trivial
  | clear => exact ht
  | loose => exact lock _ ht
  | strict => exact lock _ ht

theorem renewFlood (h : s.keeps k t) : s.keeps k t.renewFlood := by
  unfold State.renewFlood
  split
  · rename_i hc
    simp only [Bool.and_eq_true, decide_eq_true_eq] at hc
    refine h.trans ⟨rfl, rfl, id, id, id, fun _ hu => (nomatch (hu : true = false)), fun ht => ?_⟩
    have lock : ∀ allowed, t.lockedTo allowed → State.lockedTo allowed (State.markEval { t with arb.flood := true }) := by
      rintro allowed ⟨-, -, hl⟩
      exact ⟨fun _ => hc.1, fun hu => (nomatch (hu : true = false)), hl⟩
    cases k with
    | off => trivial
    | clear => exact ht
    | loose => exact lock _ ht
    | strict => exact lock _ ht
  · exact h

/-- An update of the loads that leaves every grant. -/
theorem sameGrants (h : s.keeps k t) (b : t.besideLoads u) (g : ∀ l, (u.load l).grant = (t.load l).grant) :
    s.keeps k u := by
  have hw : u.totalWatts = t.totalWatts := by
    rw [State.totalWatts_sum, State.totalWatts_sum]
    refine congrArg List.sum (List.map_congr_left fun l _ => ?_)
    have ha : u.loadEntry l = t.loadEntry l := (congrArg (fun x : State => x.loadEntry l) b :)
    rw [State.watts_eq, State.watts_eq, g]
    unfold State.wattsAt
    rw [ha]
  unfold State.besideLoads at b
  rw [b] at g hw ⊢
  refine h.trans ⟨rfl, rfl, id, id, id, fun ht hu => ?_, fun ht => ?_⟩
  · obtain ⟨hb, hm⟩ := ht hu
    exact ⟨hw.le.trans hb, fun hp l => (g l).trans (hm hp l)⟩
  · have lock : ∀ allowed, t.lockedTo allowed → State.lockedTo allowed { t with arb.loads := u.arb.loads } := by
      rintro allowed ⟨hf, hg, hl⟩
      exact ⟨hf, fun hu hlatch l hne => hg hu hlatch l fun e => hne ((g l).trans e), hl⟩
    cases k with
    | off => trivial
    | clear => exact ht
    | loose => exact lock _ ht
    | strict => exact lock _ ht

theorem releaseForced (h : s.keeps k t) : s.keeps k t.releaseForced :=
  h.sameGrants t.releaseForced_besideLoads fun l => by rw [State.releaseForced_load]

theorem leaveRunParts (h : s.keeps k t) : s.keeps k t.leaveRunParts :=
  (h.postAll _).abortRegen.parkMove.dropPulse

/-- The mode and the staging change; the engine is judged by the steps that follow. -/
theorem setMode (m : Mode) : s.keeps .off { s with link.mode := m, link.staging := .empty } :=
  ⟨rfl, rfl, id, id, fun hs => ⟨hs.1, by simp [State.stagingKept, Staging.empty, Staging.queue]⟩, id, fun _ => trivial⟩

/-- IDLE is where a set latch may hold the engine while the mode is being changed. -/
theorem idleEngine (h : s.keeps .off t) : s.keeps .off { t with eng.state := .idle } := h.engineState (.inl rfl) _

theorem modeLeft_off (m : Mode) : s.keeps .off (s.modeLeft m) := by
  have a := setMode (s := s) m
  have b : s.keeps .off (if s.link.mode = .service then
      State.releaseForced { s with link.mode := m, link.staging := .empty } else _) :=
    ite (fun _ => a.releaseForced) (fun _ => a)
  exact ite (fun _ => b.leaveRunParts.idleEngine) (fun _ => b)

theorem modeEntered_off (h : s.keeps .off t) (old m : Mode) : s.keeps .off (t.modeEntered old m) := by
  have e : s.keeps .off (if old = .standby then t.pollingStart.judgeLeak else t) :=
    ite (fun _ => h.pollingStart.judgeLeak nofun) (fun _ => h)
  refine ite (fun _ => ?_) (fun _ => e.renewFlood)
  exact (wakeMove (ite (fun _ => e.renewFlood.engineState (.inl rfl) _) (fun _ => e.renewFlood))).autoCheck

end State.keeps

/-- What a set latch locks stands as the changed mode allows it. -/
theorem State.lockedTo_setMode {s : State} {allowed : Mode → EngineState → Prop} {m : Mode}
    (h : s.locked .strict) (ha : s.trip.latch = true → allowed m s.eng.state) :
    State.lockedTo allowed { s with link.mode := m, link.staging := .empty } :=
  ⟨h.1, h.2.1, fun hl => ⟨(h.2.2 hl).1, ha hl⟩⟩

theorem State.modeLeft_strict {s : State} {m : Mode} (h : s.locked .strict) (hm : m ≠ .run) :
    (s.modeLeft m).locked .strict := by
  unfold State.modeLeft
  dsimp only
  by_cases hr : s.link.mode = .run
  · rw [if_pos hr, if_neg (by rw [hr]; decide)]
    have loose : State.locked { s with link.mode := m, link.staging := .empty } .loose :=
      State.lockedTo_setMode h fun hl => .inr (by simpa [lockedEngine, hr] using (h.2.2 hl).2)
    obtain ⟨hf, hg, hl⟩ := (State.keeps.refl .loose _).leaveRunParts.locked loose
    refine ⟨hf, hg, fun hlatch => ⟨(hl hlatch).1, ?_⟩⟩
    show EngineState.idle = if (State.leaveRunParts _).link.mode = .run then _ else _
    rw [State.leaveRunParts_mode, if_neg hm]
  · rw [if_neg hr]
    have strict : State.locked { s with link.mode := m, link.staging := .empty } .strict :=
      State.lockedTo_setMode h fun hl => by simpa [lockedEngine, hr, hm] using (h.2.2 hl).2
    split
    · exact (State.keeps.refl .strict _).releaseForced.locked strict
    · exact strict

theorem State.modeLeft_toRun {s : State} (h : s.locked .strict) (hr : s.link.mode ≠ .run) :
    (s.modeLeft .run).locked .loose ∧ (s.modeLeft .run).link.mode = .run := by
  unfold State.modeLeft
  dsimp only
  rw [if_neg hr]
  have loose : State.locked { s with link.mode := .run, link.staging := .empty } .loose :=
    State.lockedTo_setMode h fun hl => .inl (by simpa [lockedEngine, hr] using (h.2.2 hl).2)
  split
  · refine ⟨(State.keeps.refl .loose _).releaseForced.locked loose, ?_⟩
    exact (congrArg (fun x : State => x.link.mode) (State.releaseForced_besideLoads _) :)
  · exact ⟨loose, rfl⟩

theorem State.modeEntered_strict {s : State} {m old : Mode} (h : s.locked .strict) (hm : m ≠ .run) :
    (s.modeEntered old m).locked .strict := by
  unfold State.modeEntered
  dsimp only
  rw [if_neg hm]
  refine State.keeps.locked (State.keeps.renewFlood ?_) h
  exact State.keeps.ite (fun _ => (State.keeps.refl _ _).pollingStart.judgeLeak nofun) (fun _ => .refl _ _)

theorem State.modeEntered_run {s : State} {old : Mode} (h : s.locked .loose) (hm : s.link.mode = .run) :
    (s.modeEntered old .run).locked .strict := by
  unfold State.modeEntered
  dsimp only
  rw [if_pos rfl]
  obtain ⟨e, he⟩ : ∃ e, e = if old = .standby then s.pollingStart.judgeLeak else s := ⟨_, rfl⟩
  have loose : e.renewFlood.locked .loose := by
    rw [he]
    refine State.keeps.locked (State.keeps.renewFlood ?_) h
    exact State.keeps.ite (fun _ => (State.keeps.refl _ _).pollingStart.judgeLeak nofun) (fun _ => .refl _ _)
  have mode : e.renewFlood.link.mode = .run := by
    rw [State.renewFlood_link, he]
    split
    · rw [State.judgeLeak_mode, State.pollingStart_link, hm]
    · exact hm
  rw [← he]
  have placed : State.locked
      (if e.renewFlood.trip.latch then { e.renewFlood with eng.state := .tripped } else e.renewFlood) .strict := by
    obtain ⟨hf, hg, hl⟩ := loose
    split
    · exact ⟨hf, hg, fun hlatch => ⟨(hl hlatch).1, by simp [lockedEngine, mode]⟩⟩
    · rename_i hn
      exact ⟨hf, hg, fun hlatch => absurd hlatch hn⟩
  exact (State.keeps.refl .strict _).wakeMove.autoCheck.locked placed

/-- A change of mode keeps what any operation does (R54, R161, R196). -/
theorem State.keeps.changeMode {s : State} {m : Mode} (hm : m ≠ s.link.mode) : s.keeps .strict (s.changeMode m) := by
  by_cases hs : m = .standby
  · subst hs
    rw [State.changeMode_standby s (Ne.symm hm)]
    have left : s.keeps .strict (s.modeLeft .standby) :=
      (State.keeps.modeLeft_off _).relock fun h => State.modeLeft_strict h (by decide)
    exact left.pollingStop.unflood
  · rw [State.changeMode_on s m hs]
    refine State.keeps.markEval (.relock ((State.keeps.modeLeft_off m).modeEntered_off _ _) fun h => ?_)
    by_cases hr : m = .run
    · subst hr
      obtain ⟨loose, mode⟩ := State.modeLeft_toRun h (Ne.symm hm)
      exact State.modeEntered_run loose mode
    · exact State.modeEntered_strict (State.modeLeft_strict h hr) hr

end Sys2Proof.Machine
end

section
/-! ### A restore, and every command -/

namespace Sys2Proof.Machine

@[simp] theorem PhaseRecord.lowerSetpoint_tag (p : PhaseRecord) (n : Nat) : (p.lowerSetpoint n).tag = p.tag := by
  unfold PhaseRecord.lowerSetpoint
  split <;> rfl

@[simp] theorem PhaseRecord.clamped_tag (p : PhaseRecord) (n : Nat) : (p.clamped n).tag = p.tag := by
  unfold PhaseRecord.clamped
  split <;> rfl

theorem State.integrityError_eng (s : State) (t : TableId) (b : Option Bank) (i : Nat) :
    (s.integrityError t b i).eng = s.eng := by
  unfold State.integrityError
  dsimp only
  split
  · rfl
  · split <;> rfl

/-- A use of the machine profile lowers setpoints and changes no tag (R52, R176). -/
theorem State.useMachine_tags (s : State) :
    (s.useProfile .machine).eng.queue.map PhaseRecord.tag = s.eng.queue.map PhaseRecord.tag := by
  unfold State.useProfile
  split
  · rfl
  · have q : ∀ u : State, u.lowerQueuedSetpoints.eng.queue.map PhaseRecord.tag = u.eng.queue.map PhaseRecord.tag := by
      intro u
      simp [State.lowerQueuedSetpoints, Function.comp_def]
    refine (q _).trans ?_
    exact (congrArg (fun x : EngineUnit => x.queue.map PhaseRecord.tag)
      (s.integrityError_eng .profile none (profileCode .machine)) :)

theorem State.useMaximum_tags (s : State) (p : PhaseRecord) :
    (s.useMaximum p).eng.queue.map PhaseRecord.tag = s.eng.queue.map PhaseRecord.tag := by
  unfold State.useMaximum
  split
  · exact s.useMachine_tags
  · rfl

namespace State.keeps

variable {k : Lock} {s t u : State}

/-- A record joins the tail (R41, R45). -/
theorem submit (hl : s.trip.latch = false) (p : PhaseRecord) (hlen : s.eng.queue.length < 8)
    (htag : ∀ q ∈ s.eng.queue, q.tag ≠ p.tag) : s.keeps k (s.submit p) := by
  have used := (refl k s).useMaximum p
  have clear : (s.useMaximum p).trip.latch = false := ((refl .clear s).useMaximum p).locked hl
  unfold State.submit
  refine used.refill (.inr clear) _ .empty fun hs => ?_
  have tags := s.useMaximum_tags p
  have len : (s.useMaximum p).eng.queue.length = s.eng.queue.length := by simpa using congrArg List.length tags
  refine ⟨⟨?_, ?_⟩, by simp [State.stagingKept, Staging.empty, Staging.queue]⟩
  · simp only [List.length_append, List.length_cons, List.length_nil]
    omega
  · simp only [List.map_append, tags, List.map_cons, List.map_nil, PhaseRecord.clamped_tag]
    refine List.nodup_append'.mpr ⟨hs.1.2, by simp, ?_⟩
    simpa [List.Disjoint] using fun q hq => htag q hq

/-- The latch is cleared: what it locked is free (R173). -/
theorem tripClear (h : s.keeps k t) : s.keeps k t.tripClear := by
  unfold State.tripClear
  dsimp only
  refine ite (fun _ => ?_) (fun _ => h.clearIntegrity)
  refine markEval (autoCheck (h.trans ⟨rfl, rfl, id, id, fun hs => ?_, fun hs hu => hs hu, fun _ => ?_⟩))
  · exact ⟨by simp [State.queueKept], hs.2⟩
  · have clear : ∀ allowed, State.lockedTo allowed
        { t.clearIntegrity with
          trip.latch := false, trip.record := .empty, trip.flowQuiet := none, trip.tableMark := false
          trip.lostRole := none, eng.state := .idle, eng.queue := [], arb.flood := false, soft.stray := 0 } :=
      fun _ => State.lockedTo_of_clear rfl (fun e => (nomatch (e : false = true)))
        (fun _ e => (nomatch (e : false = true)))
    cases k with
    | off => trivial
    | clear => rfl
    | loose => exact clear _
    | strict => exact clear _

theorem useForClear (h : s.keeps k t) : s.keeps k t.useForClear := ite (fun _ => h.useProfile _) (fun _ => h)

/-- A record joins the staging: slot or not, as the tests of R187 let it. -/
theorem stage (h : s.keeps k t) (body : List Byte) (x : List (Option PhaseRecord))
    (e : t.stagingKept → (t.stage body x).stagingKept) : s.keeps k (t.stage body x) := h.restage _ e

/-! The restore (R189). -/

theorem loadQueue (h : s.keeps k t) (g : t.opened k) : s.keeps k (t.loadQueue s.link.staging) := by
  have used := h.useProfile .machine
  have go : (t.useProfile .machine).opened k := opened_of (fun _ => (refl _ _).useProfile _) g
  refine used.refill go _ (t.useProfile .machine).link.staging fun hs => ⟨⟨?_, ?_⟩, (used.queue hs).2⟩
  · obtain ⟨-, -, hlen⟩ := hs.2
    rw [List.length_map]
    exact (List.length_filterMap_le ..).trans hlen
  · simpa [Function.comp_def] using hs.2.1

theorem loadHead (h : s.keeps k t) (g : t.opened k) (r9 : List Byte) (st : Stage) : s.keeps k (t.loadHead r9 st) := by
  have loaded : s.keeps k
      { t with
        eng.head := some (imageStage r9 st t.machine.drainTimeout)
        eng.state := .suspended
        eng.susp := { SuspSet.empty with restored := true } } :=
    quiet (t := { t with eng.state := .suspended }) (h.engineState g _) rfl rfl
  unfold State.loadHead
  dsimp only
  split
  · exact loaded.quiet rfl rfl
  · exact ite (fun _ => loaded) (fun _ => loaded.quiet rfl rfl)

theorem loadReservoir (h : s.keeps k t) (r : Reservoir) (rec : List Byte) : s.keeps k (t.loadReservoir r rec) :=
  (h.useProfile _).setReservoir ..

theorem loadDose (h : s.keeps k t) (r : Reservoir) (rec : List Byte) : s.keeps k (t.loadDose r rec) :=
  ite (fun _ => h.quiet rfl rfl) (fun _ => h)

theorem loadTotals (h : s.keeps k t) (r : List Byte) : s.keeps k (t.loadTotals r) := h.quiet rfl rfl

theorem loadMains (h : s.keeps k t) : s.keeps k t.loadMains := ite (fun _ => h.quiet rfl rfl) (fun _ => h)

theorem restoreMove (h : s.keeps k t) : s.keeps k t.restoreMove := by
  unfold State.restoreMove
  split
  · refine ite (fun _ => h.wakeMove) (fun _ => createMove ?_ _ _)
    exact h.quiet rfl rfl
  · exact h.wakeMove

theorem restoreSensors (h : s.keeps k t) (hk : k ≠ .clear) (b : Bool) : s.keeps k (t.restoreSensors b) :=
  ite (fun _ => h.judgeSensorsNow hk) (fun _ => h)

/-- The columns of a consistent image are not both in SERVICE (R188). -/
theorem loadSoftener (h : s.keeps k t) (g : Staging)
    (hc : ¬(byteAt (g.record 10) 0 = 1 ∧ byteAt (g.record 11) 0 = 1)) : s.keeps k (t.loadSoftener g) := by
  have service : ∀ n, (columnStateOfCode n).getD .offline = .service → n = 1 := by
    intro n hn
    unfold columnStateOfCode at hn
    rcases n with _ | _ | _ | _ | _ | _ | _ | n <;> simp at hn ⊢
  exact (h.useProfile .softener).trans ⟨rfl, rfl, id, fun _ hb => hc ⟨service _ hb.1, service _ hb.2⟩, id, id,
    fun ht => by cases k <;> exact ht⟩

end State.keeps

theorem Staging.consistent_columns {g : Staging} (h : g.consistent = true) :
    ¬(byteAt (g.record 10) 0 = 1 ∧ byteAt (g.record 11) 0 = 1) := by
  unfold Staging.consistent at h
  simp only [Bool.and_eq_true, Bool.not_eq_true', Bool.and_eq_false_imp, decide_eq_true_eq, decide_eq_false_iff_not] at h
  exact fun hb => h.1.1.1.1.2 hb.1 hb.2

/-- The first steps of a restore: RUN mode, polling, and the queue from the slots (R189). -/
theorem State.keeps.restoreBegun {k : Lock} {s : State} (hl : s.trip.latch = false) :
    s.keeps k ((State.pollingStart { s with link.mode := .run, link.staging := .empty }).loadQueue s.link.staging) := by
  have run : ∀ j : Lock, s.keeps j { s with link.mode := .run, link.staging := .empty } := by
    intro j
    refine (State.keeps.setMode .run).relock fun h => ?_
    have clear : ∀ {a b : Mode → EngineState → Prop}, s.lockedTo a →
        State.lockedTo b { s with link.mode := .run, link.staging := .empty } :=
      fun h => State.lockedTo_of_clear hl h.1 h.2.1
    cases j with
    | off => trivial
    | clear => exact hl
    | loose => exact clear h
    | strict => exact clear h
  exact (run k).pollingStart.loadQueue (.inr ((run .clear).pollingStart.locked hl))

/-- An image is applied (R189). -/
theorem State.keeps.restore {s : State} (hl : s.trip.latch = false) (hc : s.link.staging.consistent = true)
    (r15 : List Byte) : s.keeps .strict (s.restore s.link.staging r15) := by
  have begun := State.keeps.restoreBegun (k := .strict) hl
  have clear := (State.keeps.restoreBegun (k := .clear) hl).locked hl
  unfold State.restore
  dsimp only
  generalize (State.pollingStart { s with link.mode := .run, link.staging := .empty }).loadQueue s.link.staging = a
    at begun clear
  generalize stageOfCode (byteAt (s.link.staging.record 9) 0) = stage
  have head : s.keeps .strict
      (match stage with
       | some st => a.loadHead (s.link.staging.record 9) st
       | none => a) := by
    cases stage with
    | none => exact begun
    | some st => exact begun.loadHead (.inr clear) _ st
  have soft := (head.loadSoftener _ (Staging.consistent_columns hc)).loadReservoir .det (s.link.staging.record 13)
  have doses := ((soft.loadReservoir .rinse (s.link.staging.record 14)).loadDose .det (s.link.staging.record 13)).loadDose
    .rinse (s.link.staging.record 14)
  exact (((doses.loadTotals r15).loadMains.restoreMove.judgeLeak nofun).restoreSensors nofun _).markEval

end Sys2Proof.Machine
end

section
/-! ### What each judged request leaves -/

namespace Sys2Proof.Machine

variable {k : Lock} {s : State}

theorem judgeWriteChannel_keeps (p : List Byte) : s.keeps k (judgeWriteChannel p s).state := by
  unfold judgeWriteChannel
  split
  · split
    · split
      · exact (State.keeps.refl k s).setChan _
      · exact .refl k s
    · exact .refl k s
  · exact .refl k s

theorem judgeReadChannel_keeps (p : List Byte) : s.keeps k (judgeReadChannel p s).state := by
  unfold judgeReadChannel
  split
  · split
    · split
      · exact (State.keeps.refl k s).checkEntry ..
      · exact .refl k s
    · exact .refl k s
  · exact .refl k s

theorem judgeWriteCurve_keeps (p : List Byte) : s.keeps k (judgeWriteCurve p s).state := by
  unfold judgeWriteCurve
  split
  · split
    · split
      · exact (State.keeps.refl k s).setChan _
      · exact .refl k s
    · exact .refl k s
  · exact .refl k s

theorem judgeReadCurve_keeps (p : List Byte) : s.keeps k (judgeReadCurve p s).state := by
  unfold judgeReadCurve
  split
  · split
    · split
      · exact (State.keeps.refl k s).checkEntry ..
      · exact .refl k s
    · exact .refl k s
  · exact .refl k s

theorem judgeWritePollList_keeps (p : List Byte) : s.keeps k (judgeWritePollList p s).state := by
  unfold judgeWritePollList
  split
  · split
    · split
      · exact .refl k s
      · split
        · exact (State.keeps.refl k s).writePoll ..
        · exact .refl k s
    · exact .refl k s
  · exact .refl k s

theorem judgeReadPollList_keeps (p : List Byte) : s.keeps k (judgeReadPollList p s).state := by
  unfold judgeReadPollList
  split
  · split
    · split <;> exact .refl k s
    · exact .refl k s
  · exact .refl k s

theorem judgeWriteLoad_keeps (p : List Byte) : s.keeps k (judgeWriteLoad p s).state := by
  unfold judgeWriteLoad
  split
  · split
    · split
      · exact (State.keeps.refl k s).writeLoad ..
      · exact .refl k s
    · exact .refl k s
  · exact .refl k s

theorem judgeReadLoad_keeps (p : List Byte) : s.keeps k (judgeReadLoad p s).state := by
  unfold judgeReadLoad
  split
  · split
    · split
      · exact (State.keeps.refl k s).checkEntry ..
      · exact .refl k s
    · exact .refl k s
  · exact .refl k s

theorem judgeBankSwap_keeps (hk : k ≠ .clear) (p : List Byte) : s.keeps k (judgeBankSwap p s).state := by
  unfold judgeBankSwap
  split
  · split
    · exact .refl k s
    · split
      · exact .refl k s
      · exact (State.keeps.refl k s).swap hk _
  · exact .refl k s

theorem judgeWriteMachine_keeps (p : List Byte) : s.keeps k (judgeWriteMachine p s).state := by
  unfold judgeWriteMachine
  split
  · split
    · split
      · exact .refl k s
      · split
        · exact (State.keeps.refl k s).writeMachine _
        · exact .refl k s
    · exact .refl k s
  · exact .refl k s

theorem judgeReadMachine_keeps (p : List Byte) : s.keeps k (judgeReadMachine p s).state := by
  unfold judgeReadMachine
  split
  · split
    · exact (State.keeps.refl k s).checkProfile _
    · exact .refl k s
  · exact .refl k s

theorem judgeWriteSoftener_keeps (p : List Byte) : s.keeps k (judgeWriteSoftener p s).state := by
  unfold judgeWriteSoftener
  split
  · split
    · split
      · exact .refl k s
      · split
        · exact (State.keeps.refl k s).writeSoftener _
        · exact .refl k s
    · exact .refl k s
  · exact .refl k s

theorem judgeReadSoftener_keeps (p : List Byte) : s.keeps k (judgeReadSoftener p s).state := by
  unfold judgeReadSoftener
  split
  · split
    · exact (State.keeps.refl k s).checkProfile _
    · exact .refl k s
  · exact .refl k s

theorem judgeWriteDosing_keeps (p : List Byte) : s.keeps k (judgeWriteDosing p s).state := by
  unfold judgeWriteDosing
  split
  · split
    · split
      · split
        · exact .refl k s
        · split
          · exact (State.keeps.refl k s).writeDosing ..
          · exact .refl k s
      · exact .refl k s
    · exact .refl k s
  · exact .refl k s

theorem judgeReadDosing_keeps (p : List Byte) : s.keeps k (judgeReadDosing p s).state := by
  unfold judgeReadDosing
  split
  · split
    · exact (State.keeps.refl k s).checkProfile _
    · exact .refl k s
  · exact .refl k s

theorem judgeSetMode_keeps (p : List Byte) : s.keeps .strict (judgeSetMode p s).state := by
  unfold judgeSetMode
  split
  · split
    · exact .refl _ s
    · split
      · exact .refl _ s
      · rename_i hm
        split
        · exact .refl _ s
        · exact State.keeps.changeMode hm
  · exact .refl _ s

theorem judgePhaseSubmit_keeps (p : List Byte) : s.keeps k (judgePhaseSubmit p s).state := by
  unfold judgePhaseSubmit
  split
  · exact .refl k s
  · split
    · exact .refl k s
    · rename_i hl
      split
      · exact .refl k s
      · split
        · exact .refl k s
        · rename_i hlen
          split
          · exact .refl k s
          · rename_i r _
            split
            · exact .refl k s
            · rename_i htag
              exact State.keeps.submit (by simpa using hl) r (by omega) (by simpa using htag)

theorem judgePhaseWithdraw_keeps (p : List Byte) : s.keeps k (judgePhaseWithdraw p s).state := by
  unfold judgePhaseWithdraw
  split
  · split
    · split
      · exact .refl k s
      · exact (State.keeps.refl k s).withdrawRecord _
    · exact .refl k s
  · exact .refl k s

theorem judgeCycleStart_keeps (hk : k ≠ .clear) (p : List Byte) : s.keeps k (judgeCycleStart p s).state := by
  unfold judgeCycleStart
  split
  · exact .refl k s
  · split
    · exact .refl k s
    · split
      · exact .refl k s
      · rename_i hl
        split
        · exact .refl k s
        · split
          · exact .refl k s
          · split
            · exact .refl k s
            · exact (State.keeps.refl k s).startCycle hk (by simpa using hl)

theorem judgeCycleCancel_keeps (p : List Byte) : s.keeps k (judgeCycleCancel p s).state := by
  unfold judgeCycleCancel
  split
  · exact .refl k s
  · split
    · exact .refl k s
    · split
      · split
        · rename_i hu
          exact (State.keeps.refl k s).cancelCycle hu _
        · exact .refl k s
      · exact .refl k s

theorem judgePause_keeps (p : List Byte) : s.keeps k (judgePause p s).state := by
  unfold judgePause
  split
  · exact .refl k s
  · split
    · exact .refl k s
    · split
      · exact (State.keeps.refl k s).addReason _
      · exact .refl k s

theorem judgeResume_keeps (p : List Byte) : s.keeps k (judgeResume p s).state := by
  unfold judgeResume
  split
  · exact .refl k s
  · exact (State.keeps.refl k s).resume

theorem judgeFlags_keeps (p : List Byte) : s.keeps k (judgeFlags p s).state := by
  unfold judgeFlags
  split
  · exact (State.keeps.refl k s).flagsUpdate _
  · exact .refl k s

theorem judgeBudget_keeps (p : List Byte) : s.keeps k (judgeBudget p s).state := by
  unfold judgeBudget
  split
  · exact (State.keeps.refl k s).setBudget _
  · exact .refl k s

theorem judgeForce_keeps (b : Bool) (p : List Byte) : s.keeps k (judgeForce b p s).state := by
  unfold judgeForce
  split
  · split
    · exact .refl k s
    · split
      · exact .refl k s
      · split
        · exact .refl k s
        · split
          · exact (State.keeps.refl k s).force ..
          · exact .refl k s
  · exact .refl k s

theorem judgeColumnSet_keeps (p : List Byte) : s.keeps k (judgeColumnSet p s).state := by
  unfold judgeColumnSet
  split
  · split
    · exact .refl k s
    · split
      · split
        · exact .refl k s
        · split
          · exact .refl k s
          · split
            · exact .refl k s
            · rename_i hc
              exact (State.keeps.refl k s).columnSet _ _ _ fun hs ho => hc ⟨hs, ho⟩
      · exact .refl k s
  · exact .refl k s

theorem judgeRegenStart_keeps (p : List Byte) : s.keeps k (judgeRegenStart p s).state := by
  unfold judgeRegenStart
  split
  · split
    · exact .refl k s
    · split
      · exact .refl k s
      · split
        · exact .refl k s
        · split
          · exact .refl k s
          · split
            · exact .refl k s
            · exact (State.keeps.refl k s).startRegen _
  · exact .refl k s

theorem judgeReservoirAdjust_keeps (p : List Byte) : s.keeps k (judgeReservoirAdjust p s).state := by
  unfold judgeReservoirAdjust
  split
  · split
    · exact .refl k s
    · split
      · exact (State.keeps.refl k s).adjust ..
      · exact .refl k s
  · exact .refl k s

theorem judgeStatusRead_keeps (p : List Byte) : s.keeps k (judgeStatusRead p s).state := by
  unfold judgeStatusRead
  split
  · split
    · split <;> exact .refl k s
    · exact .refl k s
  · exact .refl k s

theorem judgeStatusWrite_keeps (p : List Byte) : s.keeps k (judgeStatusWrite p s).state := by
  unfold judgeStatusWrite
  split
  · split
    · exact (State.keeps.refl k s).setThreshold _
    · exact .refl k s
  · exact .refl k s

theorem judgeChannelRead_keeps (p : List Byte) : s.keeps k (judgeChannelRead p s).state := by
  unfold judgeChannelRead
  split
  · split <;> exact .refl k s
  · exact .refl k s

theorem judgeSamplesRead_keeps (p : List Byte) : s.keeps k (judgeSamplesRead p s).state := by
  unfold judgeSamplesRead
  split
  · split
    · exact (State.keeps.refl k s).quiet rfl rfl
    · exact .refl k s
  · exact .refl k s

theorem judgeNoticeRead_keeps (p : List Byte) : s.keeps k (judgeNoticeRead p s).state := by
  unfold judgeNoticeRead
  split
  · exact .refl k s
  · exact (State.keeps.refl k s).takeNotices

theorem judgeContextSnap_keeps (p : List Byte) : s.keeps k (judgeContextSnap p s).state := by
  unfold judgeContextSnap
  split
  · exact .refl k s
  · split
    · exact .refl k s
    · split
      · exact .refl k s
      · exact (State.keeps.refl k s).snapshot _

theorem judgeContextRead_keeps (p : List Byte) : s.keeps k (judgeContextRead p s).state := by
  unfold judgeContextRead
  split
  · split
    · exact .refl k s
    · split <;> exact .refl k s
  · exact .refl k s

/-! A record of CONTEXT_WRITE joins the staging as the tests of R187 let it. -/

theorem stagingKept_stage_none {body : List Byte} {x : List (Option PhaseRecord)} (h : s.stagingKept)
    (hx : x = [] ∨ x = [none]) (hlen : x ≠ [] → 1 ≤ s.link.staging.records.length ∧ s.link.staging.records.length ≤ 8) :
    (s.stage body x).stagingKept := by
  obtain ⟨htags, hrec, hmax⟩ := h
  unfold State.stage State.stagingKept Staging.queue
  refine ⟨?_, ?_, ?_⟩
  · rcases hx with rfl | rfl <;> simpa [Staging.queue] using htags
  · rcases hx with rfl | rfl
    · simp; omega
    · have := hlen (by simp)
      simp; omega
  · rcases hx with rfl | rfl
    · simpa using hmax
    · have := hlen (by simp)
      simp; omega

theorem Staging.slotGood_tag {g : Staging} {phase : List Byte} {p : PhaseRecord} (h : g.slotGood phase = some p) :
    ∀ q ∈ g.queue, q.tag ≠ p.tag := by
  unfold Staging.slotGood at h
  split at h
  · split at h
    · cases h
    · rename_i hn
      cases h
      intro q hq e
      obtain ⟨x, hx, hxq⟩ := List.mem_filterMap.mp hq
      simp only [id_eq] at hxq
      subst hxq
      refine hn ?_
      rw [Bool.or_eq_true]
      exact .inl (List.any_eq_true.mpr ⟨some q, hx, by simp [e]⟩)
  · cases h

theorem stagingKept_stage_some {body phase : List Byte} {p : PhaseRecord} (h : s.stagingKept)
    (hp : s.link.staging.slotGood phase = some p)
    (hlen : 1 ≤ s.link.staging.records.length ∧ s.link.staging.records.length ≤ 8) :
    (s.stage body [some p]).stagingKept := by
  obtain ⟨htags, hrec, hmax⟩ := h
  have hne := Staging.slotGood_tag hp
  unfold State.stage State.stagingKept
  refine ⟨?_, by simp; omega, by simp; omega⟩
  show ((s.link.staging.phases ++ [some p]).filterMap id |>.map PhaseRecord.tag).Nodup
  rw [List.filterMap_append, List.map_append]
  refine List.nodup_append'.mpr ⟨htags, by simp, ?_⟩
  simpa [List.Disjoint, Staging.queue] using hne

theorem judgeSlot_keeps (body phase : List Byte)
    (hlen : 1 ≤ s.link.staging.records.length ∧ s.link.staging.records.length ≤ 8) :
    s.keeps k (s.judgeSlot body phase).state := by
  unfold State.judgeSlot
  split
  · exact (State.keeps.refl k s).discardStaging
  · split
    · exact (State.keeps.refl k s).stage _ _ fun h => stagingKept_stage_none h (.inr rfl) fun _ => hlen
    · split
      · rename_i p hp
        exact (State.keeps.refl k s).stage _ _ fun h => stagingKept_stage_some h hp hlen
      · exact (State.keeps.refl k s).discardStaging

theorem judgeLast_keeps (body : List Byte) : s.keeps .strict (s.judgeLast body).state := by
  unfold State.judgeLast
  dsimp only
  split
  · exact (State.keeps.refl _ s).discardStaging
  · split
    · exact (State.keeps.refl _ s).discardStaging
    · rename_i hc
      split
      · exact (State.keeps.refl _ s).discardStaging
      · rename_i hl
        split
        · exact (State.keeps.refl _ s).discardStaging
        · exact State.keeps.restore (by simpa using hl) (by simpa using hc) _

theorem judgeRecord_keeps (n : Nat) (body phase : List Byte) : s.keeps .strict (s.judgeRecord n body phase).state := by
  have discard := (State.keeps.refl .strict s).discardStaging
  unfold State.judgeRecord
  split
  · exact discard
  · split
    · exact discard
    · split
      · exact discard
      · rename_i hn
        split
        · split
          · exact discard.stage _ _ fun h => stagingKept_stage_none h (.inl rfl) (by simp)
          · exact discard
        · split
          · exact judgeSlot_keeps body phase (by omega)
          · split
            · exact (State.keeps.refl _ s).stage _ _ fun h => stagingKept_stage_none h (.inl rfl) (by simp)
            · exact judgeLast_keeps body

theorem judgeContextWrite_keeps (p : List Byte) : s.keeps .strict (judgeContextWrite p s).state := by
  unfold judgeContextWrite
  split
  · dsimp only
    split
    · exact judgeRecord_keeps ..
    · exact (State.keeps.refl _ s).discardStaging
  · exact (State.keeps.refl _ s).discardStaging

theorem judgeTripRead_keeps (p : List Byte) : s.keeps k (judgeTripRead p s).state := by
  unfold judgeTripRead
  split <;> exact .refl k s

theorem judgeTripClear_keeps (p : List Byte) : s.keeps k (judgeTripClear p s).state := by
  unfold judgeTripClear
  split
  · exact .refl k s
  · dsimp only
    split
    · exact (State.keeps.refl k s).useForClear
    · exact (State.keeps.refl k s).useForClear.tripClear

theorem judgeSync_keeps (p : List Byte) : s.keeps k (judgeSync p s).state := by
  unfold judgeSync
  split
  · split
    · exact (State.keeps.refl k s).sync _
    · exact .refl k s
  · exact .refl k s

theorem judgeReset_keeps (p : List Byte) : s.keeps k (judgeReset p s).state := by
  unfold judgeReset
  split
  · exact .refl k s
  · exact (State.keeps.refl k s).quiet rfl rfl

end Sys2Proof.Machine
end

section
/-! ### Every command and every step -/

namespace Sys2Proof.Machine

/-- Every command has a next state, and carries on what any operation does. -/
theorem exec_keeps (c : Instr) (s : State) : ∃ t, exec c s = .next t ∧ s.keeps .strict t := by
  have hk : Lock.strict ≠ .clear := nofun
  have hk' : Lock.strict ≠ .loose := nofun
  have r := State.keeps.refl .strict s
  cases c with
  | tblWriteChannel p => exact ⟨_, rfl, State.keeps.handle hk _ _ _ (judgeWriteChannel_keeps p)⟩
  | tblReadChannel p => exact ⟨_, rfl, State.keeps.handle hk _ _ _ (judgeReadChannel_keeps p)⟩
  | tblWriteCurve p => exact ⟨_, rfl, State.keeps.handle hk _ _ _ (judgeWriteCurve_keeps p)⟩
  | tblReadCurve p => exact ⟨_, rfl, State.keeps.handle hk _ _ _ (judgeReadCurve_keeps p)⟩
  | tblWritePollList p => exact ⟨_, rfl, State.keeps.handle hk _ _ _ (judgeWritePollList_keeps p)⟩
  | tblReadPollList p => exact ⟨_, rfl, State.keeps.handle hk _ _ _ (judgeReadPollList_keeps p)⟩
  | tblWriteLoad p => exact ⟨_, rfl, State.keeps.handle hk _ _ _ (judgeWriteLoad_keeps p)⟩
  | tblReadLoad p => exact ⟨_, rfl, State.keeps.handle hk _ _ _ (judgeReadLoad_keeps p)⟩
  | bankSwap p => exact ⟨_, rfl, State.keeps.handle hk _ _ _ (judgeBankSwap_keeps hk p)⟩
  | profileWriteMachine p => exact ⟨_, rfl, State.keeps.handle hk _ _ _ (judgeWriteMachine_keeps p)⟩
  | profileReadMachine p => exact ⟨_, rfl, State.keeps.handle hk _ _ _ (judgeReadMachine_keeps p)⟩
  | profileWriteSoftener p => exact ⟨_, rfl, State.keeps.handle hk _ _ _ (judgeWriteSoftener_keeps p)⟩
  | profileReadSoftener p => exact ⟨_, rfl, State.keeps.handle hk _ _ _ (judgeReadSoftener_keeps p)⟩
  | profileWriteDosing p => exact ⟨_, rfl, State.keeps.handle hk _ _ _ (judgeWriteDosing_keeps p)⟩
  | profileReadDosing p => exact ⟨_, rfl, State.keeps.handle hk _ _ _ (judgeReadDosing_keeps p)⟩
  | setMode p => exact ⟨_, rfl, State.keeps.handle hk _ _ _ (judgeSetMode_keeps p)⟩
  | phaseSubmit p => exact ⟨_, rfl, State.keeps.handle hk _ _ _ (judgePhaseSubmit_keeps p)⟩
  | phaseWithdraw p => exact ⟨_, rfl, State.keeps.handle hk _ _ _ (judgePhaseWithdraw_keeps p)⟩
  | cycleStart p => exact ⟨_, rfl, State.keeps.handle hk _ _ _ (judgeCycleStart_keeps hk p)⟩
  | cycleCancel p => exact ⟨_, rfl, State.keeps.handle hk _ _ _ (judgeCycleCancel_keeps p)⟩
  | pause p => exact ⟨_, rfl, State.keeps.handle hk _ _ _ (judgePause_keeps p)⟩
  | resume p => exact ⟨_, rfl, State.keeps.handle hk _ _ _ (judgeResume_keeps p)⟩
  | flags p => exact ⟨_, rfl, State.keeps.handle hk _ _ _ (judgeFlags_keeps p)⟩
  | budget p => exact ⟨_, rfl, State.keeps.handle hk _ _ _ (judgeBudget_keeps p)⟩
  | loadForceOn p => exact ⟨_, rfl, State.keeps.handle hk _ _ _ (judgeForce_keeps true p)⟩
  | loadForceOff p => exact ⟨_, rfl, State.keeps.handle hk _ _ _ (judgeForce_keeps false p)⟩
  | columnSet p => exact ⟨_, rfl, State.keeps.handle hk _ _ _ (judgeColumnSet_keeps p)⟩
  | regenStart p => exact ⟨_, rfl, State.keeps.handle hk _ _ _ (judgeRegenStart_keeps p)⟩
  | reservoirAdjust p => exact ⟨_, rfl, State.keeps.handle hk _ _ _ (judgeReservoirAdjust_keeps p)⟩
  | statusRead p => exact ⟨_, rfl, State.keeps.handle hk _ _ _ (judgeStatusRead_keeps p)⟩
  | statusWrite p => exact ⟨_, rfl, State.keeps.handle hk _ _ _ (judgeStatusWrite_keeps p)⟩
  | channelRead p => exact ⟨_, rfl, State.keeps.handle hk _ _ _ (judgeChannelRead_keeps p)⟩
  | samplesRead p => exact ⟨_, rfl, State.keeps.handle hk _ _ _ (judgeSamplesRead_keeps p)⟩
  | noticeRead p => exact ⟨_, rfl, State.keeps.handle hk _ _ _ (judgeNoticeRead_keeps p)⟩
  | contextSnap p => exact ⟨_, rfl, State.keeps.handle hk _ _ _ (judgeContextSnap_keeps p)⟩
  | contextRead p => exact ⟨_, rfl, State.keeps.handle hk _ _ _ (judgeContextRead_keeps p)⟩
  | contextWrite p => exact ⟨_, rfl, State.keeps.handle hk _ _ _ (judgeContextWrite_keeps p)⟩
  | tripRead p => exact ⟨_, rfl, State.keeps.handle hk _ _ _ (judgeTripRead_keeps p)⟩
  | tripClear p => exact ⟨_, rfl, State.keeps.handle hk _ _ _ (judgeTripClear_keeps p)⟩
  | sync p => exact ⟨_, rfl, State.keeps.handle hk _ _ _ (judgeSync_keeps p)⟩
  | reset p => exact ⟨_, rfl, State.keeps.handle hk _ _ _ (judgeReset_keeps p)⟩
  | softReset pins => exact ⟨_, rfl, (r.softReset hk' pins).settle hk⟩
  | powerOn pins => exact ⟨_, rfl, r.powerOn hk' pins⟩
  | linkFrameDiscarded _ => exact ⟨_, rfl, r⟩
  | linkByteTimeout _ => exact ⟨_, rfl, r.quiet rfl rfl⟩
  | timeTagTick => exact ⟨_, rfl, r.quiet rfl rfl⟩
  | pollDue i => exact ⟨_, rfl, r.pollDue i⟩
  | sumpFrameEnd f => exact ⟨_, rfl, (r.sumpFrame hk f).settle hk⟩
  | sumpResponseTimeout => exact ⟨_, rfl, (r.sumpTimeout hk).settle hk⟩
  | sumpByteGap _ => exact ⟨_, rfl, r.clearHeard⟩
  | sumpLateBytes _ => exact ⟨_, rfl, r⟩
  | fillStalled => exact ⟨_, rfl, r.fillStall.settle hk⟩
  | setpointMissed => exact ⟨_, rfl, r.setpointMiss.settle hk⟩
  | minimumHoldElapsed => exact ⟨_, rfl, r.minimumHold⟩
  | holdTimeExpiry => exact ⟨_, rfl, r.holdExpiry.settle hk⟩
  | drainMinimumTimeReached => exact ⟨_, rfl, r.drainMinimum.settle hk⟩
  | drainTimeout => exact ⟨_, rfl, (r.drainExpiry hk).settle hk⟩
  | cycleClockTick => exact ⟨_, rfl, r.clockTick⟩
  | strokeComplete => exact ⟨_, rfl, r.strokeExpiry.settle hk⟩
  | selectorPositionChange c => exact ⟨_, rfl, (r.selectorReading c).settle hk⟩
  | selectorTravelTimeout => exact ⟨_, rfl, r.travelExpiry.settle hk⟩
  | routePulseEnd => exact ⟨_, rfl, r.pulseExpiry.settle hk⟩
  | soakTimeExpiry => exact ⟨_, rfl, r.soakExpiry.settle hk⟩
  | doorSwitchDebounced sw b => exact ⟨_, rfl, (r.doorChange sw b).settle hk⟩
  | settleTimerExpiry => exact ⟨_, rfl, r.settleExpiry.settle hk⟩
  | condenseTimeout => exact ⟨_, rfl, r.condenseExpiry.settle hk⟩
  | attemptWindowExpiry => exact ⟨_, rfl, r.windowExpiry.settle hk⟩
  | restTimerExpiry => exact ⟨_, rfl, r.restExpiry.settle hk⟩
  | ventTimeExpiry => exact ⟨_, rfl, r.ventExpiry.settle hk⟩
  | grantReport l => exact ⟨_, rfl, (r.takeReport l).settle hk⟩
  | zeroCrossPulse => exact ⟨_, rfl, r.zeroCross.settle hk⟩
  | zeroCrossMissed => exact ⟨_, rfl, r.missCrossing.settle hk⟩
  | mainsLossEngine => exact ⟨_, rfl, ((r.setMainsReports _).addReason .mains).settle hk⟩
  | mainsLossSoftener => exact ⟨_, rfl, ((r.setMainsReports _).setHold _).settle hk⟩
  | mainsLossSnapshot => exact ⟨_, rfl, (r.setMainsReports _).snapshot _⟩
  | mainsBackEngine => exact ⟨_, rfl, ((r.setMainsReports _).removeReason .mains).settle hk⟩
  | mainsBackSoftener => exact ⟨_, rfl, ((r.setMainsReports _).setHold _).settle hk⟩
  | pollFrameEnd => exact ⟨_, rfl, r.pollSent⟩
  | responseEnd => exact ⟨_, rfl, .ite (fun _ => r) (fun _ => r.quiet rfl rfl)⟩

theorem State.takeIfFree_arb (s : State) : s.takeIfFree.arb = s.arb := by
  rcases s.takeIfFree_cases with ⟨-, e⟩ | ⟨i, -, -, -, -, e⟩ <;> rw [e]
  rfl

theorem State.handle_settled {s : State} (h : s.settled) (c : Byte) (p : List Byte) (judge : State → Verdict) :
    (s.handle c p judge).settled := by
  unfold State.handle
  split
  · exact (judge s).state.settle_settled
  · exact h

/-- Every command ends with no evaluation due (R148). -/
theorem exec_settled {c : Instr} {s t : State} (h : s.settled) (e : exec c s = .next t) : t.settled := by
  cases c <;> cases e
  case timeTagTick | linkByteTimeout | sumpByteGap | linkFrameDiscarded | sumpLateBytes | mainsLossSnapshot => exact h
  case powerOn => rfl
  case pollDue i =>
    unfold State.pollDue
    split
    · exact (congrArg ArbiterUnit.evalDue (State.takeIfFree_arb _)).trans h
    · exact h
  case minimumHoldElapsed =>
    unfold State.minimumHold
    split
    · exact h
    · split <;> exact h
  case cycleClockTick =>
    unfold State.clockTick
    split <;> exact h
  case pollFrameEnd =>
    unfold State.pollSent
    split
    · exact h
    · split <;> exact h
  case responseEnd =>
    split <;> exact h
  case tblWriteChannel | tblReadChannel | tblWriteCurve | tblReadCurve | tblWritePollList | tblReadPollList |
      tblWriteLoad | tblReadLoad | bankSwap | profileWriteMachine | profileReadMachine | profileWriteSoftener |
      profileReadSoftener | profileWriteDosing | profileReadDosing | setMode | phaseSubmit | phaseWithdraw |
      cycleStart | cycleCancel | pause | resume | flags | budget | loadForceOn | loadForceOff | columnSet |
      regenStart | reservoirAdjust | statusRead | statusWrite | channelRead | samplesRead | noticeRead |
      contextSnap | contextRead | contextWrite | tripRead | tripClear | sync | reset =>
    exact State.handle_settled h ..
  all_goals exact State.settle_settled _

namespace State.keeps

variable {k : Lock} {s t : State}

theorem useLimits (h : s.keeps k t) : s.keeps k t.useLimits := foldl (fun _ _ h => h.useProfile _) _ h

theorem fallDue (h : s.keeps k t) (l : List Instr) : s.keeps k (t.fallDue l) := by
  unfold State.fallDue
  split <;> exact h.quiet rfl rfl

end State.keeps

/-- 0.1 ms passes: only the clock moves of what is followed. -/
theorem State.timePasses_keeps (s : State) : State.keeps .strict { s with now := s.now + 1 } s.timePasses := by
  have tick : State.keeps .strict { s with now := s.now + 1 } s.advance := (State.keeps.refl _ _).quiet rfl rfl
  exact (tick.useLimits.settle nofun).fallDue _

theorem State.raise_keeps (s : State) (l : List Instr) :
    State.keeps .strict { s with pending := (s.raise l).pending } (s.raise l) ∧ (s.raise l).now = s.now := by
  unfold State.raise
  split
  · exact ⟨.refl _ s, rfl⟩
  · exact ⟨(State.keeps.refl .strict { s with pending := s.pending ++ [_] }).quiet rfl rfl, rfl⟩
  · exact ⟨(State.keeps.refl .strict { s with pending := s.pending ++ freelyOrdered (Config.dueOrder s.draws) l }).quiet rfl rfl,
      rfl⟩

/-- The idle step carries on what any operation does; the clock and the waiting commands are its own. -/
theorem State.idle_keeps (s : State) : State.keeps .strict { s with pending := s.idle.pending, now := s.idle.now } s.idle := by
  unfold State.idle
  split
  · split
    · have h := s.timePasses_keeps
      rw [show s.timePasses.pending = s.pending from h.pending, show s.timePasses.now = s.now + 1 from h.now]
      exact h
    · exact (State.keeps.refl _ _).quiet rfl rfl
  · obtain ⟨h, hn⟩ := s.raise_keeps s.dueReports
    rw [hn]
    exact h

/-- A step carries on what any operation does; the clock and the waiting commands are the step's own. -/
theorem step_keeps {s t : State} (e : step s = .next t) :
    State.keeps .strict { s with pending := t.pending, now := t.now } t := by
  unfold step at e
  split at e
  · cases e
    exact s.idle_keeps
  · rename_i c rest hp
    obtain ⟨u, hu, hk⟩ := exec_keeps c { s with pending := rest }
    cases hu.symm.trans e
    rw [hk.pending, hk.now]
    exact hk

theorem State.fallDue_settled {s : State} (h : s.settled) (l : List Instr) : (s.fallDue l).settled := by
  unfold State.fallDue
  split <;> exact h

theorem State.raise_settled {s : State} (h : s.settled) (l : List Instr) : (s.raise l).settled := by
  unfold State.raise
  split <;> exact h

/-- No step ends with an evaluation due (R148). -/
theorem step_settled {s t : State} (h : s.settled) (e : step s = .next t) : t.settled := by
  unfold step at e
  split at e
  · cases e
    unfold State.idle
    split
    · split
      · exact State.fallDue_settled (State.settle_settled _) _
      · exact h
    · exact State.raise_settled h _
  · rename_i c rest hp
    exact exec_settled (s := { s with pending := rest }) h e

/-- Settles O1, by the definition of a step. -/
theorem stepRunsFrontCommand : Obligations.StepRunsFrontCommand := by
  intro c rest s hp
  unfold step
  rw [hp]

/-- Settles O3, by `exec_keeps`. -/
theorem commandsKeepQueueAndClock : Obligations.CommandsKeepQueueAndClock := by
  intro c s
  obtain ⟨t, ht, hk⟩ := exec_keeps c s
  exact ⟨t, ht, hk.pending, hk.now⟩

/-- Settles O6, by `step_keeps` and `step_settled`. -/
theorem stepKeepsBudgetAndMains : Obligations.StepKeepsBudgetAndMains := by
  intro s t hb hm hs e
  have settled := step_settled hs e
  obtain ⟨hb, hm⟩ := (step_keeps e).grants (fun _ => ⟨hb, hm⟩) settled
  exact ⟨hb, hm, settled⟩

/-- Settles O7, by `step_keeps` and `step_settled`. -/
theorem stepKeepsTripLocks : Obligations.StepKeepsTripLocks := by
  intro s t hf hg hl hs e
  have settled := step_settled hs e
  obtain ⟨hf, hg, hl⟩ := (step_keeps e).locked ⟨hf, fun _ => hg, hl⟩
  exact ⟨hf, hg settled, hl, settled⟩

/-- Settles O8, by `step_keeps`. -/
theorem stepKeepsQueuesAndColumns : Obligations.StepKeepsQueuesAndColumns :=
  ⟨fun _ _ h e => (step_keeps e).notices h, fun _ _ hq hg e => (step_keeps e).queue ⟨hq, hg⟩,
    fun _ _ h e => (step_keeps e).service h⟩

end Sys2Proof.Machine
end


section
/-! The reset states: what a power-on leaves (O4), and that it keeps the promises of the invariants (O5). -/

namespace Sys2Proof.Machine

theorem exec_powerOn (pins : InputPins) (s : State) : exec (.powerOn pins) s = .next (s.powerOn pins) := rfl

/-- The door as the two switches read it, where no attempt is under way. -/
theorem formDoor_atReset (closed latch : Bool) :
    formDoor closed latch .open false
      = if closed then (if latch then .latched else .closedUnlatched) else .open := by
  cases closed <;> cases latch <;> rfl

theorem State.reset_load (l : LoadId) : State.reset.load l = .idle := by
  simp [State.load, State.reset]

theorem State.powerOn_load (s : State) (pins : InputPins) (l : LoadId) : (s.powerOn pins).load l = .idle :=
  State.reset_load l

theorem State.powerOn_loadEntry (s : State) (pins : InputPins) (l : LoadId) :
    (s.powerOn pins).loadEntry l = { contents := .blank, sound := true } := by
  simp [State.loadEntry, State.powerOn, State.reset]

/-- Settles O4, by evaluation of the power-on state block by block. -/
theorem powerOnValues : Obligations.PowerOnValues := by
  unfold Obligations.PowerOnValues
  intro pins s
  have channels : ∀ i : Fin 32, (s.powerOn pins).chan.active[i].contents.enabled = false ∧
      (s.powerOn pins).chan.shadow[i].contents.enabled = false ∧
      (s.powerOn pins).chan.run[i].freshness = .noData ∧ (s.powerOn pins).chan.run[i].misses = 0 ∧
      (s.powerOn pins).chan.run[i].store.ring = [] := by
    intro i
    simp [State.powerOn, State.reset, ChannelEntry.blank, ChannelRun.blank, SampleStore.empty]
  have curves : ∀ i : Fin 8, (s.powerOn pins).chan.curves[i].contents = { points := [], valid := false } := by
    intro i
    simp [State.powerOn, State.reset, Curve.blank]
  have polls : ∀ i : Fin 16, (s.powerOn pins).bus.poll[i] = .blank ∧ (s.powerOn pins).bus.run[i] = .blank := by
    intro i
    simp [State.powerOn, State.reset]
  have satellites : ∀ i : Fin 4, (s.powerOn pins).bus.sats[i] = .blank := by
    intro i
    simp [State.powerOn, State.reset]
  have columns : ∀ c, (s.powerOn pins).column c = { state := .offline, cap := 0, due := false, saltReduced := false } := by
    rintro (_ | _) <;> rfl
  have reservoirs : ∀ r, ((s.powerOn pins).reservoir r).estimate = 0 ∧ ((s.powerOn pins).reservoir r).lowSeen = false ∧
      ((s.powerOn pins).reservoir r).profile.contents = .default := by
    rintro (_ | _) <;> exact ⟨rfl, rfl, rfl⟩
  have loads : ∀ l, ((s.powerOn pins).load l).own = none ∧ ((s.powerOn pins).load l).forced = none ∧
      ((s.powerOn pins).load l).grant = none ∧ ((s.powerOn pins).loadEntry l).contents.enabled = false := by
    intro l
    rw [s.powerOn_load pins l, s.powerOn_loadEntry pins l]
    exact ⟨rfl, rfl, rfl, rfl⟩
  have door : (s.powerOn pins).door = { State.reset.door with
      inputs := pins, closed := pins.doorClosed, latch := pins.latchEngaged
      state := if pins.doorClosed then (if pins.latchEngaged then .latched else .closedUnlatched) else .open } := by
    rw [← formDoor_atReset]; rfl
  exact ⟨s.powerOn pins, exec_powerOn pins s, rfl, rfl, rfl, rfl, rfl, rfl, rfl, rfl, door, rfl, channels, curves, rfl,
    polls, satellites, rfl, rfl, rfl, rfl, rfl, columns, rfl, rfl, rfl, rfl, rfl, rfl, reservoirs, rfl, rfl, loads,
    rfl, rfl, rfl, rfl, rfl, rfl, rfl, rfl, rfl, rfl⟩

/-- Settles O5: nothing is requested, granted, queued or latched in the reset state. -/
theorem resetKeepsPromises : Obligations.ResetKeepsPromises := by
  unfold Obligations.ResetKeepsPromises
  have ungranted : ∀ l, (State.reset.load l).grant = none := fun l => congrArg LoadState.grant (State.reset_load l)
  have budget : State.reset.budgetKept := (State.totalWatts_of_noGrants ungranted).trans_le (Nat.zero_le _)
  exact ⟨budget, fun _ => ungranted, nofun, nofun, nofun, Nat.zero_le _, ⟨Nat.zero_le _, List.nodup_nil⟩,
    ⟨List.nodup_nil, Nat.zero_le _, Nat.zero_le _⟩, nofun, rfl, rfl⟩

end Sys2Proof.Machine
end


section
/-! The idle step (O2): membership of each event among those that are due, and the three cases of the step. -/

namespace Sys2Proof.Machine

@[simp] theorem mem_dueIf {b : Bool} {c d : Instr} : c ∈ dueIf b d ↔ b = true ∧ c = d := by
  cases b <;> simp [dueIf]

theorem State.mem_dueStage {s : State} {c : Instr} :
    c ∈ s.dueStage ↔ ∃ h, s.eng.head = some h ∧
      ((s.stallRuns = true ∧ s.stallLimit ≤ h.stallTimer ∧ c = .fillStalled) ∨
        (∃ w, s.washHead = some w ∧
          ((s.heatRuns = true ∧ w.heatTimeout * Config.second ≤ h.heatTimer ∧ c = .setpointMissed) ∨
            (s.runningIn .hold = true ∧ h.holdTimer = max 1 (w.minHold * Config.second) ∧ c = .minimumHoldElapsed) ∨
            (s.runningIn .hold = true ∧ w.holdTime * Config.second ≤ h.holdTimer ∧ c = .holdTimeExpiry))) ∨
        ∃ d, s.drainHead = some d ∧
          ((s.runningIn .drain = true ∧ h.drainTimer = max 1 (d.minTime * Config.second) ∧
              c = .drainMinimumTimeReached) ∨
            (s.runningIn .drain = true ∧ h.timeoutSpent = false ∧ s.drainLimit ≤ h.drainTimer ∧ c = .drainTimeout))) := by
  unfold State.dueStage
  cases s.eng.head with
  | none => simp
  | some h => cases s.washHead <;> cases s.drainHead <;> simp [and_assoc, or_assoc]

theorem State.mem_dueDry {s : State} {c : Instr} :
    c ∈ s.dueDry ↔ ∃ d f, s.door.dry = some d ∧ s.dryHead = some f ∧
      ((s.runningIn .condense = true ∧ f.condenseMax * Config.second ≤ d.condense ∧ c = .condenseTimeout) ∨
        (s.pushing = true ∧ s.door.closed = true ∧ windowLimit ≤ d.window ∧ c = .attemptWindowExpiry) ∨
        (s.restRuns = true ∧ restLimit ≤ d.rest ∧ c = .restTimerExpiry) ∨
        (s.runningIn .vent = true ∧ f.ventTime * Config.second ≤ d.vent ∧ c = .ventTimeExpiry)) := by
  unfold State.dueDry
  cases s.door.dry <;> cases s.dryHead <;> simp [and_assoc]

theorem State.mem_dueDoor {s : State} {c : Instr} :
    c ∈ s.dueDoor ↔
      (debounceLimit ≤ s.door.closedPending.getD 0 ∧ c = .doorSwitchDebounced .closed s.door.inputs.doorClosed) ∨
        (debounceLimit ≤ s.door.latchPending.getD 0 ∧ c = .doorSwitchDebounced .latch s.door.inputs.latchEngaged) ∨
        (debounceLimit ≤ s.door.selectorPending.getD 0 ∧
          c = .selectorPositionChange (if s.door.inputs.selectorHigh then .a else .b)) ∨
        (settleLimit ≤ s.door.settle.getD 0 ∧ c = .settleTimerExpiry) := by
  simp [State.dueDoor]

theorem State.mem_dueWater {s : State} {c : Instr} :
    c ∈ s.dueWater ↔
      (∃ m, s.soft.move = some m ∧ s.travelRuns m = true ∧ m.limit * Config.second ≤ m.timer ∧
          c = .selectorTravelTimeout) ∨
        (∃ p, s.soft.pulse = some p ∧ s.pulseRuns = true ∧ pulseLimit ≤ p.timer ∧ c = .routePulseEnd) ∨
        (∃ r, s.soft.regen = some r ∧ s.soakRuns r = true ∧ s.soakLimit ≤ r.soakTimer ∧ c = .soakTimeExpiry) ∨
        ∃ d, s.dosing.dose = some d ∧ s.strokeRuns d = true ∧ s.strokeLimit d.reservoir ≤ d.timer ∧
          c = .strokeComplete := by
  unfold State.dueWater
  cases s.soft.move <;> cases s.soft.pulse <;> cases s.soft.regen <;> cases s.dosing.dose <;> simp [and_assoc]

theorem State.mem_dueBus {s : State} {c : Instr} :
    c ∈ s.dueBus ↔
      (∃ i : Fin 16, s.polling = true ∧ s.bus.poll[i].enabled = true ∧ (∃ x, s.bus.run[i].due = some x ∧ x ≤ s.now) ∧
          c = .pollDue i) ∨
        ∃ t, s.bus.tx = some t ∧ t.waiting = true ∧ t.timeout * Config.msec ≤ t.timer ∧ c = .sumpResponseTimeout := by
  have due : ∀ i : Fin 16,
      (match s.bus.run[i].due with
        | none => false
        | some t => decide (t ≤ s.now)) = true ↔ ∃ x, s.bus.run[i].due = some x ∧ x ≤ s.now := fun i => by
    cases s.bus.run[i].due <;> simp
  unfold State.dueBus
  rw [List.mem_append, List.mem_flatMap]
  refine or_congr ?_ ?_
  · simp only [List.mem_finRange, true_and, mem_dueIf, Bool.and_eq_true, and_assoc]
    exact exists_congr fun i => and_congr_right fun _ => and_congr_right fun _ => and_congr_left fun _ => due i
  · cases s.bus.tx <;> simp [and_assoc]

theorem State.mem_dueByte {s : State} {c : Instr} :
    c ∈ s.dueByte ↔
      (s.link.heard ≠ [] ∧ byteLimit < s.link.byteTimer ∧ c = .linkByteTimeout s.link.heard) ∨
        (s.bus.heard ≠ [] ∧ sumpByteLimit < s.bus.byteTimer ∧ c = .sumpByteGap s.bus.heard) := by
  simp [State.dueByte, and_assoc]

theorem State.mem_dueEvents {s : State} {c : Instr} :
    c ∈ s.dueEvents ↔
      (resolutionPeriod s.link.resolution ≤ s.link.tagPart ∧ c = .timeTagTick) ∨
        (s.clockRuns = true ∧ Config.second ≤ s.eng.totals.part ∧ c = .cycleClockTick) ∨
        (s.arb.zc.missDue s.now = true ∧ c = .zeroCrossMissed) ∨
        c ∈ s.dueBus ∨ c ∈ s.dueStage ∨ c ∈ s.dueDry ∨ c ∈ s.dueDoor ∨ c ∈ s.dueWater ∨ c ∈ s.dueByte := by
  simp [State.dueEvents, and_assoc]

theorem State.drainHead_of_wash {s : State} {w : WashFields} (h : s.washHead = some w) :
    s.drainHead = some { endLevel := w.endLevel, minTime := w.minTime } := by
  unfold State.washHead at h
  unfold State.drainHead
  split at h
  · rename_i p hp
    split at h
    · rename_i w' hw
      rw [hw]
      cases h
      rfl
    · cases h
  · cases h

/-- An event is due just where its timer stands at its limit. -/
theorem State.due_iff (s : State) :
    (Instr.timeTagTick ∈ s.dueEvents ↔ resolutionPeriod s.link.resolution ≤ s.link.tagPart) ∧
    (∀ h w, s.eng.head = some h → s.washHead = some w →
      (Instr.setpointMissed ∈ s.dueEvents ↔ s.heatRuns = true ∧ w.heatTimeout * 10000 ≤ h.heatTimer) ∧
      (Instr.holdTimeExpiry ∈ s.dueEvents ↔ s.runningIn .hold = true ∧ w.holdTime * 10000 ≤ h.holdTimer) ∧
      (Instr.drainMinimumTimeReached ∈ s.dueEvents ↔
        s.runningIn .drain = true ∧ h.drainTimer = max 1 (w.minTime * 10000))) ∧
    (∀ d, s.dosing.dose = some d →
      (Instr.strokeComplete ∈ s.dueEvents ↔
        s.strokeRuns d = true ∧ (s.dosingProfile d.reservoir).strokePeriod * 10 ≤ d.timer)) ∧
    (∀ p, s.soft.pulse = some p → (Instr.routePulseEnd ∈ s.dueEvents ↔ s.pulseRuns = true ∧ 10000 ≤ p.timer)) ∧
    (Instr.settleTimerExpiry ∈ s.dueEvents ↔ ∃ x, s.door.settle = some x ∧ 30000 ≤ x) ∧
    (∀ i : Fin 16, Instr.pollDue i ∈ s.dueEvents ↔
      s.polling = true ∧ s.bus.poll[i].enabled = true ∧ ∃ x, s.bus.run[i].due = some x ∧ x ≤ s.now) ∧
    (Instr.linkByteTimeout s.link.heard ∈ s.dueEvents ↔ s.link.heard ≠ [] ∧ 50 < s.link.byteTimer) ∧
    (Instr.sumpByteGap s.bus.heard ∈ s.dueEvents ↔ s.bus.heard ≠ [] ∧ 10 < s.bus.byteTimer) ∧
    (Instr.cycleClockTick ∈ s.dueEvents ↔
      s.underWay = true ∧ s.eng.totals.held = false ∧ 10000 ≤ s.eng.totals.part) := by
  have settle : settleLimit ≤ s.door.settle.getD 0 ↔ ∃ x, s.door.settle = some x ∧ 30000 ≤ x := by
    cases s.door.settle <;> simp [settleLimit, Config.second]
  have clock : s.clockRuns = true ↔ s.underWay = true ∧ s.eng.totals.held = false := by
    rw [State.clockRuns, Bool.and_eq_true, Bool.not_eq_true']
  refine ⟨?_, fun h w hh hw => ?_, fun d hd => ?_, fun p hp => ?_, ?_, fun i => ?_, ?_, ?_, ?_⟩ <;>
    simp only [State.mem_dueEvents, State.mem_dueBus, State.mem_dueStage, State.mem_dueDry, State.mem_dueDoor,
      State.mem_dueWater, State.mem_dueByte]
  · simp
  · simp [hh, hw, State.drainHead_of_wash hw, Config.second]
  · simp [hd, State.strokeLimit, Config.msec]
  · simp [hp, pulseLimit, Config.second]
  · simpa using settle
  · simp
  · simp [byteLimit, Config.msec]
  · simp [sumpByteLimit, Config.msec]
  · rw [clock]; simp [Config.second, and_assoc]

theorem State.fallDue_dueEvents (s : State) (l : List Instr) : (s.fallDue l).dueEvents = s.dueEvents := by
  unfold State.fallDue
  split <;> rfl

/-- 0.1 ms passes: the clock moves, and what is due then is noted. -/
theorem State.timePasses_spec (s : State) :
    s.timePasses.now = s.now + 1 ∧ s.timePasses.pending = s.pending ∧ s.timePasses.due.Perm s.timePasses.dueEvents ∧
      (s.settled → (∀ p, s.inEffect p) → { s.timePasses with due := s.due, draws := s.draws } = s.advance) := by
  obtain ⟨u, hu⟩ : ∃ u, u = s.advance.useLimits.settle := ⟨_, rfl⟩
  have passed : s.timePasses = u.fallDue u.dueEvents := by rw [hu]; rfl
  have kept : s.advance.keeps .off u := by rw [hu]; exact (State.keeps.refl .off _).useLimits.settle nofun
  obtain ⟨order, rest⟩ := u.fallDue_spec u.dueEvents
  rw [passed]
  refine ⟨?_, ?_, ?_, fun hs hp => ?_⟩
  · exact (congrArg (fun x : State => x.now) rest :).trans kept.now
  · exact (congrArg (fun x : State => x.pending) rest :).trans kept.pending
  · rw [u.fallDue_dueEvents]; exact order
  · have same : u = s.advance := by
      rw [hu, s.advance.useLimits_of_inEffect hp, State.settle_of_settled s.advance hs]
    rw [same] at rest ⊢
    calc _ = { s.advance with due := s.due, draws := s.draws } :=
          (congrArg (fun x : State => { x with due := s.due, draws := s.draws }) rest :)
      _ = s.advance := rfl

/-- Settles O2, by the three branches of the idle step, and membership among the events that are due. -/
theorem idleStepPassesTime : Obligations.IdleStepPassesTime := by
  unfold Obligations.IdleStepPassesTime
  refine ⟨fun s hs => ⟨s.idle, by unfold step; rw [hs], fun hr => ?_, fun c rest hr hd => ?_, fun hr hd => ?_⟩,
    State.due_iff⟩
  · have raised : s.idle = s.raise s.dueReports := by simp [State.idle, hr]
    obtain ⟨order, rest⟩ := s.raise_spec s.dueReports
    rw [raised, ← hs]
    exact ⟨by simpa [hs] using order, rest⟩
  · simp [State.idle, hr, hd, State.raiseNext, hs]
  · have passed : s.idle = s.timePasses := by simp [State.idle, hr, hd]
    rw [passed]
    obtain ⟨now, pending, due, rest⟩ := s.timePasses_spec
    generalize s.timePasses = t at now pending due rest ⊢
    refine ⟨now, pending.trans hs, due, fun h hp => ?_⟩
    have same : { t with due := [], draws := s.draws } = s.advance := by
      rw [← hd]
      exact rest h hp
    exact ⟨same, (congrArg (fun x : State => x.arb.loads) same :), (congrArg (fun x : State => x.eng.queue) same :),
      (congrArg (fun x : State => x.eng.state) same :), (congrArg (fun x : State => x.chan) same :),
      (congrArg (fun x : State => x.link.notices) same :)⟩

end Sys2Proof.Machine
end


section
/-! ### Requests heard between two events (R191, R192)

One rule for each form of verdict; then the requests on tables (O20 to O22) and the reads of profiles (O26). -/

namespace Sys2Proof.Machine

/-- A request of the table is handled with its code and payload by the judge of its command (R191). -/
theorem exec_request {c : Instr} {code : Byte} {p : List Byte} (h : codeOf c = some (code, p)) :
    ∃ judge, ∀ s, exec c s = .next (s.handle code p judge) := by
  cases c <;> cases h <;> exact ⟨_, fun _ => rfl⟩

section Verdicts

variable {c : Instr} {s u : State} {code : Byte} {p bytes : List Byte} {judge : State → Verdict} {st : Status}
  {f : State → List Byte}

theorem exec_of_heard (e : exec c s = .next (s.handle code p judge)) (h : s.link.rxOff = false) (hp : p.length ≤ 59) :
    exec c s = .next ((judge s).answer code) := by
  rw [e, State.handle_heard s code p judge h hp]

theorem exec_of_refuse (e : exec c s = .next (s.handle code p judge)) (h : s.ready) (hp : p.length ≤ 59)
    (hj : judge s = refuse s st) : exec c s = .next (s.respond code st []) := by
  rw [exec_of_heard e h.1 hp, hj, answer_refuse s h.2]

theorem exec_of_refuseWith (e : exec c s = .next (s.handle code p judge)) (h : s.ready) (hp : p.length ≤ 59)
    (hj : judge s = refuseWith s st bytes) : exec c s = .next (s.respond code st bytes) := by
  rw [exec_of_heard e h.1 hp, hj, answer_refuseWith s h.2]

theorem exec_of_accept (e : exec c s = .next (s.handle code p judge)) (h : s.ready) (hp : p.length ≤ 59)
    (hj : judge s = accept u f) : exec c s = .next (u.settle.respond code .ok (f u.settle)) := by
  rw [exec_of_heard e h.1 hp, hj, answer_accept]

/-- An accepted request that calls for no evaluation. -/
theorem exec_of_accept_settled (e : exec c s = .next (s.handle code p judge)) (h : s.ready) (hp : p.length ≤ 59)
    (hj : judge s = accept u f) (hu : u.settled) : exec c s = .next (u.respond code .ok (f u)) := by
  rw [exec_of_accept e h hp hj, State.settle_of_settled u hu]

end Verdicts

theorem indexOf_ofNat {n : Nat} (hn : n ≤ 256) (i : Fin n) : indexOf n (BitVec.ofNat 8 i.val) = some i := by
  have hi : (BitVec.ofNat 8 i.val).toNat = i.val := by
    have := i.isLt
    rw [BitVec.toNat_ofNat]
    omega
  simp [indexOf, hi]

theorem indexOf_eq_none {n : Nat} {b : Byte} (h : n ≤ b.toNat) : indexOf n b = none := by
  simp [indexOf, Nat.not_lt.mpr h]

theorem readBank_ofNat (b : Bank) : readBank (BitVec.ofNat 8 (bankCode b)) = some b := by
  cases b <;> rfl

theorem readChannel_length {l : List Byte} {e : ChannelEntry} (h : readChannel l = some e) : l.length = 13 := by
  unfold readChannel at h
  split at h
  · rfl
  · cases h

theorem readPoll_length {l : List Byte} {e : PollEntry} (h : readPoll l = some e) : l.length = 8 := by
  unfold readPoll at h
  split at h
  · rfl
  · cases h

theorem readLoad_length {id : Nat} {l : List Byte} {e : LoadEntry} (h : readLoad id l = some e) : l.length = 7 := by
  unfold readLoad at h
  split at h
  · rfl
  · cases h

theorem State.integrityError_settled {s : State} (h : s.settled) (t : TableId) (b : Option Bank) (i : Nat) :
    (s.integrityError t b i).settled := by
  unfold State.integrityError
  simp only
  split
  · exact h
  · split <;> exact h

theorem State.checkEntry_settled {s : State} (h : s.settled) (sound : Bool) (t : TableId) (b : Bank) (i : Nat) :
    (s.checkEntry sound t b i).settled := by
  unfold State.checkEntry
  split
  · exact h
  · exact State.integrityError_settled h ..

/-- Settles O20: a request that is not heard changes nothing, and what is discarded reaches no block. -/
theorem lostBytesChangeNothing : Obligations.LostBytesChangeNothing := by
  refine ⟨fun c code p s hc h => ?_, fun s bytes => ⟨rfl, rfl, rfl, rfl, fun ht hs => ⟨?_, ?_⟩⟩⟩
  · obtain ⟨judge, e⟩ := exec_request hc
    rw [e, State.handle_lost s code p judge h]
  · have idle : s.sumpFrame bytes = s := by simp [State.sumpFrame, ht]
    exact congrArg Host.Outcome.next (by rw [idle, State.settle_of_settled s hs])
  · have idle : s.sumpTimeout = s := by simp [State.sumpTimeout, ht]
    exact congrArg Host.Outcome.next (by rw [idle, State.settle_of_settled s hs])

/-- An accepted TBL_WRITE replaces one entry (R1, R2, R27, R146). -/
theorem exec_tblWrite_accept (s : State) (h : s.ready) :
      (∀ (i : Fin 32) fields e, readChannel fields = some e →
        exec (.tblWriteChannel (0 :: BitVec.ofNat 8 i.val :: fields)) s =
          .next ({ s with chan.shadow := s.chan.shadow.set i { contents := e, sound := true } }.respond 0x01 .ok [])) ∧
      (∀ (i : Fin 8) (count : Byte) points pts, count.toNat ≤ 8 → points.length = 4 * count.toNat →
        readPoints points = some pts →
        exec (.tblWriteCurve (1 :: BitVec.ofNat 8 i.val :: count :: points)) s =
          .next ({ s with
            chan.curvesShadow :=
              s.chan.curvesShadow.set i { contents := { points := pts, valid := pointsValid pts }, sound := true }
            }.respond 0x01 .ok [])) ∧
      (∀ (i : Fin 16) fields e, readPoll fields = some e → s.link.mode = .standby → s.bus.tx = none →
        exec (.tblWritePollList (3 :: BitVec.ofNat 8 i.val :: fields)) s =
          .next ({ s with
            bus.poll := s.bus.poll.set i e
            bus.run := s.bus.run.set i { s.bus.run[i] with outcome := .none } }.respond 0x01 .ok [])) ∧
      (∀ (i : Fin 11) fields e, readLoad i.val fields = some e →
        exec (.tblWriteLoad (2 :: BitVec.ofNat 8 i.val :: fields)) s =
          .next ({ s with arb.shadow := s.arb.shadow.set i { contents := e, sound := true } }.respond 0x01 .ok [])) := by
  refine ⟨fun i fields e he => ?_, fun i count points pts hc hl hp => ?_, fun i fields e he hm ht => ?_,
    fun i fields e he => ?_⟩
  · have len := readChannel_length he
    have judged : judgeWriteChannel (0 :: BitVec.ofNat 8 i.val :: fields) s = acceptBare (s.writeChannel i e) := by
      simp [judgeWriteChannel, len, channelLength, indexOf_ofNat (by decide : 32 ≤ 256), he]
    exact exec_of_accept_settled rfl h (by simp [len]) judged h.2
  · have judged : judgeWriteCurve (1 :: BitVec.ofNat 8 i.val :: count :: points) s = acceptBare (s.writeCurve i pts) := by
      simp [judgeWriteCurve, hl, hc, indexOf_ofNat (by decide : 8 ≤ 256), hp]
    exact exec_of_accept_settled rfl h (by simp [hl]; omega) judged h.2
  · have len := readPoll_length he
    have judged : judgeWritePollList (3 :: BitVec.ofNat 8 i.val :: fields) s = acceptBare (s.writePoll i e) := by
      simp [judgeWritePollList, len, pollLength, State.polling, hm, ht, indexOf_ofNat (by decide : 16 ≤ 256), he]
    exact exec_of_accept_settled rfl h (by simp [len]) judged h.2
  · have len := readLoad_length he
    have hi : (BitVec.ofNat 8 i.val).toNat = i.val := by
      have := i.isLt
      rw [BitVec.toNat_ofNat]
      omega
    have judged : judgeWriteLoad (2 :: BitVec.ofNat 8 i.val :: fields) s = acceptBare (s.writeLoad i e) := by
      rw [← hi] at he
      simp only [judgeWriteLoad, len, loadLength, and_self, if_true, indexOf_ofNat (by decide : 11 ≤ 256), he]
    exact exec_of_accept_settled rfl h (by simp [len]) judged h.2

/-- A refused TBL_WRITE changes nothing but the response (R1, R2, R27, R146, R193). -/
theorem exec_tblWrite_refuse (s : State) (index : Byte) (fields : List Byte) (h : s.ready) (hf : fields.length ≤ 57) :
      ((32 ≤ index.toNat ∨ readChannel fields = none) →
        exec (.tblWriteChannel (0 :: index :: fields)) s = .next (s.respond 0x01 .badField [])) ∧
      (∀ count points, fields = count :: points →
        (8 ≤ index.toNat ∨ 8 < count.toNat ∨ points.length ≠ 4 * count.toNat ∨ readPoints points = none) →
        exec (.tblWriteCurve (1 :: index :: fields)) s = .next (s.respond 0x01 .badField [])) ∧
      (fields.length = 8 → (s.link.mode ≠ .standby ∨ s.bus.tx ≠ none) →
        exec (.tblWritePollList (3 :: index :: fields)) s = .next (s.respond 0x01 .inUse [])) ∧
      (s.link.mode = .standby → s.bus.tx = none → (16 ≤ index.toNat ∨ readPoll fields = none) →
        exec (.tblWritePollList (3 :: index :: fields)) s = .next (s.respond 0x01 .badField [])) ∧
      ((11 ≤ index.toNat ∨ readLoad index.toNat fields = none) →
        exec (.tblWriteLoad (2 :: index :: fields)) s = .next (s.respond 0x01 .badField [])) := by
  have len : ∀ a : Byte, (a :: index :: fields).length ≤ 59 := fun a => by simp; omega
  refine ⟨fun hb => ?_, fun count points hp hb => ?_, fun hl hb => ?_, fun hm ht hb => ?_, fun hb => ?_⟩
  · refine exec_of_refuse rfl h (len 0) ?_
    unfold judgeWriteChannel
    simp only
    split
    · split
      · rename_i hi he
        rcases hb with hb | hb
        · rw [indexOf_eq_none hb] at hi; cases hi
        · rw [hb] at he; cases he
      · rfl
    · rfl
  · refine exec_of_refuse rfl h (len 1) ?_
    subst hp
    unfold judgeWriteCurve
    simp only
    split
    · rename_i hc
      split
      · rename_i hi he
        rcases hb with hb | hb | hb | hb
        · rw [indexOf_eq_none hb] at hi; cases hi
        · exact absurd hc.2.2 (Nat.not_le.mpr hb)
        · exact absurd hc.2.1 hb
        · rw [hb] at he; cases he
      · rfl
    · rfl
  · have busy : (s.polling || s.bus.tx.isSome) = true := by
      rcases hb with hb | hb
      · simp [State.polling, hb]
      · simp [Option.isSome_iff_ne_none.mpr hb]
    refine exec_of_refuse rfl h (len 3) ?_
    simp [judgeWritePollList, hl, pollLength, busy]
  · refine exec_of_refuse rfl h (len 3) ?_
    unfold judgeWritePollList
    simp only [State.polling, hm, ht]
    split
    · simp only [ne_eq, not_true, decide_false, Option.isSome_none, Bool.or_false, Bool.false_eq_true, if_false]
      split
      · rename_i hi he
        rcases hb with hb | hb
        · rw [indexOf_eq_none hb] at hi; cases hi
        · rw [hb] at he; cases he
      · rfl
    · rfl
  · refine exec_of_refuse rfl h (len 2) ?_
    unfold judgeWriteLoad
    simp only
    split
    · split
      · rename_i hi he
        rcases hb with hb | hb
        · rw [indexOf_eq_none hb] at hi; cases hi
        · rw [hb] at he; cases he
      · rfl
    · rfl

/-- Settles O21: one verdict for each table, accepted and refused. -/
theorem tableWriteReplacesEntry : Obligations.TableWriteReplacesEntry :=
  ⟨exec_tblWrite_accept, fun s index fields h hf => exec_tblWrite_refuse s index fields h hf⟩

/-- Settles O22: one verdict for each table; only a failed check is not a mere answer. -/
theorem tableReadAnswers : Obligations.TableReadAnswers := by
  intro s b h
  refine ⟨fun i => ?_, fun i => ?_, fun i => ?_, fun i => ?_⟩
  · have judged : judgeReadChannel [0, BitVec.ofNat 8 (bankCode b), BitVec.ofNat 8 i.val] s =
        acceptWith (s.checkEntry (s.channelBank b)[i].sound .channel b i.val)
          (channelBytes (s.channelBank b)[i].contents ++ yesNo (s.channelBank b)[i].sound) := by
      simp [judgeReadChannel, readBank_ofNat, indexOf_ofNat (by decide : 32 ≤ 256)]
    rw [exec_of_accept_settled rfl h (by simp) judged (State.checkEntry_settled h.2 ..)]
    rfl
  · have judged : judgeReadCurve [1, BitVec.ofNat 8 (bankCode b), BitVec.ofNat 8 i.val] s =
        acceptWith (s.checkEntry (s.curveBank b)[i].sound .curve b i.val)
          (counted pointBytes (s.curveBank b)[i].contents.points ++ yesNo (s.curveBank b)[i].contents.valid
            ++ yesNo (s.curveBank b)[i].sound) := by
      simp [judgeReadCurve, readBank_ofNat, indexOf_ofNat (by decide : 8 ≤ 256)]
    rw [exec_of_accept_settled rfl h (by simp) judged (State.checkEntry_settled h.2 ..)]
    rfl
  · have judged : judgeReadPollList [3, BitVec.ofNat 8 i.val] s = acceptWith s
        (pollBytes s.bus.poll[i] ++ u8 (outcomeCode s.bus.run[i].outcome) ++ yesNo s.bus.run[i].inDueSet) := by
      simp [judgeReadPollList, indexOf_ofNat (by decide : 16 ≤ 256)]
    rw [exec_of_accept_settled rfl h (by simp) judged h.2]
    rfl
  · have judged : judgeReadLoad [2, BitVec.ofNat 8 (bankCode b), BitVec.ofNat 8 i.val] s =
        acceptWith (s.checkEntry (s.loadBank b)[i].sound .load b i.val)
          (loadBytes (s.loadBank b)[i].contents ++ yesNo (s.loadBank b)[i].sound) := by
      simp [judgeReadLoad, readBank_ofNat, indexOf_ofNat (by decide : 11 ≤ 256)]
    rw [exec_of_accept_settled rfl h (by simp) judged (State.checkEntry_settled h.2 ..)]
    rfl

end Sys2Proof.Machine
end


section
/-! ### Integrity errors and profiles (R174, R176)

What a finding leaves alone, what a use of a damaged profile does (O23), and the reads of profiles (O26). -/

namespace Sys2Proof.Machine

/-! #### Findings -/

/-- Only the integrity latch, its more flag and the notice queue differ. -/
structure State.findsError (s t : State) : Prop where
  rest : t = { s with trip := { s.trip with integrity := t.trip.integrity, more := t.trip.more }, link := t.link }
  posts : ∃ ns : List Notice, t.link = ns.foldl LinkUnit.post s.link
  latched : t.trip.integrity ≠ none

theorem State.integrityError_of_none {s : State} (h : s.trip.integrity = none) (t : TableId) (b : Option Bank) (i : Nat) :
    s.integrityError t b i =
      State.post { s with trip.integrity := some { table := t, bank := b, index := i } } .integrityError 2 (tableCode t) i := by
  simp [State.integrityError, h]

theorem State.integrityError_of_some {s : State} {e : IntegrityError} (h : s.trip.integrity = some e) (t : TableId)
    (b : Option Bank) (i : Nat) :
    s.integrityError t b i = if e = { table := t, bank := b, index := i } then s else { s with trip.more := true } := by
  simp [State.integrityError, h]

theorem State.integrityError_findsError (s : State) (t : TableId) (b : Option Bank) (i : Nat) :
    s.findsError (s.integrityError t b i) := by
  cases h : s.trip.integrity with
  | none =>
    rw [State.integrityError_of_none h]
    exact ⟨rfl, ⟨[_], rfl⟩, nofun⟩
  | some e =>
    rw [State.integrityError_of_some h]
    split
    · exact ⟨rfl, ⟨[], rfl⟩, by simp [h]⟩
    · exact ⟨rfl, ⟨[], rfl⟩, by simp [h]⟩

namespace State.findsError

variable {s t : State}

theorem chan (h : s.findsError t) : t.chan = s.chan := (congrArg (fun x : State => x.chan) h.rest :)
theorem eng (h : s.findsError t) : t.eng = s.eng := (congrArg (fun x : State => x.eng) h.rest :)
theorem soft (h : s.findsError t) : t.soft = s.soft := (congrArg (fun x : State => x.soft) h.rest :)
theorem dosing (h : s.findsError t) : t.dosing = s.dosing := (congrArg (fun x : State => x.dosing) h.rest :)
theorem door (h : s.findsError t) : t.door = s.door := (congrArg (fun x : State => x.door) h.rest :)
theorem arb (h : s.findsError t) : t.arb = s.arb := (congrArg (fun x : State => x.arb) h.rest :)
theorem latch (h : s.findsError t) : t.trip.latch = s.trip.latch := (congrArg (fun x : State => x.trip.latch) h.rest :)

theorem faulted (h : s.findsError t) (p : ProfileId) : t.faulted p = s.faulted p := by
  cases p
  · exact (congrArg (fun x : State => x.trip.faultedMachine) h.rest :)
  · exact (congrArg (fun x : State => x.trip.faultedSoftener) h.rest :)
  · exact (congrArg (fun x : State => x.trip.faultedDet) h.rest :)
  · exact (congrArg (fun x : State => x.trip.faultedRinse) h.rest :)

theorem machine (h : s.findsError t) : t.machine = s.machine := by
  have f : t.trip.faultedMachine = s.trip.faultedMachine := h.faulted .machine
  rw [State.machine, State.machine, f, h.eng]

theorem softener (h : s.findsError t) : t.softener = s.softener := by
  have f : t.trip.faultedSoftener = s.trip.faultedSoftener := h.faulted .softener
  rw [State.softener, State.softener, f, h.soft]

theorem reservoir (h : s.findsError t) (r : Reservoir) : t.reservoir r = s.reservoir r := by
  cases r <;> simp [State.reservoir, h.dosing]

end State.findsError

/-! #### A use of a profile -/

theorem State.not_inEffect {s : State} {p : ProfileId} (h : ¬ s.inEffect p) :
    s.faulted p = false ∧ s.profileSound p = false := by
  simpa [State.inEffect] using h

/-- The first use of a damaged profile: the finding, the mark, the notice, and what the blocks judge anew (R176). -/
theorem State.useProfile_of_damaged {s : State} {p : ProfileId} (h : ¬ s.inEffect p) :
    s.useProfile p =
      (((s.integrityError .profile none (profileCode p)).setFaulted p true).post .profileFault 2 (profileCode p) 0).profileChanged
        p := by
  obtain ⟨hf, hs⟩ := State.not_inEffect h
  simp [State.useProfile, hf, hs]

@[simp] theorem State.setFaulted_faulted (s : State) (p : ProfileId) (b : Bool) : (s.setFaulted p b).faulted p = b := by
  cases p <;> rfl

theorem State.profileChanged_trip (s : State) (p : ProfileId) : (s.profileChanged p).trip = s.trip := by
  cases p <;> rfl

theorem State.profileChanged_link (s : State) (p : ProfileId) : (s.profileChanged p).link = s.link := by
  cases p <;> rfl

theorem State.profileChanged_faulted (s : State) (p q : ProfileId) : (s.profileChanged p).faulted q = s.faulted q := by
  cases q <;> simp [State.faulted, State.profileChanged_trip]

theorem State.setFaulted_integrity (s : State) (p : ProfileId) (b : Bool) :
    (s.setFaulted p b).trip.integrity = s.trip.integrity := by
  cases p <;> rfl

theorem State.useProfile_faulted {s : State} {p : ProfileId} (h : ¬ s.inEffect p) : (s.useProfile p).faulted p = true := by
  rw [State.useProfile_of_damaged h, State.profileChanged_faulted]
  exact State.setFaulted_faulted _ p true

theorem State.useProfile_integrity {s : State} {p : ProfileId} (h : ¬ s.inEffect p) :
    (s.useProfile p).trip.integrity ≠ none := by
  rw [State.useProfile_of_damaged h, State.profileChanged_trip, State.post_trip, State.setFaulted_integrity]
  exact (s.integrityError_findsError ..).latched

/-- The blocks' judgement against the machine profile's defaults (R52, R176). -/
theorem State.useMachine_of_damaged {s : State} (h : ¬ s.inEffect .machine) :
    (s.useProfile .machine).machine = .default ∧
      (s.useProfile .machine).eng = { s.eng with queue := s.eng.queue.map (fun q => q.lowerSetpoint 750) } ∧
      (s.useProfile .machine).arb.evalDue = true := by
  have found := s.integrityError_findsError .profile none (profileCode .machine)
  rw [State.useProfile_of_damaged h]
  generalize s.integrityError .profile none (profileCode .machine) = t at found ⊢
  refine ⟨rfl, ?_, rfl⟩
  rw [← found.eng]
  rfl

/-- The due flags judged against the softener profile's defaults (R83, R176). -/
theorem State.useSoftener_of_damaged {s : State} (h : ¬ s.inEffect .softener) :
    (s.useProfile .softener).softener = .default ∧
      ∀ c, (s.useProfile .softener).column c = { s.column c with due := decide ((s.column c).cap ≤ 1200) } := by
  have found := s.integrityError_findsError .profile none (profileCode .softener)
  have col : ∀ c, s.column c = (s.integrityError .profile none (profileCode .softener)).column c := fun c => by
    cases c <;> simp [State.column, found.soft]
  rw [State.useProfile_of_damaged h]
  simp only [col]
  generalize s.integrityError .profile none (profileCode .softener) = t
  exact ⟨rfl, fun c => by cases c <;> rfl⟩

/-- The estimate lowered to the capacity of a dosing profile's defaults (R113, R176). -/
theorem State.useDosing_of_damaged {s : State} {r : Reservoir} (h : ¬ s.inEffect (dosingProfileId r)) :
    (s.useProfile (dosingProfileId r)).dosingProfile r = .default ∧
      (s.useProfile (dosingProfileId r)).reservoir r =
        { s.reservoir r with estimate := min (s.reservoir r).estimate 100000 } := by
  have found := s.integrityError_findsError .profile none (profileCode (dosingProfileId r))
  rw [State.useProfile_of_damaged h, ← found.reservoir r]
  generalize s.integrityError .profile none (profileCode (dosingProfileId r)) = t
  cases r <;> exact ⟨rfl, rfl⟩

theorem State.useProfile_eng_arb {s : State} {p : ProfileId} (hp : p ≠ .machine) :
    (s.useProfile p).eng = s.eng ∧ (s.useProfile p).arb = s.arb := by
  by_cases h : s.inEffect p
  · rw [State.useProfile_of_inEffect h]
    exact ⟨rfl, rfl⟩
  · have found := s.integrityError_findsError .profile none (profileCode p)
    rw [State.useProfile_of_damaged h, ← found.eng, ← found.arb]
    cases p with
    | machine => exact absurd rfl hp
    | softener => exact ⟨rfl, rfl⟩
    | det => exact ⟨rfl, rfl⟩
    | rinse => exact ⟨rfl, rfl⟩

/-- Settles O23, by the cases of the integrity latch, and for each profile by what its defaults bring. -/
theorem damagedEntriesAndProfiles : Obligations.DamagedEntriesAndProfiles := by
  refine ⟨fun s t b i => ⟨fun h => State.integrityError_of_none h t b i, fun e h => State.integrityError_of_some h t b i⟩,
    fun s p => ⟨State.useProfile_of_inEffect, fun h => ?_⟩⟩
  have faulted := State.useProfile_faulted h
  refine ⟨faulted, .inl faulted, State.useProfile_integrity h, ?_, ?_, ?_, fun hp => State.useProfile_eng_arb hp, ?_⟩
  · refine ⟨((s.integrityError .profile none (profileCode p)).setFaulted p true).notice .profileFault 2 (profileCode p) 0,
      rfl, rfl, rfl, rfl, ?_⟩
    rw [State.useProfile_of_damaged h, State.profileChanged_link]
    exact congrArg (LinkUnit.post · _) (State.setFaulted_link ..)
  · rintro rfl
    exact State.useMachine_of_damaged h
  · rintro rfl
    exact State.useSoftener_of_damaged h
  · rintro r rfl
    obtain ⟨profile, reservoir⟩ := State.useDosing_of_damaged h
    exact ⟨profile, congrArg ReservoirState.estimate reservoir⟩

end Sys2Proof.Machine
end


section
/-! ### What the end of an event leaves alone (O9)

`State.evaluates` follows an event's end through its evaluations, its trips and its reports: the forced requests, the latch and
the faulted marks always, and the quieter half (`State.staysQuiet`) where no trip sets the latch. -/

namespace Sys2Proof.Machine

/-! #### Forced requests -/

/-- The host's requests stay. -/
structure State.forcedKept (s t : State) : Prop where
  load : ∀ l, (t.load l).forced = (s.load l).forced

namespace State.forcedKept

variable {s t u : State}

theorem trans (h : s.forcedKept t) (g : t.forcedKept u) : s.forcedKept u := ⟨fun l => (g.load l).trans (h.load l)⟩

theorem of_loads (h : t.arb.loads = s.arb.loads) : s.forcedKept t :=
  ⟨fun l => by
    unfold State.load
    rw [h]⟩

theorem setLoad (s : State) (l : LoadId) (x : LoadState) (h : x.forced = (s.load l).forced) : s.forcedKept (s.setLoad l x) :=
  ⟨fun k => by
    rw [State.setLoad_load]
    split
    · subst k; exact h
    · rfl⟩

theorem request (h : s.forcedKept t) (l : LoadId) (a : Nat) : s.forcedKept (t.request l a) :=
  (h.trans (setLoad t l { t.load l with own := some a } rfl)).trans (of_loads rfl)

theorem release (h : s.forcedKept t) (l : LoadId) : s.forcedKept (t.release l) := by
  unfold State.release
  split
  · exact (h.trans (setLoad t l { t.load l with own := none } rfl)).trans (of_loads rfl)
  · exact h

theorem becomeSet (s : State) : s.forcedKept s.becomeSet := by
  have set : s.forcedKept (State.markEval { s with soft.progress := .set }) := of_loads rfl
  unfold State.becomeSet
  dsimp only
  split
  · exact set
  · exact set.request ..
  · split
    · exact set
    · rename_i r _
      have flow : s.forcedKept
          { State.markEval { s with soft.progress := .set } with soft.regen := some { r with flowing := true } } := of_loads rfl
      split
      · split
        · exact (flow.request ..).request ..
        · exact flow.request ..
      · exact flow.request ..
      · exact flow

theorem routeHolder (s : State) : s.forcedKept s.routeHolder := by
  unfold State.routeHolder
  split
  · exact becomeSet s
  · exact request (s := s) (t := { s with
      soft.progress := .routing
      soft.pulse := some { target := holderRoute s.soft.holder, timer := 0 } }) (of_loads rfl) ..

theorem servePath_regen (s : State) (h : s.soft.holder = .regen) : s.forcedKept s.servePath := by
  unfold State.servePath
  split
  · exact of_loads rfl
  · split
    · exact of_loads rfl
    · exact of_loads rfl
    · simp_all
    · exact routeHolder s

theorem fillGiveBack (s : State) : s.forcedKept s.fillGiveBack := by
  unfold State.fillGiveBack
  split
  · have free : s.forcedKept (s.release .inletValve) := release (of_loads rfl) _
    dsimp only
    split
    · exact (free.trans (of_loads (by rfl))).trans (servePath_regen _ rfl)
    · exact free.trans (of_loads rfl)
  · exact of_loads rfl

theorem regenGiveBack (s : State) : s.forcedKept s.regenGiveBack := by
  unfold State.regenGiveBack
  dsimp only
  split
  · exact (release (release (s := s) (t := { s with
      soft.waiting := false
      soft.regen := s.soft.regen.map (fun r => { r with flowing := false }) }) (of_loads rfl) _) _).trans (of_loads rfl)
  · exact of_loads rfl

theorem abortRegen (s : State) : s.forcedKept s.abortRegen := by
  unfold State.abortRegen
  split
  · exact of_loads rfl
  · rename_i r _
    refine (regenGiveBack s).trans (of_loads ?_)
    rw [State.setColumn_arb]

theorem dropDose (s : State) : s.forcedKept s.dropDose := by
  unfold State.dropDose
  split
  · exact of_loads rfl
  · rename_i d _
    exact (release (s := s) (t := { s with dosing.dose := none }) (of_loads rfl) _).trans (of_loads rfl)

theorem dropDry (h : s.forcedKept t) : s.forcedKept t.dropDry := by
  have released := (h.release .fan).release .doorActuator
  exact released.trans (of_loads rfl)

theorem engineTrip (s : State) : s.forcedKept s.engineTrip := by
  obtain ⟨x, hx⟩ : ∃ x, x = if s.underWay then ((s.fillGiveBack).releaseEngine).dropDry else s := ⟨_, rfl⟩
  have trip : s.engineTrip = { x.endCycle with
      eng.queue := [], eng.state := if x.link.mode = .run then .tripped else .idle } := by rw [hx]; rfl
  have given : s.forcedKept x := by
    rw [hx]
    split
    · exact ((((fillGiveBack s).release .heater).release .circPump).release .drainPump).dropDry
    · exact of_loads rfl
  rw [trip]
  exact given.trans (of_loads rfl)

theorem tripBlocks (s : State) : s.forcedKept s.tripBlocks := by
  have drawn : s.forcedKept s.draw := of_loads rfl
  unfold State.tripBlocks
  split
  · split
    · exact ((drawn.trans (abortRegen _)).trans (dropDose _)).trans (engineTrip _)
    · exact ((drawn.trans (dropDose _)).trans (engineTrip _)).trans (abortRegen _)
  · exact ((dropDose s).trans (engineTrip _)).trans (abortRegen _)

theorem setLatch (s : State) (c : Cause) : s.forcedKept (s.setLatch c) := by
  have latched : s.forcedKept (s.latched c) := of_loads rfl
  have posted : ∀ (t : State) (ns : List Notice), t.forcedKept (t.postTripNotices ns).markEval := fun t ns => by
    unfold State.postTripNotices
    split <;> exact of_loads rfl
  have flooded : ∀ t : State, t.forcedKept (if c.reason = .flood then { t with arb.flood := true } else t) := fun t => by
    split <;> exact of_loads rfl
  exact ((latched.trans (tripBlocks _)).trans (flooded _)).trans (posted _ _)

end State.forcedKept

/-! #### The quieter half -/

/-- The parts of the softener unit that only a trip, within the end of an event, can move. -/
def State.pathState (s : State) :=
  (s.soft.holder, s.soft.progress, s.soft.waiting, s.soft.move, s.soft.regen, s.soft.colA, s.soft.colB)

/-- What the end of an event leaves alone where no trip sets the latch in it. -/
structure State.staysQuiet (s t : State) : Prop where
  path : t.pathState = s.pathState
  dose : s.dosing.dose = none → t.dosing.dose = none
  own : ∀ l, l ≠ .inletValve → l ≠ .doseDet → l ≠ .doseRinse → (t.load l).own = (s.load l).own
  eng : s.inEffect .machine →
    ∃ n, t.eng = { s.eng with head := s.eng.head.map (fun h => { h with stallTimer := n }) }

theorem EngineUnit.stallTimer_self (e : EngineUnit) :
    ∃ n, e = { e with head := e.head.map (fun h => { h with stallTimer := n }) } := by
  cases h : e.head with
  | none => exact ⟨0, by rw [Option.map_none, ← h]⟩
  | some x => exact ⟨x.stallTimer, by rw [Option.map_some, ← h]⟩

/-- What the end of an event does to a state, step by step. -/
structure State.evaluates (s t : State) : Prop where
  outer : t.outer = s.outer
  forced : s.forcedKept t
  latch : s.trip.latch = true → t.trip.latch = true
  faulted : ∀ p, s.faulted p = true → t.faulted p = true
  quiet : t.trip.latch = s.trip.latch → s.staysQuiet t

namespace State.evaluates

variable {s t u : State}

theorem machineSound (h : s.evaluates t) : t.eng.profile = s.eng.profile :=
  State.of_outer (fun x => x.eng.profile) h.outer

theorem inEffect (h : s.evaluates t) (e : s.inEffect .machine) : t.inEffect .machine :=
  e.imp (h.faulted .machine) fun e => by
    unfold State.profileSound at e ⊢
    rwa [h.machineSound]

theorem refl (s : State) : s.evaluates s :=
  ⟨rfl, .of_loads rfl, id, fun _ => id, fun _ => ⟨rfl, id, fun _ _ _ _ => rfl, fun _ => s.eng.stallTimer_self⟩⟩

theorem trans (h : s.evaluates t) (g : t.evaluates u) : s.evaluates u := by
  refine ⟨g.outer.trans h.outer, h.forced.trans g.forced, g.latch ∘ h.latch, fun p => g.faulted p ∘ h.faulted p, fun e => ?_⟩
  have mid : t.trip.latch = s.trip.latch := by
    cases hs : s.trip.latch with
    | true => exact h.latch hs
    | false =>
      cases ht : t.trip.latch with
      | false => rfl
      | true => exact absurd (hs ▸ e ▸ g.latch ht) (by decide)
  have a := h.quiet mid
  have b := g.quiet (e.trans mid.symm)
  refine ⟨b.path.trans a.path, b.dose ∘ a.dose, fun l h1 h2 h3 => (b.own l h1 h2 h3).trans (a.own l h1 h2 h3), fun hm => ?_⟩
  obtain ⟨n, hn⟩ := a.eng hm
  obtain ⟨m, hm⟩ := b.eng (h.inEffect hm)
  refine ⟨m, ?_⟩
  rw [hm, hn]
  cases s.eng.head <;> rfl

/-- An update of what is followed only through `outer`. -/
theorem of_eq (ho : u.outer = t.outer) (hl : u.trip.latch = t.trip.latch) (hf : ∀ p, u.faulted p = t.faulted p)
    (hp : u.pathState = t.pathState) (hd : t.dosing.dose = none → u.dosing.dose = none) (hg : u.arb.loads = t.arb.loads)
    (he : u.eng = t.eng) : t.evaluates u := by
  refine ⟨ho, .of_loads hg, fun h => hl.trans h, fun p h => (hf p).trans h, fun _ => ⟨hp, hd, fun l _ _ _ => ?_, fun _ => ?_⟩⟩
  · unfold State.load
    rw [hg]
  · rw [he]
    exact t.eng.stallTimer_self

theorem fold {α : Type} {f : State → α → State} (hf : ∀ (t : State) (a : α), t.evaluates (f t a)) (l : List α) (s : State) :
    s.evaluates (l.foldl f s) := by
  induction l generalizing s with
  | nil => exact refl s
  | cons a l ih => exact (hf s a).trans (ih _)

theorem regrant (h : s.regrants t) : s.evaluates t := by
  obtain ⟨ns, hn⟩ := h.posts
  have rest := h.rest
  have trip := h.trip
  have own := h.own
  have outer : t.outer = s.outer := by
    rw [rest, hn]
    trans ({ s with arb.loads := t.arb.loads } : State).postAll ns |>.outer
    · rfl
    · rw [State.outer_postAll]
      rfl
  refine ⟨outer, ⟨fun l => (own l).2⟩, fun h => trip ▸ h, fun p e => ?_, fun _ => ⟨?_, ?_, fun l _ _ _ => (own l).1, fun _ => ?_⟩⟩
  · cases p <;> simpa [State.faulted, trip] using e
  · simp [State.pathState, h.soft]
  · rw [h.dosing]
    exact id
  · rw [h.eng]
    exact s.eng.stallTimer_self

theorem besideLoads (h : s.besideLoads t) (own : ∀ l, (t.load l).own = (s.load l).own ∧ (t.load l).forced = (s.load l).forced) :
    s.evaluates t := by
  have link : t.link = s.link := (congrArg (fun x : State => x.link) h :)
  refine regrant ⟨?_, own, [], link⟩
  rw [link]
  exact h

theorem dropReleased (s : State) : s.evaluates s.dropReleased :=
  besideLoads s.dropReleased_besideLoads fun l => by
    rw [State.dropReleased_load]
    split <;> exact ⟨rfl, rfl⟩

theorem findsError (h : s.findsError t) (ho : t.outer = s.outer) : s.evaluates t :=
  of_eq ho h.latch h.faulted (by simp [State.pathState, h.soft]) (fun e => h.dosing ▸ e) (by rw [h.arb]) h.eng

theorem integrityError (s : State) (t : TableId) (b : Option Bank) (i : Nat) : s.evaluates (s.integrityError t b i) :=
  findsError (s.integrityError_findsError t b i) (s.outer_integrityError t b i)

/-- A use of the machine profile; where it is damaged, the engine is no part of the quieter half. -/
theorem useMachine (s : State) : s.evaluates (s.useProfile .machine) := by
  by_cases h : s.inEffect .machine
  · rw [State.useProfile_of_inEffect h]
    exact refl s
  · have outer := s.outer_useMachine
    have found := s.integrityError_findsError .profile none (profileCode .machine)
    rw [State.useProfile_of_damaged h] at outer ⊢
    generalize s.integrityError .profile none (profileCode .machine) = x at found outer ⊢
    refine ⟨outer, .of_loads (congrArg ArbiterUnit.loads found.arb :), fun e => found.latch ▸ e, fun p e => ?_,
      fun _ => ⟨?_, ?_, fun l _ _ _ => ?_, fun e => absurd e h⟩⟩
    · cases p with
      | machine => rfl
      | softener => exact (found.faulted .softener).trans e
      | det => exact (found.faulted .det).trans e
      | rinse => exact (found.faulted .rinse).trans e
    · rw [show s.pathState = x.pathState by simp [State.pathState, found.soft]]
      rfl
    · rw [← found.dosing]
      exact id
    · rw [show s.load l = x.load l by simp [State.load, found.arb]]
      rfl

theorem passes (s : State) : s.evaluates s.passes := by
  have heater : s.evaluates s.checkHeater := by
    unfold State.checkHeater
    split
    · exact useMachine s
    · exact refl s
  have entries : s.checkHeater.evaluates s.checkHeater.checkEntries := fold (fun t l => by
    split
    · exact integrityError ..
    · exact refl t) _ _
  have placed := ((heater.trans entries).trans (regrant (.placing _))).trans (regrant (.setCauses _))
  rw [State.passes_eq]
  generalize s.checkHeater.checkEntries.placing.setCauses = t at placed
  exact placed.trans (of_eq rfl rfl (fun _ => rfl) rfl id rfl rfl)

theorem setLatch {c : Cause} (h : s.trip.latch = false) : s.evaluates (s.setLatch c) := by
  obtain ⟨u, ns, ended, -, e⟩ := s.setLatch_spec c
  have trip : (s.setLatch c).trip = (s.latched c).trip := (congrArg (fun x : State => x.trip) e :).trans ended.trip
  have latch : (s.setLatch c).trip.latch = true := congrArg TripUnit.latch trip
  refine ⟨s.outer_setLatch c, .setLatch s c, fun _ => latch, fun p hp => ?_, fun e => ?_⟩
  · cases p
    · exact (congrArg TripUnit.faultedMachine trip).trans hp
    · exact (congrArg TripUnit.faultedSoftener trip).trans hp
    · exact (congrArg TripUnit.faultedDet trip).trans hp
    · exact (congrArg TripUnit.faultedRinse trip).trans hp
  · exact absurd (h ▸ e ▸ latch) (by decide)

/-- A cause sets the latch, or meets a set one (R170, R171). -/
theorem tripCause (s : State) (c : Cause) : s.evaluates (s.tripCause c) := by
  have restart : s.evaluates (s.restartQuiet c) := by
    unfold State.restartQuiet
    split
    · exact of_eq rfl rfl (fun p => by cases p <;> rfl) rfl id rfl rfl
    · exact refl s
  have met : ∀ t : State, t.evaluates (if t.link.mode = .standby then t else
      if t.trip.latch then
        (if t.fillsSecondary c then { t with trip.record := { t.trip.record with secondary := c.reason } } else t)
      else t.setLatch c) := fun t => by
    split
    · exact refl t
    · split
      · split
        · exact of_eq rfl rfl (fun p => by cases p <;> rfl) rfl id rfl rfl
        · exact refl t
      · rename_i h
        exact setLatch (by simpa using h)
  exact restart.trans (met _)

theorem judgeSensorsNow (s : State) : s.evaluates s.judgeSensorsNow := by
  have role : ∀ (t : State) (r : Role), t.evaluates (t.judgeRoleNow r) := fun t r => by
    unfold State.judgeRoleNow
    split
    · exact tripCause ..
    · exact refl t
  exact (role s _).trans (role _ _)

/-- A request or a release of INLET_VALVE or of a dose pump. -/
theorem setOwn (s : State) {l : LoadId} (hl : l = .inletValve ∨ l = .doseDet ∨ l = .doseRinse) (a : Option Nat) :
    s.evaluates (s.setLoad l { s.load l with own := a }) := by
  refine ⟨s.outer_setLoad .., .setLoad s l _ rfl, id, fun _ => id,
    fun _ => ⟨rfl, id, fun k h1 h2 h3 => ?_, fun _ => s.eng.stallTimer_self⟩⟩
  have other : k ≠ l := by
    rintro rfl
    rcases hl with e | e | e
    · exact h1 e
    · exact h2 e
    · exact h3 e
  rw [State.setLoad_load, if_neg other]

theorem markEval (h : s.evaluates t) : s.evaluates t.markEval := h.trans (of_eq rfl rfl (fun _ => rfl) rfl id rfl rfl)

theorem request (s : State) {l : LoadId} (hl : l = .inletValve ∨ l = .doseDet ∨ l = .doseRinse) (a : Nat) :
    s.evaluates (s.request l a) := (setOwn s hl (some a)).markEval

theorem release (s : State) {l : LoadId} (hl : l = .inletValve ∨ l = .doseDet ∨ l = .doseRinse) : s.evaluates (s.release l) := by
  unfold State.release
  split
  · exact (setOwn s hl none).markEval
  · exact refl s

theorem softenerReport (s : State) (l : LoadId) : s.evaluates (s.softenerReport l) := by
  unfold State.softenerReport
  split
  · split
    · exact of_eq rfl rfl (fun _ => rfl) rfl id rfl rfl
    · exact refl s
  · split
    · split
      · split
        · exact request s (.inl rfl) 0
        · exact release s (.inl rfl)
      · exact refl s
    · exact refl s
  · split
    · exact of_eq rfl rfl (fun _ => rfl) rfl id rfl rfl
    · split
      · exact refl s
      · dsimp only
        split <;> exact of_eq rfl rfl (fun _ => rfl) rfl id rfl rfl
  · exact refl s

theorem engineInlet (s : State) : s.evaluates s.engineInlet := by
  unfold State.engineInlet
  split
  · exact ⟨rfl, .of_loads rfl, id, fun _ => id, fun _ => ⟨rfl, id, fun _ _ _ _ => rfl, fun _ => ⟨0, rfl⟩⟩⟩
  · exact refl s

theorem dosingReport (s : State) (r : Reservoir) : s.evaluates (s.dosingReport r) := by
  have pump : ∀ q, pumpOf q = .inletValve ∨ pumpOf q = .doseDet ∨ pumpOf q = .doseRinse := fun q => by
    cases q <;> simp [pumpOf]
  have voided : ∀ d x, s.dosing.dose = some d → s.evaluates { s with dosing.dose := x } := fun d x hd =>
    of_eq rfl rfl (fun _ => rfl) rfl (fun e => nomatch hd.symm.trans e) rfl rfl
  rcases s.dosingReport_cases r with ⟨e, -⟩ | ⟨d, hd, -, -, ⟨-, e⟩ | ⟨-, e⟩⟩
  · rw [e]
    exact refl s
  · rw [e]
    rcases s.startStroke_cases d with ⟨-, -, e⟩ | ⟨-, e⟩
    · rw [e]
      exact (release s (pump d.reservoir)).trans
        ((regrant (.post ..)).trans (of_eq rfl rfl (fun _ => rfl) rfl (fun _ => rfl) rfl rfl))
    · rw [e]
      exact voided d _ hd
  · rw [e]
    exact voided d _ hd

theorem actuatorReport (s : State) : s.evaluates s.actuatorReport := by
  unfold State.actuatorReport
  split
  · split
    · split
      · exact of_eq rfl rfl (fun _ => rfl) rfl id rfl rfl
      · exact refl s
    · split
      · exact of_eq rfl rfl (fun _ => rfl) rfl id rfl rfl
      · exact refl s
  · exact refl s

theorem ownerReport (s : State) (l : LoadId) : s.evaluates (s.ownerReport l) := by
  cases l with
  | inletValve => exact (softenerReport s .inletValve).trans (engineInlet _)
  | routeValve => simpa only [State.ownerReport] using softenerReport s .routeValve
  | selectorValve => simpa only [State.ownerReport] using softenerReport s .selectorValve
  | brineValve => simpa only [State.ownerReport] using softenerReport s .brineValve
  | doseDet => exact dosingReport s _
  | doseRinse => exact dosingReport s _
  | doorActuator => exact actuatorReport s
  | heater => exact refl s
  | circPump => exact refl s
  | drainPump => exact refl s
  | fan => exact refl s

theorem round (s : State) : s.evaluates s.round := by
  have table : ∀ (t : State) (l : LoadId), t.evaluates (t.tableTrip l) := fun t l => by
    unfold State.tableTrip
    split
    · exact tripCause ..
    · exact refl t
  have first : ∀ t b : State, t.evaluates (t.firstGrant b) := fun t b => by
    unfold State.firstGrant
    split
    · exact judgeSensorsNow t
    · exact refl t
  exact (((((dropReleased s).trans (passes _)).trans (table _ _)).trans (table _ _)).trans (first _ _)).trans
    (fold ownerReport _ _)

theorem lastRound (s : State) : s.evaluates s.lastRound := by
  have passed := (dropReleased s).trans (passes _)
  unfold State.lastRound
  dsimp only
  generalize s.dropReleased.passes = t at passed ⊢
  exact passed.trans (of_eq rfl rfl (fun _ => rfl) rfl id rfl rfl)

theorem settleFor (n : Nat) (s : State) : s.evaluates (State.settleFor n s) := by
  induction n generalizing s with
  | zero =>
    unfold State.settleFor
    split
    · exact lastRound s
    · exact refl s
  | succ n ih =>
    rw [State.settleFor_succ]
    split
    · exact (round s).trans (ih _)
    · exact refl s

theorem settle (s : State) : s.evaluates s.settle := settleFor 8 s

end State.evaluates

/-- Settles O9: `State.outer` for what every event's end leaves alone, `State.staysQuiet` for the rest. -/
theorem evaluationFrame : Obligations.EvaluationFrame := by
  intro s
  have ev := State.evaluates.settle s
  have keep : ∀ {α : Type} (f : State → α), f s.settle.outer = f s.outer := fun f => State.of_outer f ev.outer
  refine ⟨⟨s.settle_chan, s.settle_bus, s.settle_active, s.settle_shadow, s.settle_budget, s.settle_zc, ev.forced.load,
    keep (fun t => t.soft.position), s.settle_hold, keep (fun t => t.soft.vFill), keep (fun t => t.soft.u), fun c => ?_,
    keep (fun t => t.soft.profile), keep (fun t => t.eng.profile), keep (fun t => t.dosing.det),
    keep (fun t => t.dosing.rinse), keep (fun t => t.door.inputs), keep (fun t => t.door.state), s.settle_mode,
    s.settle_timeTag, s.settle_threshold, s.settle_image, s.settle_staging, s.settle_pending, s.settle_now⟩, fun h => ?_⟩
  · cases c
    · exact ⟨keep (fun t => t.soft.colA.cap), keep (fun t => t.soft.colA.due)⟩
    · exact ⟨keep (fun t => t.soft.colB.cap), keep (fun t => t.soft.colB.due)⟩
  · have quiet := ev.quiet h
    have path := quiet.path
    simp only [State.pathState, Prod.mk.injEq] at path
    obtain ⟨holder, progress, waiting, move, regen, colA, colB⟩ := path
    exact ⟨holder, progress, waiting, move, regen, fun c => by cases c; exacts [colA, colB], quiet.dose, quiet.own, quiet.eng⟩

end Sys2Proof.Machine
end


section
/-! ### The reads of profiles, flags, budget, reads, snapshots and the link (O26, O33, O34, O39, O41, O42, O45) -/

namespace Sys2Proof.Machine

/-! #### Reads of profiles -/

theorem State.checkProfile_faulted (s : State) (p : ProfileId) :
    (s.checkProfile p).faulted p = (s.faulted p || !s.profileSound p) := by
  unfold State.checkProfile
  cases hs : s.profileSound p with
  | true => simp
  | false =>
    cases hf : s.faulted p with
    | true =>
      rw [if_neg (by decide), if_pos rfl, (s.integrityError_findsError .profile none (profileCode p)).faulted, hf]
      rfl
    | false =>
      rw [if_neg (by decide), if_neg (by decide), State.useProfile_faulted (by simp [State.inEffect, hs, hf])]
      rfl

theorem State.checkProfile_settled {s : State} (h : s.settled) {p : ProfileId} (hp : p ≠ .machine) :
    (s.checkProfile p).settled := by
  unfold State.checkProfile
  split
  · exact h
  · split
    · exact State.integrityError_settled h ..
    · unfold State.settled
      rw [(State.useProfile_eng_arb hp).2]
      exact h

/-- The faulted mark in a response: the profile was found damaged before, or is found so now. -/
theorem yesNo_faultedMark (sound faulted : Bool) :
    yesNo (faulted || !sound) = [if sound && !faulted then 0 else 1] := by
  cases sound <;> cases faulted <;> rfl

/-- The machine profile is read: the mark of a damaged one is not taken back by the evaluation that its defaults call for. -/
theorem State.checkMachine_settle_faulted {s : State} (h : s.settled) :
    (s.checkProfile .machine).settle.faulted .machine = (s.faulted .machine || !s.profileSound .machine) := by
  rw [← s.checkProfile_faulted .machine]
  cases hf : (s.checkProfile .machine).faulted .machine with
  | true => exact (State.evaluates.settle _).faulted .machine hf
  | false =>
    have sound : s.profileSound .machine = true := by
      have := s.checkProfile_faulted .machine
      rw [hf] at this
      simpa using (Bool.or_eq_false_iff.mp this.symm).2
    have same : s.checkProfile .machine = s := by simp [State.checkProfile, sound]
    rw [same] at hf ⊢
    rw [State.settle_of_settled s h, hf]

/-- Settles O26, by the check that each read makes. -/
theorem profileReadAnswers : Obligations.ProfileReadAnswers := by
  intro s h
  refine ⟨?_, ?_, fun sel r hr => ?_⟩
  · have judged : judgeReadMachine [0] s = accept (s.checkProfile .machine) (fun t =>
        machineBytes s.eng.profile.contents ++ yesNo s.eng.profile.sound ++ yesNo (t.faulted .machine)) := rfl
    rw [exec_of_accept rfl h (by simp) judged, State.checkMachine_settle_faulted h.2, yesNo_faultedMark]
    rfl
  · have judged : judgeReadSoftener [1] s = accept (s.checkProfile .softener) (fun t =>
        softenerBytes s.soft.profile.contents ++ yesNo s.soft.profile.sound ++ yesNo (t.faulted .softener)) := rfl
    rw [exec_of_accept_settled rfl h (by simp) judged (State.checkProfile_settled h.2 (by nofun)),
      State.checkProfile_faulted, yesNo_faultedMark]
    rfl
  · have judged : judgeReadDosing [sel] s = accept (s.checkProfile (dosingProfileId r)) (fun t =>
        dosingBytes (s.reservoir r).profile.contents ++ yesNo (s.reservoir r).profile.sound
          ++ yesNo (t.faulted (dosingProfileId r))) := by
      simp [judgeReadDosing, hr]
    have sound : s.profileSound (dosingProfileId r) = (s.reservoir r).profile.sound := by cases r <;> rfl
    rw [exec_of_accept_settled rfl h (by simp) judged (State.checkProfile_settled h.2 (by cases r <;> nofun)),
      State.checkProfile_faulted, yesNo_faultedMark, State.checkProfile, sound]
    rfl

/-! #### FLAGS -/

theorem State.dropDose_units (s : State) :
    s.dropDose.chan = s.chan ∧ s.dropDose.bus = s.bus ∧ s.dropDose.trip = s.trip ∧ s.dropDose.soft = s.soft ∧
      s.dropDose.door = s.door ∧ s.dropDose.link = s.link := by
  unfold State.dropDose
  split
  · exact ⟨rfl, rfl, rfl, rfl, rfl, rfl⟩
  · simp [State.countDose]

theorem State.abandonDose_units (s : State) :
    s.abandonDose.chan = s.chan ∧ s.abandonDose.bus = s.bus ∧ s.abandonDose.trip = s.trip ∧ s.abandonDose.soft = s.soft ∧
      s.abandonDose.door = s.door := by
  obtain ⟨chan, bus, trip, soft, door, -⟩ := (s.postAll s.shortNotice).dropDose_units
  exact ⟨chan, bus, trip, soft, door⟩

theorem State.enterDrain_units (s : State) :
    s.enterDrain.chan = s.chan ∧ s.enterDrain.bus = s.bus ∧ s.enterDrain.trip = s.trip ∧ s.enterDrain.soft = s.soft ∧
      s.enterDrain.door = s.door ∧ s.enterDrain.link = s.link ∧ s.enterDrain.dosing = s.dosing := by
  unfold State.enterDrain
  dsimp only
  split <;> simp

theorem State.endHold_units (s : State) (w : WashFields) :
    (s.endHold w).chan = s.chan ∧ (s.endHold w).bus = s.bus ∧ (s.endHold w).trip = s.trip ∧
      (s.endHold w).soft = s.soft ∧ (s.endHold w).door = s.door := by
  obtain ⟨x, hx⟩ : ∃ x, x = s.withHead (fun h => { h with captured := s.extraResult w }) := ⟨_, rfl⟩
  have e : s.endHold w = x.abandonDose.enterDrain := by rw [hx]; rfl
  obtain ⟨chan, bus, trip, soft, door⟩ := x.abandonDose_units
  obtain ⟨chan', bus', trip', soft', door', -⟩ := x.abandonDose.enterDrain_units
  rw [e, chan', bus', trip', soft', door', chan, bus, trip, soft, door, hx]
  exact ⟨rfl, rfl, rfl, rfl, rfl⟩

/-- An update of the exit test ends HOLD or changes nothing (R70). -/
theorem State.exitUpdate_cases (s : State) (hit : Subject → Bool) :
    s.exitUpdate hit = s ∨ s.runningIn .hold = true ∧ ∃ w, s.exitUpdate hit = s.endHold w := by
  unfold State.exitUpdate
  split
  · split
    · exact .inl rfl
    · split
      · rename_i h
        simp only [Bool.and_eq_true] at h
        exact .inr ⟨h.1.1.1, _, rfl⟩
      · exact .inl rfl
  · exact .inl rfl

theorem State.flagsUpdate_units (s : State) (b : Byte) :
    (s.flagsUpdate b).chan = { s.chan with flags := b } ∧ (s.flagsUpdate b).bus = s.bus ∧
      (s.flagsUpdate b).trip = s.trip := by
  unfold State.flagsUpdate
  rcases State.exitUpdate_cases { s with chan.flags := b } _ with e | ⟨-, w, e⟩
  · rw [e]
    exact ⟨rfl, rfl, rfl⟩
  · rw [e]
    obtain ⟨chan, bus, trip, -⟩ := State.endHold_units { s with chan.flags := b } w
    exact ⟨chan, bus, trip⟩

theorem State.flagsUpdate_outside (s : State) (b : Byte) (h : s.runningIn .hold = false) :
    s.flagsUpdate b = { s with chan.flags := b } := by
  unfold State.flagsUpdate
  rcases State.exitUpdate_cases { s with chan.flags := b } _ with e | ⟨hr, -⟩
  · exact e
  · exact nomatch h.symm.trans hr

/-- Settles O33: the flags as the masks leave them; only in HOLD can the exit test change more. -/
theorem flagsApplyMasks : Obligations.FlagsApplyMasks := by
  intro s a b c h
  have judged : judgeFlags [a, b, c] s =
      accept (s.flagsUpdate (applyFlagMasks s.chan.flags a b c)) (fun t => [t.chan.flags]) := rfl
  have e := exec_of_accept (c := .flags [a, b, c]) rfl h (by simp) judged
  obtain ⟨chan, bus, trip⟩ := s.flagsUpdate_units (applyFlagMasks s.chan.flags a b c)
  have answered : ∀ u : State, u = s.flagsUpdate (applyFlagMasks s.chan.flags a b c) →
      exec (.flags [a, b, c]) s = .next (u.settle.respond 0x16 .ok [((s.chan.flags ||| a) &&& ~~~b) ^^^ c]) := by
    rintro u rfl
    rw [e, State.settle_chan, chan]
    rfl
  refine ⟨⟨_, answered _ rfl, chan, bus, trip⟩, fun hr => ?_⟩
  have outside := s.flagsUpdate_outside (applyFlagMasks s.chan.flags a b c) hr
  have still : (s.flagsUpdate (applyFlagMasks s.chan.flags a b c)).settled := by
    rw [outside]
    exact h.2
  rw [answered _ rfl, State.settle_of_settled _ still, outside]
  rfl

/-! #### BUDGET -/

/-- Where an evaluation is due, the end of the event leaves G within B and no grant without mains (R148, R149, R151). -/
theorem State.settle_grantsKept {s : State} (h : s.arb.evalDue = true) : s.settle.budgetKept ∧ s.settle.mainsKept :=
  ((State.keeps.refl .off s).settle nofun).grants (fun hs => nomatch h.symm.trans hs) (State.settle_settled s)

/-- Settles O34: an evaluation is due, so the end of the event leaves G within B. -/
theorem budgetSetsLimit : Obligations.BudgetSetsLimit := by
  intro s hi lo h
  have judged : judgeBudget [hi, lo] s =
      accept (s.setBudget (be16 hi lo)) (fun t => u16 t.arb.budget ++ u16 t.totalWatts) := rfl
  refine ⟨s.setBudget (be16 hi lo), ?_, rfl, State.settle_budget _, (State.settle_grantsKept rfl).1⟩
  rw [exec_of_heard (c := .budget [hi, lo]) rfl h (by simp), judged, answer_accept]

/-! #### Reads -/

theorem State.page_of_le {s : State} {n : Nat} (h : 5 ≤ n) : s.page n = none := by
  obtain ⟨k, rfl⟩ := Nat.exists_eq_add_of_le' h
  rfl

/-- Settles O39: every read is an answer on the state as it stands. -/
theorem readsChangeNothing : Obligations.ReadsChangeNothing := by
  intro s h
  refine ⟨fun n bytes hp => ?_, fun n hn => ?_, fun i => ?_, fun b hb => ?_, ?_, fun b hb => ?_, fun b hb hi => ?_,
    fun b m hb hi => ?_⟩
  · have judged : judgeStatusRead [0, n] s = acceptWith s bytes := by simp [judgeStatusRead, hp]
    rw [exec_of_accept_settled rfl h (by simp) judged h.2]
  · have judged : judgeStatusRead [0, n] s = refuse s .badField := by simp [judgeStatusRead, State.page_of_le hn]
    exact exec_of_refuse rfl h (by simp) judged
  · have judged : judgeChannelRead [BitVec.ofNat 8 i.val] s = acceptWith s (s.channelReading i) := by
      simp [judgeChannelRead, indexOf_ofNat (by decide : 32 ≤ 256)]
    rw [exec_of_accept_settled rfl h (by simp) judged h.2]
  · have judged : judgeChannelRead [b] s = refuse s .badField := by simp [judgeChannelRead, indexOf_eq_none hb]
    exact exec_of_refuse rfl h (by simp) judged
  · have judged : judgeTripRead [] s = acceptWith s s.tripReading := rfl
    rw [exec_of_accept_settled rfl h (by simp) judged h.2]
  · have judged : judgeContextRead [b] s = refuse s .badField := if_pos (by omega)
    exact exec_of_refuse rfl h (by simp) judged
  · have judged : judgeContextRead [b] s = refuse s .empty := by simp [judgeContextRead, Nat.not_lt.mpr hb, hi]
    exact exec_of_refuse rfl h (by simp) judged
  · have judged : judgeContextRead [b] s = acceptWith s (m.reading b.toNat) := by
      simp [judgeContextRead, Nat.not_lt.mpr hb, hi]
    rw [exec_of_accept_settled rfl h (by simp) judged h.2]
    rfl

/-- A read of a channel's samples that leaves its store as it is. -/
theorem State.withRun_self (s : State) (i : Fin 32) (f : ChannelRun → ChannelRun) (h : f s.chan.run[i] = s.chan.run[i]) :
    s.withRun i f = s := by
  have same : upd s.chan.run i (f s.chan.run[i]) = s.chan.run := by
    rw [h]
    exact Vector.set_getElem_self ..
  unfold State.withRun
  rw [same]

theorem exec_samplesRead (s : State) (i : Fin 32) (h : s.ready) :
    exec (.samplesRead [BitVec.ofNat 8 i.val]) s =
      .next ((s.withRun i (fun run => { run with store := (s.readSamples i).1 })).respond 0x32 .ok (s.readSamples i).2) := by
  have judged : judgeSamplesRead [BitVec.ofNat 8 i.val] s =
      acceptWith (s.withRun i (fun run => { run with store := (s.readSamples i).1 })) (s.readSamples i).2 := by
    simp [judgeSamplesRead, indexOf_ofNat (by decide : 32 ≤ 256)]
  exact exec_of_accept_settled rfl h (by simp) judged h.2

/-- A read that takes nothing answers a count of 0 and changes nothing. -/
theorem exec_samplesRead_none (s : State) (i : Fin 32) (h : s.ready) (hr : s.readSamples i = (s.chan.run[i].store, [0])) :
    exec (.samplesRead [BitVec.ofNat 8 i.val]) s = .next (s.respond 0x32 .ok [0]) := by
  rw [exec_samplesRead s i h, hr]
  rw [s.withRun_self i (fun run => { run with store := s.chan.run[i].store }) rfl]

theorem SampleStore.read_none (t : SampleStore) {e : ChannelEntry} (h : e.enabled = false ∨ e.store = .none) :
    t.read e = (t, [0]) := by
  unfold SampleStore.read
  split
  · rename_i he
    rcases h with h | h
    · exact nomatch h.symm.trans he
    · rw [h]
      rfl
  · rfl

theorem SampleStore.read_ring (t : SampleStore) {e : ChannelEntry} {n : Nat} (he : e.enabled = true)
    (h : e.store = .ring16 ∧ n = 16 ∨ e.store = .ring64 ∧ n = 64) : t.read e = t.readRing n := by
  rcases h with ⟨h, rfl⟩ | ⟨h, rfl⟩ <;> simp [SampleStore.read, he, h]

theorem SampleStore.read_place (t : SampleStore) {e : ChannelEntry} (he : e.enabled = true)
    (h : e.store = .latest ∨ e.store = .paired) : t.read e = t.readPlace := by
  rcases h with h | h <;> simp [SampleStore.read, he, h]

/-- Settles O41, by the store mode of the channel. -/
theorem samplesReadTakesSamples : Obligations.SamplesReadTakesSamples := by
  intro s i h
  refine ⟨fun hn => exec_samplesRead_none s i h (SampleStore.read_none _ hn), fun b hb => ?_,
    fun he hm hu => exec_samplesRead_none s i h ((SampleStore.read_place _ he hm).trans ?_), fun n he hm => ?_,
    fun x he hm hu hx => ?_⟩
  · have judged : judgeSamplesRead [b] s = refuse s .badField := by simp [judgeSamplesRead, indexOf_eq_none hb]
    exact exec_of_refuse rfl h (by simp) judged
  · rw [SampleStore.readPlace, if_neg (by simp only [hu]; decide)]
    rfl
  · have read : s.readSamples i = s.chan.run[i].store.readRing n := SampleStore.read_ring _ he hm
    rw [exec_samplesRead s i h, read]
    simp only [SampleStore.readRing, counted, u8, yesNo, List.length_take, List.length_drop, List.append_assoc,
      List.singleton_append]
    rfl
  · have read : s.readSamples i = s.chan.run[i].store.readPlace := SampleStore.read_place _ he hm
    rw [exec_samplesRead s i h, read]
    simp only [SampleStore.readPlace, hu, hx, if_true, counted, u8, Option.toList_some, List.length_singleton,
      List.flatMap_singleton, List.singleton_append]
    rfl

/-! #### Snapshots and the link -/

/-- Settles O42: the two snapshots write the image buffer. -/
theorem snapshotsFillImage : Obligations.SnapshotsFillImage := by
  intro s
  refine ⟨fun h hl => ?_, fun h hl hr => ?_, fun h hl hr => ?_, fun h b rest hp => ?_, rfl⟩
  · have judged : judgeContextSnap [] s = refuse s .tripped := by simp [judgeContextSnap, hl]
    exact exec_of_refuse rfl h (by simp) judged
  · have judged : judgeContextSnap [] s = refuse s .busy := by simp [judgeContextSnap, hl, hr]
    exact exec_of_refuse rfl h (by simp) judged
  · have judged : judgeContextSnap [] s =
        acceptWith (s.snapshot reasonRequest) (u16 (imageSum (s.imageBody reasonRequest))) := by
      simp [judgeContextSnap, hl, hr]
    exact exec_of_accept_settled rfl h (by simp) judged h.2
  · have judged : judgeContextSnap (b :: rest) s = refuse s .badField := by simp [judgeContextSnap]
    exact exec_of_refuse rfl h hp judged

theorem resolutionOfCode_ofNat (r : Resolution) : resolutionOfCode (BitVec.ofNat 8 (resolutionCode r)).toNat = some r := by
  cases r <;> rfl

theorem resolutionOfCode_eq_none {n : Nat} (h : 3 ≤ n) : resolutionOfCode n = none := List.getElem?_eq_none h

/-- Settles O45, by the definitions of the five commands. -/
theorem syncResetAndLinkTicks : Obligations.SyncResetAndLinkTicks := by
  intro s
  refine ⟨fun h r => ?_, fun h b hb => ?_, rfl, fun ht => ⟨s.tagTick, rfl, ?_⟩, fun h => ?_, fun hr => ?_, fun hr => ?_⟩
  · have judged : judgeSync [BitVec.ofNat 8 (resolutionCode r)] s = acceptWith (s.sync r) (u16 s.link.timeTag.toNat) := by
      simp only [judgeSync, resolutionOfCode_ofNat]
    exact exec_of_accept_settled rfl h (by simp) judged h.2
  · have judged : judgeSync [b] s = refuse s .badField := by simp only [judgeSync, resolutionOfCode_eq_none hb]
    exact exec_of_refuse rfl h (by simp) judged
  · show s.link.timeTag + 1 = 0
    rw [ht]
    rfl
  · exact exec_of_accept_settled (judge := judgeReset []) (u := { s with link.resetPending := true }) rfl h (by simp) rfl h.2
  · exact congrArg Host.Outcome.next (if_neg (by simp [hr]))
  · exact congrArg Host.Outcome.next (if_pos hr)

end Sys2Proof.Machine
end


section
/-! ### The notice queue (R197, R199; O11) -/

namespace Sys2Proof.Machine

theorem foldl_max_level (ns : List Notice) (m : Nat) :
    m ≤ ns.foldl (fun m n => max m n.level) m ∧ (∀ x ∈ ns, x.level ≤ ns.foldl (fun m n => max m n.level) m) ∧
      (ns.foldl (fun m n => max m n.level) m = m ∨ ∃ x ∈ ns, x.level = ns.foldl (fun m n => max m n.level) m) := by
  induction ns generalizing m with
  | nil => simp
  | cons a ns ih =>
    obtain ⟨hm, hall, hex⟩ := ih (max m a.level)
    rw [List.foldl_cons]
    refine ⟨by omega, fun x hx => ?_, ?_⟩
    · rcases List.mem_cons.mp hx with rfl | hx
      · omega
      · exact hall x hx
    · rcases hex with e | ⟨x, hx, e⟩
      · rcases Nat.le_total a.level m with h | h
        · left
          omega
        · right
          exact ⟨a, by simp, by omega⟩
      · exact .inr ⟨x, by simp [hx], e⟩

theorem level_le_highest {ns : List Notice} {x : Notice} (h : x ∈ ns) : x.level ≤ highestLevel ns :=
  (foldl_max_level ns 0).2.1 x h

theorem exists_highest {ns : List Notice} (h : 0 < highestLevel ns) : ∃ x ∈ ns, x.level = highestLevel ns :=
  (foldl_max_level ns 0).2.2.resolve_left (Nat.ne_of_gt h)

/-- The place that a more urgent notice takes: that of the newest of the highest level (R197). -/
theorem replaceable_eq_some {level k : Nat} {ns : List Notice} (h : replaceable level ns = some k) :
    ∃ (a b : List Notice) (m : Notice), ns = a ++ m :: b ∧ ns.eraseIdx k = a ++ b ∧ level < m.level ∧
      (∀ x ∈ ns, x.level ≤ m.level) ∧ ∀ x ∈ b, x.level < m.level := by
  unfold replaceable at h
  dsimp only at h
  split at h
  · rename_i htop
    obtain ⟨j, hj, rfl⟩ := Option.map_eq_some_iff.mp h
    obtain ⟨hlen, hfound, hbefore⟩ := List.findIdx?_eq_some_iff_getElem.mp hj
    rw [List.length_reverse] at hlen
    have hk : ns.length - 1 - j < ns.length := by omega
    have htopm : ns[ns.length - 1 - j].level = highestLevel ns := by
      simpa [List.getElem_reverse] using hfound
    refine ⟨ns.take (ns.length - 1 - j), ns.drop (ns.length - 1 - j + 1), ns[ns.length - 1 - j], ?_, ?_, by omega, ?_, ?_⟩
    · rw [List.getElem_cons_drop, List.take_append_drop]
    · exact List.eraseIdx_eq_take_drop_succ ..
    · intro x hx
      rw [htopm]
      exact level_le_highest hx
    · intro x hx
      obtain ⟨i, hi, rfl⟩ := List.getElem_of_mem hx
      rw [List.length_drop] at hi
      rw [List.getElem_drop, htopm]
      have later := hbefore (ns.length - 1 - (ns.length - 1 - j + 1 + i)) (by omega)
      rw [List.getElem_reverse] at later
      have idx : ns.length - 1 - (ns.length - 1 - (ns.length - 1 - j + 1 + i)) = ns.length - 1 - j + 1 + i := by omega
      simp only [idx, beq_iff_eq] at later
      exact Nat.lt_of_le_of_ne (level_le_highest (List.getElem_mem _)) later
  · cases h

/-- No notice is less urgent than one that finds no place. -/
theorem replaceable_eq_none {level : Nat} {ns : List Notice} (h : replaceable level ns = none) :
    ∀ x ∈ ns, x.level ≤ level := by
  unfold replaceable at h
  dsimp only at h
  split at h
  · rename_i htop
    obtain ⟨x, hx, e⟩ := exists_highest (Nat.zero_lt_of_lt htop)
    have absent := List.findIdx?_eq_none_iff.mp (Option.map_eq_none_iff.mp h) x (List.mem_reverse.mpr hx)
    simp [e] at absent
  · rename_i htop
    exact fun x hx => (level_le_highest hx).trans (Nat.not_lt.mp htop)

theorem LinkUnit.post_of_room {l : LinkUnit} (h : l.notices.length < 32) (n : Notice) :
    l.post n = LinkUnit.judgeAttn { l with notices := l.notices ++ [n] } := by
  simp [LinkUnit.post, h]

theorem LinkUnit.post_of_full {l : LinkUnit} (h : 32 ≤ l.notices.length) (n : Notice) :
    (∃ k, n.level ≤ 2 ∧ replaceable n.level l.notices = some k ∧
        l.post n = LinkUnit.judgeAttn { l with notices := l.notices.eraseIdx k ++ [n], overrun := true }) ∨
      ((2 < n.level ∨ replaceable n.level l.notices = none) ∧
        l.post n = LinkUnit.judgeAttn { l with overrun := true }) := by
  have full : ¬ l.notices.length < 32 := Nat.not_lt.mpr h
  by_cases urgent : n.level ≤ 2
  · cases hr : replaceable n.level l.notices with
    | some k => exact .inl ⟨k, urgent, rfl, by simp [LinkUnit.post, full, urgent, hr]⟩
    | none => exact .inr ⟨.inr rfl, by simp [LinkUnit.post, full, urgent, hr]⟩
  · exact .inr ⟨.inl (Nat.not_le.mp urgent), by simp [LinkUnit.post, full, urgent]⟩

theorem LinkUnit.post_attn (l : LinkUnit) (n : Notice) :
    (l.post n).attn = (l.post n).notices.any (fun x => decide (x.level ≤ l.threshold)) := by
  rcases Nat.lt_or_ge l.notices.length 32 with h | h
  · rw [LinkUnit.post_of_room h]
    rfl
  · rcases LinkUnit.post_of_full h n with ⟨k, -, -, e⟩ | ⟨-, e⟩ <;> rw [e] <;> rfl

/-- Settles O11, by the three ways of a posting. -/
theorem postingRule : Obligations.PostingRule := by
  intro l n
  refine ⟨fun h => ?_, fun h => ?_, ?_⟩
  · rw [LinkUnit.post_of_room h]
    exact ⟨rfl, rfl⟩
  · rcases LinkUnit.post_of_full h n with ⟨k, urgent, hr, e⟩ | ⟨hn, e⟩
    · obtain ⟨a, b, m, split, erased, above, highest, newest⟩ := replaceable_eq_some hr
      rw [e]
      exact ⟨rfl, .inl ⟨a, b, m, urgent, split, above, highest, newest, congrArg (· ++ [n]) erased⟩⟩
    · rw [e]
      exact ⟨rfl, .inr ⟨hn.imp_right replaceable_eq_none, rfl⟩⟩
  · rw [LinkUnit.post_attn]
    simp

end Sys2Proof.Machine
end


section
/-! ### The softener unit's operations: what each can change

`State.routes` is what serving the path does; `State.softens` what any operation of the softener unit does. -/

namespace Sys2Proof.Machine

/-! #### Requests on the path -/

/-- The path is served: only the path's own places, its loads and the call for an evaluation differ. -/
structure State.routes (s t : State) : Prop where
  rest : t = { s with
    soft.holder := t.soft.holder
    soft.progress := t.soft.progress
    soft.waiting := t.soft.waiting
    soft.pulse := t.soft.pulse
    soft.regen := t.soft.regen
    arb.loads := t.arb.loads
    arb.evalDue := t.arb.evalDue }
  regen : t.soft.regen.map (fun r => { r with flowing := false }) = s.soft.regen.map (fun r => { r with flowing := false })
  loads : ∀ k, ¬ ofPath k → t.load k = s.load k
  stands : ∀ k, (t.load k).grant = (s.load k).grant ∧ (t.load k).forced = (s.load k).forced
  due : s.arb.evalDue = true → t.arb.evalDue = true

namespace State.routes

variable {s t u : State}

theorem refl (s : State) : s.routes s := ⟨rfl, rfl, fun _ _ => rfl, fun _ => ⟨rfl, rfl⟩, id⟩

theorem trans (h : s.routes t) (g : t.routes u) : s.routes u :=
  ⟨g.rest.trans (by rw [h.rest]), g.regen.trans h.regen, fun k hk => (g.loads k hk).trans (h.loads k hk),
    fun k => ⟨(g.stands k).1.trans (h.stands k).1, (g.stands k).2.trans (h.stands k).2⟩, g.due ∘ h.due⟩

theorem eng (h : s.routes t) : t.eng = s.eng := (congrArg (fun x : State => x.eng) h.rest :)
theorem chan (h : s.routes t) : t.chan = s.chan := (congrArg (fun x : State => x.chan) h.rest :)
theorem dosing (h : s.routes t) : t.dosing = s.dosing := (congrArg (fun x : State => x.dosing) h.rest :)
theorem door (h : s.routes t) : t.door = s.door := (congrArg (fun x : State => x.door) h.rest :)
theorem trip (h : s.routes t) : t.trip = s.trip := (congrArg (fun x : State => x.trip) h.rest :)
theorem link (h : s.routes t) : t.link = s.link := (congrArg (fun x : State => x.link) h.rest :)
theorem move (h : s.routes t) : t.soft.move = s.soft.move := (congrArg (fun x : State => x.soft.move) h.rest :)

theorem column (h : s.routes t) (c : Side) : t.column c = s.column c := by
  cases c
  · exact (congrArg (fun x : State => x.soft.colA) h.rest :)
  · exact (congrArg (fun x : State => x.soft.colB) h.rest :)

/-- The regeneration, but for its water state. -/
theorem regen_eq_some (h : s.routes t) {r : Regen} (hr : s.soft.regen = some r) :
    ∃ b, t.soft.regen = some { r with flowing := b } := by
  have e := h.regen
  rw [hr] at e
  obtain ⟨x, hx, e⟩ := Option.map_eq_some_iff.mp e
  refine ⟨x.flowing, hx.trans (congrArg some ?_)⟩
  cases x
  simp only [Regen.mk.injEq] at e
  obtain ⟨rfl, rfl, -, rfl, rfl⟩ := e
  rfl

theorem regen_eq_none (h : s.routes t) (hr : s.soft.regen = none) : t.soft.regen = none := by
  have e := h.regen
  rw [hr] at e
  exact Option.map_eq_none_iff.mp e

theorem setOwn (h : s.routes t) {l : LoadId} (hl : ofPath l) (a : Option Nat) :
    s.routes (t.setLoad l { t.load l with own := a }) :=
  h.trans ⟨rfl, rfl, fun k hk => by rw [State.setLoad_load, if_neg (by rintro rfl; exact hk hl)],
    fun k => by
      rw [State.setLoad_load]
      split
      · subst k; exact ⟨rfl, rfl⟩
      · exact ⟨rfl, rfl⟩, id⟩

theorem markEval (h : s.routes t) : s.routes t.markEval :=
  h.trans ⟨rfl, rfl, fun _ _ => rfl, fun _ => ⟨rfl, rfl⟩, fun _ => rfl⟩

theorem request (h : s.routes t) {l : LoadId} (hl : ofPath l) (a : Nat) : s.routes (t.request l a) :=
  (h.setOwn hl (some a)).markEval

theorem release (h : s.routes t) {l : LoadId} (hl : ofPath l) : s.routes (t.release l) := by
  unfold State.release
  split
  · exact (h.setOwn hl none).markEval
  · exact h

theorem place (h : s.routes t) (p : Progress) (q : Option RoutePulse) : s.routes { t with soft.progress := p, soft.pulse := q } :=
  h.trans ⟨rfl, rfl, fun _ _ => rfl, fun _ => ⟨rfl, rfl⟩, id⟩

theorem hold (h : s.routes t) (x : Holder) (p : Progress) (w : Bool) :
    s.routes { t with soft.holder := x, soft.progress := p, soft.waiting := w } :=
  h.trans ⟨rfl, rfl, fun _ _ => rfl, fun _ => ⟨rfl, rfl⟩, id⟩

theorem flow (h : s.routes t) {r : Regen} (hr : t.soft.regen = some r) (b : Bool) :
    s.routes { t with soft.regen := some { r with flowing := b } } :=
  h.trans ⟨rfl, by simp [hr], fun _ _ => rfl, fun _ => ⟨rfl, rfl⟩, id⟩

theorem stopFlow (h : s.routes t) (w : Bool) :
    s.routes { t with soft.waiting := w, soft.regen := t.soft.regen.map (fun r => { r with flowing := false }) } :=
  h.trans ⟨rfl, by cases t.soft.regen <;> rfl, fun _ _ => rfl, fun _ => ⟨rfl, rfl⟩, id⟩

theorem startPulse (h : s.routes t) (r : Route) : s.routes (t.startPulse r) :=
  (h.place t.soft.progress (some { target := r, timer := 0 })).request (.inr (.inl rfl)) _

theorem becomeSet (s : State) : s.routes s.becomeSet := by
  have set : s.routes (State.markEval { s with soft.progress := .set }) := ((refl s).place .set s.soft.pulse).markEval
  unfold State.becomeSet
  dsimp only
  split
  · exact set
  · exact set.request (.inl rfl) 0
  · split
    · exact set
    · rename_i r hr
      have flowing := set.flow hr true
      split
      · split
        · exact (flowing.request (.inr (.inr rfl)) 0).request (.inl rfl) 0
        · exact flowing.request (.inr (.inr rfl)) 0
      · exact flowing.request (.inl rfl) 0
      · exact flowing

theorem routeHolder (s : State) : s.routes s.routeHolder := by
  unfold State.routeHolder
  split
  · exact becomeSet s
  · exact ((refl s).place .routing s.soft.pulse).startPulse _

theorem serveRegen (s : State) : s.routes s.serveRegen := by
  unfold State.serveRegen
  split
  · exact refl s
  · exact routeHolder s

theorem regenRequestPath (s : State) : s.routes s.regenRequestPath := by
  unfold State.regenRequestPath
  split
  · exact (((refl s).hold .regen .routing false).markEval).trans (serveRegen _)
  · exact (refl s).stopFlow true
  · exact refl s

theorem regenGiveBack (s : State) : s.routes s.regenGiveBack := by
  have stopped := (refl s).stopFlow false
  unfold State.regenGiveBack
  dsimp only
  split
  · have free := (stopped.release (.inl rfl)).release (.inr (.inr rfl))
    exact (free.hold .none .selecting _).markEval
  · exact stopped

theorem servePath_regen (s : State) (h : s.soft.holder = .regen) : s.routes s.servePath := by
  unfold State.servePath
  split
  · exact refl s
  · split
    · exact refl s
    · exact refl s
    · simp_all
    · exact routeHolder s

theorem fillGiveBack (s : State) : s.routes s.fillGiveBack := by
  unfold State.fillGiveBack
  split
  · have free := (((refl s).release (.inl rfl)).hold .none .selecting (s.release .inletValve).soft.waiting).markEval
    dsimp only
    split
    · exact (free.hold .regen .routing false).trans (servePath_regen _ rfl)
    · exact free
  · exact refl s

end State.routes

/-- Serving the path never changes who holds it. -/
theorem State.serveRegen_holder (s : State) : s.serveRegen.soft.holder = s.soft.holder := by
  unfold State.serveRegen
  split
  · rfl
  · exact s.routeHolder_holder

theorem State.regenRequestPath_holder (s : State) :
    (s.soft.holder = .none → s.regenRequestPath.soft.holder = .regen) ∧
      (s.soft.holder = .fill → s.regenRequestPath.soft.holder = .fill ∧ s.regenRequestPath.soft.waiting = true) ∧
      (s.soft.holder = .regen → s.regenRequestPath = s) := by
  refine ⟨fun h => ?_, fun h => ?_, fun h => ?_⟩ <;> simp only [State.regenRequestPath, h]
  · exact State.serveRegen_holder _
  · exact ⟨trivial, trivial⟩

/-! #### The unit's own operations -/

/-- The loads that the softener unit owns (R148). -/
def ofSoftener (k : LoadId) : Prop := ofPath k ∨ k = .selectorValve

/-- The softener unit acts: its own record, its loads, the notice queue, and what a finding on its profile marks differ. Its
position, hold set, profile and residues do not. -/
structure State.softens (s t : State) : Prop where
  rest : t = { s with
    soft := t.soft
    arb.loads := t.arb.loads
    arb.evalDue := t.arb.evalDue
    link := t.link
    trip.integrity := t.trip.integrity
    trip.more := t.trip.more
    trip.faultedSoftener := t.trip.faultedSoftener
    draws := t.draws }
  posts : ∃ ns : List Notice, t.link = ns.foldl LinkUnit.post s.link
  kept : (t.soft.position, t.soft.hold, t.soft.profile, t.soft.tLast, t.soft.rf, t.soft.rl, t.soft.saltLow) =
    (s.soft.position, s.soft.hold, s.soft.profile, s.soft.tLast, s.soft.rf, s.soft.rl, s.soft.saltLow)
  loads : ∀ k, ¬ ofSoftener k → t.load k = s.load k
  stands : ∀ k, (t.load k).grant = (s.load k).grant ∧ (t.load k).forced = (s.load k).forced
  due : s.arb.evalDue = true → t.arb.evalDue = true
  faulted : s.trip.faultedSoftener = true → t.trip.faultedSoftener = true

namespace State.softens

variable {s t u : State}

theorem refl (s : State) : s.softens s :=
  ⟨rfl, ⟨[], rfl⟩, rfl, fun _ _ => rfl, fun _ => ⟨rfl, rfl⟩, id, id⟩

theorem trans (h : s.softens t) (g : t.softens u) : s.softens u := by
  obtain ⟨ns, hn⟩ := h.posts
  obtain ⟨ms, hm⟩ := g.posts
  exact ⟨g.rest.trans (by rw [h.rest]), ⟨ns ++ ms, by rw [hm, hn, List.foldl_append]⟩, g.kept.trans h.kept,
    fun k hk => (g.loads k hk).trans (h.loads k hk),
    fun k => ⟨(g.stands k).1.trans (h.stands k).1, (g.stands k).2.trans (h.stands k).2⟩, g.due ∘ h.due, g.faulted ∘ h.faulted⟩

theorem eng (h : s.softens t) : t.eng = s.eng := (congrArg (fun x : State => x.eng) h.rest :)
theorem chan (h : s.softens t) : t.chan = s.chan := (congrArg (fun x : State => x.chan) h.rest :)
theorem bus (h : s.softens t) : t.bus = s.bus := (congrArg (fun x : State => x.bus) h.rest :)
theorem dosing (h : s.softens t) : t.dosing = s.dosing := (congrArg (fun x : State => x.dosing) h.rest :)
theorem door (h : s.softens t) : t.door = s.door := (congrArg (fun x : State => x.door) h.rest :)
theorem latch (h : s.softens t) : t.trip.latch = s.trip.latch := (congrArg (fun x : State => x.trip.latch) h.rest :)
theorem active (h : s.softens t) : t.arb.active = s.arb.active := (congrArg (fun x : State => x.arb.active) h.rest :)
theorem now (h : s.softens t) : t.now = s.now := (congrArg (fun x : State => x.now) h.rest :)
theorem pending (h : s.softens t) : t.pending = s.pending := (congrArg (fun x : State => x.pending) h.rest :)

theorem mode (h : s.softens t) : t.link.mode = s.link.mode := by
  obtain ⟨ns, hn⟩ := h.posts
  rw [hn]
  exact (congrArg LinkUnit.mode (LinkUnit.posts_rest ns s.link) :)

theorem position (h : s.softens t) : t.soft.position = s.soft.position := (Prod.mk.inj h.kept).1
theorem holdSet (h : s.softens t) : t.soft.hold = s.soft.hold := (Prod.mk.inj (Prod.mk.inj h.kept).2).1

theorem profile (h : s.softens t) : t.soft.profile = s.soft.profile := by
  have e := h.kept
  simp only [Prod.mk.injEq] at e
  exact e.2.2.1

theorem saltLow (h : s.softens t) : t.soft.saltLow = s.soft.saltLow := by
  have e := h.kept
  simp only [Prod.mk.injEq] at e
  exact e.2.2.2.2.2.2

theorem inEffect (h : s.softens t) (e : s.inEffect .softener) : t.inEffect .softener :=
  e.imp h.faulted fun e => by
    unfold State.profileSound at e ⊢
    rwa [h.profile]

theorem routes (h : s.routes t) : s.softens t := by
  have kept : (t.soft.position, t.soft.hold, t.soft.profile, t.soft.tLast, t.soft.rf, t.soft.rl, t.soft.saltLow) =
      (s.soft.position, s.soft.hold, s.soft.profile, s.soft.tLast, s.soft.rf, s.soft.rl, s.soft.saltLow) :=
    (congrArg (fun x : State => (x.soft.position, x.soft.hold, x.soft.profile, x.soft.tLast, x.soft.rf, x.soft.rl,
      x.soft.saltLow)) h.rest :)
  have soft : t = { s with
      soft := t.soft, arb.loads := t.arb.loads, arb.evalDue := t.arb.evalDue } := by
    rw [h.rest]
  refine ⟨?_, ⟨[], h.link⟩, kept, fun k hk => h.loads k (hk ∘ .inl), h.stands, h.due, fun e => h.trip ▸ e⟩
  rw [h.link, h.trip]
  exact soft.trans (congrArg (fun d => { s with
    soft := t.soft, arb.loads := t.arb.loads, arb.evalDue := t.arb.evalDue, draws := d })
      (congrArg (fun x : State => x.draws) h.rest :).symm)

/-- An update of the softener's record that leaves what the unit keeps. -/
theorem record (h : s.softens t) (x : SoftenerUnit)
    (e : (x.position, x.hold, x.profile, x.tLast, x.rf, x.rl, x.saltLow) =
      (t.soft.position, t.soft.hold, t.soft.profile, t.soft.tLast, t.soft.rf, t.soft.rl, t.soft.saltLow)) :
    s.softens { t with soft := x } :=
  h.trans ⟨rfl, ⟨[], rfl⟩, e, fun _ _ => rfl, fun _ => ⟨rfl, rfl⟩, id, id⟩

theorem markEval (h : s.softens t) : s.softens t.markEval :=
  h.trans ⟨rfl, ⟨[], rfl⟩, rfl, fun _ _ => rfl, fun _ => ⟨rfl, rfl⟩, fun _ => rfl, id⟩

theorem draw (h : s.softens t) : s.softens t.draw :=
  h.trans ⟨rfl, ⟨[], rfl⟩, rfl, fun _ _ => rfl, fun _ => ⟨rfl, rfl⟩, id, id⟩

theorem post (h : s.softens t) (k : NoticeKind) (l n : Nat) (v : Int) : s.softens (t.post k l n v) :=
  h.trans ⟨rfl, ⟨[_], rfl⟩, rfl, fun _ _ => rfl, fun _ => ⟨rfl, rfl⟩, id, id⟩

theorem setColumn (h : s.softens t) (c : Side) (x : Column) : s.softens (t.setColumn c x) := by
  cases c
  · exact h.record { t.soft with colA := x } rfl
  · exact h.record { t.soft with colB := x } rfl

theorem setOwn (h : s.softens t) {l : LoadId} (hl : ofSoftener l) (a : Option Nat) :
    s.softens (t.setLoad l { t.load l with own := a }) :=
  h.trans ⟨rfl, ⟨[], rfl⟩, rfl, fun k hk => by rw [State.setLoad_load, if_neg (by rintro rfl; exact hk hl)],
    fun k => by
      rw [State.setLoad_load]
      split
      · subst k; exact ⟨rfl, rfl⟩
      · exact ⟨rfl, rfl⟩, id, id⟩

theorem request (h : s.softens t) {l : LoadId} (hl : ofSoftener l) (a : Nat) : s.softens (t.request l a) :=
  (h.setOwn hl (some a)).markEval

theorem release (h : s.softens t) {l : LoadId} (hl : ofSoftener l) : s.softens (t.release l) := by
  unfold State.release
  split
  · exact (h.setOwn hl none).markEval
  · exact h

theorem useProfile (h : s.softens t) : s.softens (t.useProfile .softener) := by
  by_cases e : t.inEffect .softener
  · rw [State.useProfile_of_inEffect e]
    exact h
  · refine h.trans ?_
    have found := t.integrityError_findsError .profile none (profileCode .softener)
    rw [State.useProfile_of_damaged e]
    generalize t.integrityError .profile none (profileCode .softener) = x at found ⊢
    obtain ⟨ns, hn⟩ := found.posts
    have begun : t.softens { x with trip.faultedSoftener := true } := by
      refine ⟨?_, ⟨ns, hn⟩, by rw [found.soft], fun k _ => by unfold State.load; rw [found.arb],
        fun k => by unfold State.load; rw [found.arb]; exact ⟨rfl, rfl⟩, fun d => by rw [found.arb]; exact d, fun _ => rfl⟩
      rw [found.rest]
    exact (begun.post .profileFault 2 _ 0).record _ rfl

theorem positionCheck (h : s.softens t) : s.softens t.positionCheck := by
  unfold State.positionCheck
  split
  · exact h
  · split
    · exact h
    · exact h.setColumn ..

theorem startRegen (h : s.softens t) (c : Side) : s.softens (t.startRegen c) := by
  have begun := (h.record { t.soft with
    regen := some { column := c, stage := .brine, flowing := false, volume := 0, soakTimer := 0 } } rfl).setColumn c
      { t.column c with state := .brine, saltReduced := t.soft.saltLow }
  unfold State.startRegen
  dsimp only
  refine trans ?_ (routes (.regenRequestPath _))
  split
  · exact begun.useProfile.post ..
  · exact begun

theorem autoCheck (h : s.softens t) : s.softens t.autoCheck := by
  unfold State.autoCheck
  split
  · exact h
  · split
    · dsimp only
      split
      · exact h.useProfile.startRegen _
      · exact h.useProfile
    · exact h

theorem drive (h : s.softens t) (m : SelectorMove) : s.softens (t.drive m) :=
  (h.record { t.soft with move := some { m with timer := 0, driving := true } } rfl).request (.inr rfl) _

theorem confirmFlip (h : s.softens t) (c : Side) : s.softens (t.confirmFlip c) := by
  unfold State.confirmFlip
  split
  · dsimp only
    refine autoCheck (post (setColumn ?_ ..) ..)
    split
    · exact h.setColumn ..
    · exact h
  · exact h

theorem moveArrived (h : s.softens t) (m : SelectorMove) : s.softens (t.moveArrived m) := by
  unfold State.moveArrived
  split
  · exact h.confirmFlip _
  · exact h
  · exact h

theorem createMove (h : s.softens t) (p : MovePurpose) (c : Side) : s.softens (t.createMove p c) := by
  have used := h.useProfile
  unfold State.createMove
  dsimp only
  split
  · split
    · exact used.moveArrived _
    · exact used.drive _
  · exact used.record { (t.useProfile .softener).soft with move := _ } rfl

theorem judgeFlip (h : s.softens t) : s.softens t.judgeFlip := by
  unfold State.judgeFlip
  split
  · exact h
  · exact (h.record { t.soft with flipTried := true } rfl).createMove ..

theorem servePath (h : s.softens t) : s.softens t.servePath := by
  unfold State.servePath
  split
  · exact h
  · split
    · exact h
    · exact h
    · dsimp only
      split
      · exact h.judgeFlip
      · exact h.judgeFlip.trans (routes (.routeHolder _))
    · exact h.trans (routes (.routeHolder _))

end State.softens

end Sys2Proof.Machine
end


section
/-! ### Forced loads, columns and regenerations (O35, O36, O37) -/

namespace Sys2Proof.Machine

/-! #### What a use of the softener profile and the start of a regeneration make of the columns -/

/-- A use of the softener profile judges the due flags at most. -/
theorem State.useSoftener_soft (s : State) :
    ∃ a b, (s.useProfile .softener).soft =
      { s.soft with colA := { s.soft.colA with due := a }, colB := { s.soft.colB with due := b } } := by
  by_cases h : s.inEffect .softener
  · rw [State.useProfile_of_inEffect h]
    exact ⟨_, _, rfl⟩
  · have found := s.integrityError_findsError .profile none (profileCode .softener)
    rw [State.useProfile_of_damaged h, ← found.soft]
    exact ⟨_, _, rfl⟩

theorem State.useSoftener_column (s : State) (c : Side) :
    ∃ b, (s.useProfile .softener).column c = { s.column c with due := b } := by
  obtain ⟨a, b, h⟩ := s.useSoftener_soft
  cases c
  · exact ⟨a, congrArg SoftenerUnit.colA h⟩
  · exact ⟨b, congrArg SoftenerUnit.colB h⟩

theorem otherSide_ne (c : Side) : otherSide c ≠ c := by cases c <;> nofun

/-- A regeneration starts: its column is in REGEN_BRINE, and the path is requested (R104, R105). -/
theorem State.startRegen_spec (s : State) (c : Side) :
    (∃ a, (s.startRegen c).column c = { s.column c with state := .brine, saltReduced := s.soft.saltLow, due := a }) ∧
      (∃ b, (s.startRegen c).column (otherSide c) = { s.column (otherSide c) with due := b }) ∧
      (∃ f, (s.startRegen c).soft.regen =
        some { column := c, stage := .brine, flowing := f, volume := 0, soakTimer := 0 }) ∧
      (s.startRegen c).soft.move = s.soft.move ∧
      (s.soft.holder = .none → (s.startRegen c).soft.holder = .regen) ∧
      (s.soft.holder = .fill → (s.startRegen c).soft.holder = .fill ∧ (s.startRegen c).soft.waiting = true) ∧
      (s.inEffect .softener → ∀ d, ((s.startRegen c).column d).due = (s.column d).due) := by
  obtain ⟨x, hx⟩ : ∃ x : State, x = State.setColumn { s with
    soft.regen := some { column := c, stage := .brine, flowing := false, volume := 0, soakTimer := 0 } } c
      { s.column c with state := .brine, saltReduced := s.soft.saltLow } := ⟨_, rfl⟩
  obtain ⟨y, hy⟩ : ∃ y : State, y =
      if s.soft.saltLow then
        (x.useProfile .softener).post .regenSaltLow 3 (sideCode c)
          (restoredCapacity (x.useProfile .softener).softener true)
      else x := ⟨_, rfl⟩
  have started : s.startRegen c = y.regenRequestPath := by
    have salt : x.soft.saltLow = s.soft.saltLow := by rw [hx]; cases c <;> rfl
    rw [hy, ← salt, hx]
    rfl
  have own : x.column c = { s.column c with state := .brine, saltReduced := s.soft.saltLow } := by
    rw [hx, State.setColumn_column, if_pos rfl]
  have other : x.column (otherSide c) = s.column (otherSide c) := by
    rw [hx, State.setColumn_column, if_neg (otherSide_ne c)]
    cases c <;> rfl
  have regen : x.soft.regen = some { column := c, stage := .brine, flowing := false, volume := 0, soakTimer := 0 } := by
    rw [hx]; cases c <;> rfl
  have move : x.soft.move = s.soft.move := by rw [hx]; cases c <;> rfl
  have holder : x.soft.holder = s.soft.holder := by rw [hx]; cases c <;> rfl
  have dueX : ∀ d, (x.column d).due = (s.column d).due := fun d => by
    rw [hx, State.setColumn_column]
    split
    · rename_i e
      rw [e]
    · cases d <;> rfl
  have used : (∀ d, ∃ b, y.column d = { x.column d with due := b }) ∧ y.soft.regen = x.soft.regen ∧
      y.soft.move = x.soft.move ∧ y.soft.holder = x.soft.holder ∧ (x.inEffect .softener → y.column = x.column) := by
    rw [hy]
    split
    · refine ⟨x.useSoftener_column, ?_, ?_, ?_, fun e => ?_⟩
      · obtain ⟨a, b, h⟩ := x.useSoftener_soft
        exact (congrArg SoftenerUnit.regen h :)
      · obtain ⟨a, b, h⟩ := x.useSoftener_soft
        exact (congrArg SoftenerUnit.move h :)
      · obtain ⟨a, b, h⟩ := x.useSoftener_soft
        exact (congrArg SoftenerUnit.holder h :)
      · rw [State.useProfile_of_inEffect e]
        rfl
    · exact ⟨fun d => ⟨_, rfl⟩, rfl, rfl, rfl, fun _ => rfl⟩
  obtain ⟨columns, regenY, moveY, holderY, same⟩ := used
  have path := State.routes.regenRequestPath y
  obtain ⟨free, behind, -⟩ := y.regenRequestPath_holder
  rw [started]
  refine ⟨?_, ?_, ?_, path.move.trans (moveY.trans move), fun e => free (holderY.trans (holder.trans e)),
    fun e => behind (holderY.trans (holder.trans e)), fun e d => ?_⟩
  · obtain ⟨b, hb⟩ := columns c
    exact ⟨b, by rw [path.column, hb, own]⟩
  · obtain ⟨b, hb⟩ := columns (otherSide c)
    exact ⟨b, by rw [path.column, hb, other]⟩
  · exact path.regen_eq_some (regenY.trans regen)
  · have inX : x.inEffect .softener := by
      rw [hx]
      exact ((((State.softens.refl s).record { s.soft with
        regen := some { column := c, stage := .brine, flowing := false, volume := 0, soakTimer := 0 } } rfl)).setColumn c _).inEffect e
    rw [path.column, same inX, dueX]

/-- The automatic start check starts a regeneration of an exhausted column, or uses the profile at most (R104). -/
theorem State.autoCheck_cases (s : State) :
    s.autoCheck = s ∨ (s.link.mode = .run ∧ s.autoCheck = s.useProfile .softener) ∨
      ∃ c, s.link.mode = .run ∧ s.soft.regen = none ∧ (s.column c).state = .exhausted ∧
        s.autoCheck = (s.useProfile .softener).startRegen c := by
  unfold State.autoCheck
  split
  · exact .inl rfl
  · rename_i c hc
    split
    · rename_i h
      simp only [Bool.and_eq_true, decide_eq_true_eq, Option.isNone_iff_eq_none] at h
      have exhausted : (s.column c).state = .exhausted := by
        unfold State.exhaustedColumn at hc
        split at hc
        · cases hc; assumption
        · split at hc
          · cases hc; assumption
          · cases hc
      dsimp only
      split
      · exact .inr (.inr ⟨c, h.1.1.1, h.2, exhausted, rfl⟩)
      · exact .inr (.inl ⟨h.1.1.1, rfl⟩)
    · exact .inl rfl

/-- What the automatic start check leaves of a column (R104): its capacity and due flag, and all of one that is not
exhausted; with the profile in effect. -/
theorem State.autoCheck_column {s : State} (h : s.inEffect .softener) (c : Side) :
    (s.autoCheck.column c).cap = (s.column c).cap ∧ (s.autoCheck.column c).due = (s.column c).due ∧
      ((s.column c).state ≠ .exhausted → s.autoCheck.column c = s.column c) ∧
      ((s.column c).state = .exhausted → (s.autoCheck.column c).state = .exhausted ∨ (s.autoCheck.column c).state = .brine) ∧
      s.autoCheck.soft.move = s.soft.move := by
  rcases s.autoCheck_cases with e | ⟨-, e⟩ | ⟨d, -, -, exhausted, e⟩
  · rw [e]
    exact ⟨rfl, rfl, fun _ => rfl, .inl, rfl⟩
  · rw [e, State.useProfile_of_inEffect h]
    exact ⟨rfl, rfl, fun _ => rfl, .inl, rfl⟩
  · rw [e, State.useProfile_of_inEffect h]
    obtain ⟨⟨a, own⟩, ⟨b, other⟩, -, move, -, -, due⟩ := s.startRegen_spec d
    refine ⟨?_, due h c, fun hc => ?_, fun hc => ?_, move⟩
    · by_cases hd : c = d
      · rw [hd, own]
      · have : c = otherSide d := by cases c <;> cases d <;> simp_all [otherSide]
        rw [this, other]
    · have hd : c ≠ d := by rintro rfl; exact hc exhausted
      have side : c = otherSide d := by cases c <;> cases d <;> simp_all [otherSide]
      have dueC := due h c
      rw [side] at dueC ⊢
      rw [other] at dueC ⊢
      simp only at dueC
      rw [dueC]
    · by_cases hd : c = d
      · right
        rw [hd, own]
      · have side : c = otherSide d := by cases c <;> cases d <;> simp_all [otherSide]
        left
        rw [side, other, ← side]
        exact hc

/-! #### LOAD_FORCE -/

theorem loadOfId_eq_none {n : Nat} (h : 11 ≤ n) : loadOfId n = none := List.getElem?_eq_none h

theorem forceArgument_eq_none {l : LoadId} {arg : Byte} (h : forceArgument l arg = none) :
    l = .routeValve ∧ arg.toNat ≠ 1 ∧ arg.toNat ≠ 2 ∨ l = .selectorValve ∧ 2 ≤ arg.toNat := by
  unfold forceArgument at h
  split at h
  · cases h
  · split at h
    · cases h
    · rename_i hn
      exact .inl ⟨rfl, not_or.mp hn⟩
  · split at h
    · cases h
    · rename_i hn
      exact .inr ⟨rfl, by omega⟩
  · cases h

theorem forceArgument_eq_some {l : LoadId} {arg : Byte} {a : Nat} (h : forceArgument l arg = some a) :
    (l = .circPump → a = max 30 (min 100 arg.toNat)) ∧
      (l ≠ .circPump → l ≠ .routeValve → l ≠ .selectorValve → a = 0) := by
  refine ⟨fun hl => ?_, fun h1 h2 h3 => ?_⟩
  · subst hl
    have : a = clampNat 30 100 arg.toNat := (Option.some.inj h).symm
    rw [this, clampNat]
    omega
  · unfold forceArgument at h
    split at h
    · exact absurd rfl h1
    · exact absurd rfl h2
    · exact absurd rfl h3
    · exact (Option.some.inj h).symm

/-- An accepted LOAD_FORCE, with either action (R160). -/
theorem State.force_spec (s : State) (l : LoadId) (x : Option Nat) :
    ((s.force l x).settle.load l).forced = x ∧ ((s.force l x).load l).own = (s.load l).own ∧
      (∀ k, k ≠ l → (s.force l x).load k = s.load k) ∧ { s.force l x with arb := s.arb } = s ∧
      (s.force l x).arb.evalDue = true := by
  have forced : (s.force l x).load l = { s.load l with forced := x } := by
    unfold State.force
    exact (State.setLoad_load s l l _).trans (if_pos rfl)
  refine ⟨?_, by rw [forced], fun k hk => ?_, rfl, rfl⟩
  · rw [(State.evaluates.settle (s.force l x)).forced.load l, forced]
  · exact (State.setLoad_load s l k _).trans (if_neg hk)

section

variable {s : State} {id arg : Byte}

theorem exec_loadForce_refuse (h : s.ready) {st : Status}
    (hj : ∀ on a, a = (if on then 1 else 0) → judgeForce on [id, a, arg] s = refuse s st) :
    exec (.loadForceOn [id, 1, arg]) s = .next (s.respond 0x21 st []) ∧
      exec (.loadForceOff [id, 0, arg]) s = .next (s.respond 0x21 st []) :=
  ⟨exec_of_refuse rfl h (by simp) (hj true 1 rfl), exec_of_refuse rfl h (by simp) (hj false 0 rfl)⟩

end

/-- Settles O35, by the cases of mode, id and argument. -/
theorem loadForceRequests : Obligations.LoadForceRequests := by
  intro s id arg h
  refine ⟨fun hm => ?_, fun hm hid => ?_, fun l hm hid ha => ⟨forceArgument_eq_none ha, ?_⟩, fun l a hm hid ha => ?_⟩
  · exact exec_loadForce_refuse h fun on a _ => by simp [judgeForce, hm]
  · exact exec_loadForce_refuse h fun on a _ => by simp [judgeForce, hm, loadOfId_eq_none hid]
  · exact exec_loadForce_refuse h fun on a _ => by simp [judgeForce, hm, hid, ha]
  · obtain ⟨speed, zero⟩ := forceArgument_eq_some ha
    have on : judgeForce true [id, 1, arg] s = accept (s.force l (some a)) (fun t => t.grantBytes l) := by
      simp [judgeForce, hm, hid, ha, readYesNo]
    have off : judgeForce false [id, 0, arg] s = accept (s.force l none) (fun t => t.grantBytes l) := by
      simp [judgeForce, hm, hid, ha, readYesNo]
    refine ⟨speed, zero, ⟨s.force l (some a), ?_, s.force_spec l (some a)⟩, ⟨s.force l none, ?_, s.force_spec l none⟩⟩
    · rw [exec_of_accept (c := .loadForceOn [id, 1, arg]) rfl h (by simp) on]
    · rw [exec_of_accept (c := .loadForceOff [id, 0, arg]) rfl h (by simp) off]

/-! #### COLUMN_SET -/

theorem sideOfCode_ofNat (c : Side) : sideOfCode (BitVec.ofNat 8 (sideCode c)).toNat = some c := by cases c <;> rfl

theorem sideOfCode_eq_none {n : Nat} (h : 2 ≤ n) : sideOfCode n = none := List.getElem?_eq_none h

theorem sideOfCode_of_lt {n : Nat} (h : n < 2) : ∃ c, sideOfCode n = some c := by
  obtain rfl | rfl : n = 0 ∨ n = 1 := by omega
  · exact ⟨.a, rfl⟩
  · exact ⟨.b, rfl⟩

theorem settableState_ofNat {st : ColumnState} (h : st = .offline ∨ st = .service ∨ st = .ready ∨ st = .exhausted) :
    settableState (BitVec.ofNat 8 (columnStateCode st)).toNat = some st := by
  rcases h with rfl | rfl | rfl | rfl <;> rfl

theorem settableState_eq_none {n : Nat} (h : 4 ≤ n) : settableState n = none := by
  obtain rfl | rfl | rfl | h : n = 4 ∨ n = 5 ∨ n = 6 ∨ 7 ≤ n := by omega
  · rfl
  · rfl
  · rfl
  · have : columnStateOfCode n = none := List.getElem?_eq_none h
    simp [settableState, this]

theorem settableState_of_lt {n : Nat} (h : n < 4) : ∃ st, settableState n = some st := by
  obtain rfl | rfl | rfl | rfl : n = 0 ∨ n = 1 ∨ n = 2 ∨ n = 3 := by omega
  · exact ⟨.offline, rfl⟩
  · exact ⟨.service, rfl⟩
  · exact ⟨.ready, rfl⟩
  · exact ⟨.exhausted, rfl⟩

/-- The record that an accepted COLUMN_SET writes, with the profile in effect (R83, R84). -/
def State.columnWritten (s : State) (st : ColumnState) (cap : Nat) : Column where
  state := st
  cap := min cap s.softener.rated
  due := decide (min cap s.softener.rated ≤ s.softener.reserve)
  saltReduced := false

theorem State.writeColumn_of_inEffect {s : State} (h : s.inEffect .softener) (c : Side) (st : ColumnState) (cap : Nat) :
    s.writeColumn c st cap = s.setColumn c (s.columnWritten st cap) := by
  unfold State.writeColumn
  rw [State.useProfile_of_inEffect h]
  rfl

/-- A SET move of a new service column off the selector's side (R86). -/
theorem State.alignColumn_spec {s : State} (h : s.inEffect .softener) (c : Side) (st : ColumnState) :
    s.softens (s.alignColumn c st) ∧ (s.alignColumn c st).column = s.column ∧
      (st = .service → s.soft.position ≠ c →
        ∃ m, (s.alignColumn c st).soft.move = some m ∧ m.purpose = .set ∧ m.target = c ∧
          m.driving = decide (s.link.mode = .run)) ∧
      (st ≠ .service ∨ s.soft.position = c → s.alignColumn c st = s) := by
  unfold State.alignColumn
  split
  · rename_i hs
    refine ⟨(State.softens.refl s).createMove _ _, ?_, fun _ _ => ?_, fun hn => ?_⟩
    · unfold State.createMove
      rw [State.useProfile_of_inEffect h]
      dsimp only
      split
      · rw [if_neg hs.2]
        funext d
        cases d <;> rfl
      · funext d
        cases d <;> rfl
    · unfold State.createMove
      rw [State.useProfile_of_inEffect h]
      dsimp only
      split
      · rename_i hm
        exact ⟨_, rfl, rfl, rfl, (decide_eq_true hm).symm⟩
      · rename_i hm
        exact ⟨_, rfl, rfl, rfl, (decide_eq_false hm).symm⟩
    · exact absurd hs (by tauto)
  · rename_i hs
    exact ⟨.refl s, rfl, fun h1 h2 => absurd ⟨h1, h2⟩ hs, fun _ => rfl⟩

theorem exec_columnSet_accept {s : State} {c : Side} {st : ColumnState} {hi lo : Byte} (h : s.ready)
    (hm : s.link.mode ≠ .service) (he : s.eng.state = .idle) (hr : s.soft.regen = none) (hv : s.soft.move = none)
    (hs : st = .offline ∨ st = .service ∨ st = .ready ∨ st = .exhausted)
    (hc : ¬(st = .service ∧ (s.column (otherSide c)).state = .service)) :
    exec (.columnSet [BitVec.ofNat 8 (sideCode c), BitVec.ofNat 8 (columnStateCode st), hi, lo]) s =
      .next ((s.columnSet c st (be16 hi lo)).settle.respond 0x22 .ok
        (columnBytes (s.columnSet c st (be16 hi lo)).settle.soft.colA
          ++ columnBytes (s.columnSet c st (be16 hi lo)).settle.soft.colB)) := by
  have judged : judgeColumnSet [BitVec.ofNat 8 (sideCode c), BitVec.ofNat 8 (columnStateCode st), hi, lo] s =
      accept (s.columnSet c st (be16 hi lo)) (fun t => columnBytes t.soft.colA ++ columnBytes t.soft.colB) := by
    simp only [judgeColumnSet, if_neg hm, sideOfCode_ofNat, settableState_ofNat hs, he, hr, hv, if_neg hc]
    simp
  rw [exec_of_accept rfl h (by simp) judged]

/-- An accepted COLUMN_SET as one event (R84). -/
theorem State.columnSet_spec {s : State} (h : s.inEffect .softener) (c : Side) (st : ColumnState) (cap : Nat) :
    s.softens (s.columnSet c st cap) ∧
      ((s.columnSet c st cap).column c).cap = (s.columnWritten st cap).cap ∧
      ((s.columnSet c st cap).column c).due = (s.columnWritten st cap).due ∧
      (st ≠ .exhausted → (s.columnSet c st cap).column c = s.columnWritten st cap) ∧
      (st = .exhausted → ((s.columnSet c st cap).column c).state = .exhausted ∨
        ((s.columnSet c st cap).column c).state = .brine) ∧
      ((s.columnSet c st cap).column (otherSide c)).cap = (s.column (otherSide c)).cap ∧
      (st = .service → s.soft.position ≠ c →
        ∃ m, (s.columnSet c st cap).soft.move = some m ∧ m.purpose = .set ∧ m.target = c ∧
          m.driving = decide (s.link.mode = .run)) ∧
      (s.link.mode = .standby → (st ≠ .service ∨ s.soft.position = c) →
        s.columnSet c st cap = s.setColumn c (s.columnWritten st cap)) := by
  obtain ⟨x, hx⟩ : ∃ x, x = s.setColumn c (s.columnWritten st cap) := ⟨_, rfl⟩
  have written : s.softens x := by rw [hx]; exact (State.softens.refl s).setColumn ..
  have inX := written.inEffect h
  obtain ⟨aligned, columns, move, still⟩ := State.alignColumn_spec inX c st
  have inY := aligned.inEffect inX
  have e : s.columnSet c st cap = (x.alignColumn c st).autoCheck := by
    unfold State.columnSet
    rw [State.writeColumn_of_inEffect h, hx]
  have own : x.column c = s.columnWritten st cap := by rw [hx, State.setColumn_column, if_pos rfl]
  have other : x.column (otherSide c) = s.column (otherSide c) := by
    rw [hx, State.setColumn_column, if_neg (otherSide_ne c)]
  obtain ⟨capY, dueY, sameY, exhaustedY, moveY⟩ := State.autoCheck_column inY c
  obtain ⟨capO, -⟩ := State.autoCheck_column inY (otherSide c)
  rw [columns, own] at capY dueY sameY exhaustedY
  rw [columns, other] at capO
  rw [e]
  refine ⟨written.trans aligned.autoCheck, capY, dueY, fun hs => sameY hs, fun hs => exhaustedY hs, capO, fun hs hp => ?_,
    fun hm hs => ?_⟩
  · obtain ⟨m, hm, purpose, target, driving⟩ := move hs (written.position ▸ hp)
    exact ⟨m, moveY.trans hm, purpose, target, by rw [driving, written.mode]⟩
  · have mode : x.link.mode ≠ .run := by rw [written.mode, hm]; nofun
    rw [still (written.position ▸ hs), ← hx]
    rcases x.autoCheck_cases with e | ⟨hm, -⟩ | ⟨d, hm, -⟩
    · exact e
    · exact absurd hm mode
    · exact absurd hm mode

/-- The refusals of COLUMN_SET, in their order (R84). -/
theorem exec_columnSet_refuse (s : State) (col st hi lo : Byte) (h : s.ready) :
      (s.link.mode = .service → exec (.columnSet [col, st, hi, lo]) s = .next (s.respond 0x22 .wrongMode [])) ∧
      (s.link.mode ≠ .service → (2 ≤ col.toNat ∨ 4 ≤ st.toNat) →
        exec (.columnSet [col, st, hi, lo]) s = .next (s.respond 0x22 .badField [])) ∧
      (s.link.mode ≠ .service → col.toNat < 2 → st.toNat < 4 →
        (s.eng.state ≠ .idle ∨ s.soft.regen ≠ none ∨ s.soft.move ≠ none) →
        exec (.columnSet [col, st, hi, lo]) s = .next (s.respond 0x22 .busy [])) ∧
      (∀ c, s.link.mode ≠ .service → sideOfCode col.toNat = some c → st = 1 → s.eng.state = .idle →
        s.soft.regen = none → s.soft.move = none → (s.column (otherSide c)).state = .service →
        exec (.columnSet [col, st, hi, lo]) s = .next (s.respond 0x22 .conflict [])) := by
  refine ⟨fun hm => ?_, fun hm hb => ?_, fun hm hc hs hb => ?_, fun c hm hc hs he hr hv ho => ?_⟩ <;>
    refine exec_of_refuse (judge := judgeColumnSet [col, st, hi, lo]) rfl h (by simp) ?_
  · exact if_pos hm
  · rw [judgeColumnSet, if_neg hm]
    split
    · rename_i hc hs
      rcases hb with hb | hb
      · rw [sideOfCode_eq_none hb] at hc; cases hc
      · rw [settableState_eq_none hb] at hs; cases hs
    · rfl
  · obtain ⟨c, hc⟩ := sideOfCode_of_lt hc
    obtain ⟨x, hs⟩ := settableState_of_lt hs
    simp only [judgeColumnSet, if_neg hm, hc, hs]
    by_cases he : s.eng.state = .idle
    · have busy : s.soft.regen.isSome = true ∨ s.soft.move.isSome = true :=
        (hb.resolve_left (not_not_intro he)).imp Option.isSome_iff_ne_none.mpr Option.isSome_iff_ne_none.mpr
      rw [if_neg (not_not_intro he), if_pos busy]
    · rw [if_pos he]
  · have settable : settableState st.toNat = some .service := by rw [hs]; rfl
    simp [judgeColumnSet, hm, hc, settable, he, hr, hv, ho]

/-- Settles O36, by the specification of `columnSet` and the refusals in their order. -/
theorem columnSetWritesColumn : Obligations.ColumnSetWritesColumn := by
  refine ⟨fun s c st hi lo h hp hm he hr hv hs hc => ?_, fun s col st hi lo h => exec_columnSet_refuse s col st hi lo h⟩
  obtain ⟨acts, cap, due, own, exhausted, other, move, standby⟩ := State.columnSet_spec hp c st (be16 hi lo)
  refine ⟨s.columnSet c st (be16 hi lo), exec_columnSet_accept h hm he hr hv hs hc, cap, due,
    fun hst => by rw [own hst]; exact ⟨rfl, rfl⟩, exhausted, other, move, standby, acts.eng, acts.chan, acts.dosing,
    acts.door⟩

/-! #### REGEN_START -/

/-- Settles O37, by the refusals in their order and the start of a regeneration. -/
theorem regenStartBegins : Obligations.RegenStartBegins := by
  intro s c h
  have refused : ∀ st, judgeRegenStart [BitVec.ofNat 8 (sideCode c)] s = refuse s st →
      exec (.regenStart [BitVec.ofNat 8 (sideCode c)]) s = .next (s.respond 0x23 st []) := fun st hj =>
    exec_of_refuse rfl h (by simp) hj
  have judged : judgeRegenStart [BitVec.ofNat 8 (sideCode c)] s =
      if s.link.mode ≠ .run then refuse s .wrongMode
      else if s.trip.latch then refuse s .tripped
      else if !s.soft.hold.isEmpty || s.soft.regen.isSome then refuse s .busy
      else if (s.column c).state ≠ .exhausted then refuse s .conflict
      else acceptBare (s.startRegen c) := by
    simp only [judgeRegenStart, sideOfCode_ofNat]
  refine ⟨fun hm => refused _ ?_, fun hm hl => refused _ ?_, fun hm hl hb => refused _ ?_, fun hm hl hh hr =>
    ⟨fun hc => refused _ ?_, fun hc => ?_⟩⟩
  · simp [judged, hm]
  · simp [judged, hm, hl]
  · have busy : (!s.soft.hold.isEmpty || s.soft.regen.isSome) = true := by
      rcases hb with hb | hb
      · simp [hb]
      · simp [Option.isSome_iff_ne_none.mpr hb]
    simp [judged, hm, hl, busy]
  · simp [judged, hm, hl, hh, hr, hc]
  · have accepted : judgeRegenStart [BitVec.ofNat 8 (sideCode c)] s = acceptBare (s.startRegen c) := by
      simp [judged, hm, hl, hh, hr, hc]
    obtain ⟨⟨a, own⟩, -, ⟨f, regen⟩, -, free, behind, -⟩ := s.startRegen_spec c
    have acts := (State.softens.refl s).startRegen c
    refine ⟨s.startRegen c, by rw [exec_of_accept rfl h (by simp) accepted], by rw [own], by rw [own], by rw [own],
      ⟨_, regen, rfl, rfl, rfl⟩, free, behind, acts.eng, acts.chan, acts.dosing, acts.door⟩

end Sys2Proof.Machine
end


section
/-! ### PROFILE_WRITE (O25) -/

namespace Sys2Proof.Machine

theorem State.clearIntegrity_faulted (s : State) (p : ProfileId) : s.clearIntegrity.faulted p = s.faulted p := by
  cases p <;> rfl

/-- An accepted write ends the faulted mark, and the integrity latch where it records this profile (R174, R176). -/
theorem State.profileWritten_spec (s : State) (p : ProfileId) :
    (s.profileWritten p).eng = s.eng ∧ (s.profileWritten p).soft = s.soft ∧ (s.profileWritten p).dosing = s.dosing ∧
      (s.profileWritten p).door = s.door ∧ (s.profileWritten p).chan = s.chan ∧ (s.profileWritten p).arb = s.arb ∧
      (s.profileWritten p).link = s.link ∧ (s.profileWritten p).faulted p = false ∧
      ∀ e, s.trip.integrity = some e → (s.profileWritten p).trip.integrity =
        if e.table = .profile ∧ e.index = profileCode p then none else some e := by
  have trip : (s.setFaulted p false).trip.integrity = s.trip.integrity := State.setFaulted_integrity s p false
  unfold State.profileWritten
  dsimp only
  split
  · rename_i e he
    rw [trip] at he
    split
    · rename_i named
      refine ⟨by simp [State.clearIntegrity], by simp [State.clearIntegrity], by simp [State.clearIntegrity],
        by simp [State.clearIntegrity], by simp [State.clearIntegrity], by simp [State.clearIntegrity],
        by simp [State.clearIntegrity], ?_, fun e' h => ?_⟩
      · rw [State.clearIntegrity_faulted, State.setFaulted_faulted]
      · cases he.symm.trans h
        rw [if_pos named]
        rfl
    · rename_i named
      refine ⟨by simp, by simp, by simp, by simp, by simp, by simp, by simp, by simp, fun e' h => ?_⟩
      cases he.symm.trans h
      rw [if_neg named, trip, h]
  · rename_i he
    rw [trip] at he
    exact ⟨by simp, by simp, by simp, by simp, by simp, by simp, by simp, by simp,
      fun e h => nomatch he.symm.trans h⟩

theorem State.writeMachine_spec (s : State) (p : MachineProfile) :
    (s.writeMachine p).eng = { s.eng with
        profile := { contents := p, sound := true }
        queue := s.eng.queue.map (fun q => q.lowerSetpoint p.maxSetpoint) } ∧
      (s.writeMachine p).trip.faultedMachine = false ∧ (s.writeMachine p).machine = p ∧
      (∀ e, s.trip.integrity = some e → (s.writeMachine p).trip.integrity =
        if e.table = .profile ∧ e.index = 0 then none else some e) ∧
      (s.writeMachine p).chan = s.chan ∧ (s.writeMachine p).soft = s.soft ∧ (s.writeMachine p).dosing = s.dosing ∧
      (s.writeMachine p).door = s.door ∧ (s.writeMachine p).link = s.link := by
  obtain ⟨x, hx⟩ : ∃ x, x = State.profileWritten { s with eng.profile := { contents := p, sound := true } } .machine := ⟨_, rfl⟩
  obtain ⟨eng, soft, dosing, door, chan, arb, link, faulted, integrity⟩ :=
    State.profileWritten_spec { s with eng.profile := { contents := p, sound := true } } .machine
  rw [← hx] at eng soft dosing door chan arb link faulted integrity
  have e : s.writeMachine p = x.lowerQueuedSetpoints.markEval := by rw [hx]; rfl
  have mark : x.trip.faultedMachine = false := faulted
  have machine : x.machine = p := by
    rw [State.machine, mark, eng]
    rfl
  rw [e]
  refine ⟨?_, mark, ?_, integrity, chan, soft, dosing, door, link⟩
  · simp only [State.markEval, State.lowerQueuedSetpoints, machine, eng]
  · rw [← machine]
    rfl

/-- With the softener profile in effect the start of a regeneration finds nothing. -/
theorem State.startRegen_trip {s : State} (h : s.inEffect .softener) (c : Side) : (s.startRegen c).trip = s.trip := by
  obtain ⟨x, hx⟩ : ∃ x : State, x = State.setColumn { s with
    soft.regen := some { column := c, stage := .brine, flowing := false, volume := 0, soakTimer := 0 } } c
      { s.column c with state := .brine, saltReduced := s.soft.saltLow } := ⟨_, rfl⟩
  have inX : x.inEffect .softener := by
    rw [hx]
    exact (((State.softens.refl s).record { s.soft with
      regen := some { column := c, stage := .brine, flowing := false, volume := 0, soakTimer := 0 } } rfl).setColumn c _).inEffect h
  have trip : x.trip = s.trip := by rw [hx]; simp
  have salt : x.soft.saltLow = s.soft.saltLow := by rw [hx]; cases c <;> rfl
  have started : s.startRegen c = (if s.soft.saltLow then
      (x.useProfile .softener).post .regenSaltLow 3 (sideCode c) (restoredCapacity (x.useProfile .softener).softener true)
    else x).regenRequestPath := by
    rw [← salt, hx]
    rfl
  rw [started, (State.routes.regenRequestPath _).trip, State.useProfile_of_inEffect inX]
  split
  · exact trip
  · exact trip

theorem State.autoCheck_trip {s : State} (h : s.inEffect .softener) : s.autoCheck.trip = s.trip := by
  rcases s.autoCheck_cases with e | ⟨-, e⟩ | ⟨c, -, -, -, e⟩
  · rw [e]
  · rw [e, State.useProfile_of_inEffect h]
  · rw [e, State.useProfile_of_inEffect h, State.startRegen_trip h]

theorem State.writeSoftener_spec (s : State) (p : SoftenerProfile) :
    (s.writeSoftener p).soft.profile = { contents := p, sound := true } ∧
      (s.writeSoftener p).trip.faultedSoftener = false ∧ (s.writeSoftener p).softener = p ∧
      (∀ c, ((s.writeSoftener p).column c).cap = (s.column c).cap ∧
        ((s.writeSoftener p).column c).due = decide ((s.column c).cap ≤ p.reserve)) ∧
      (∀ e, s.trip.integrity = some e → (s.writeSoftener p).trip.integrity =
        if e.table = .profile ∧ e.index = 1 then none else some e) ∧
      (s.writeSoftener p).chan = s.chan ∧ (s.writeSoftener p).eng = s.eng ∧ (s.writeSoftener p).dosing = s.dosing ∧
      (s.writeSoftener p).door = s.door := by
  obtain ⟨x, hx⟩ : ∃ x, x = State.profileWritten { s with soft.profile := { contents := p, sound := true } } .softener :=
    ⟨_, rfl⟩
  obtain ⟨eng, soft, dosing, door, chan, arb, link, faulted, integrity⟩ :=
    State.profileWritten_spec { s with soft.profile := { contents := p, sound := true } } .softener
  rw [← hx] at eng soft dosing door chan arb link faulted integrity
  have mark : x.trip.faultedSoftener = false := faulted
  have softener : x.softener = p := by
    rw [State.softener, mark, soft]
    rfl
  have column : ∀ c, x.column c = s.column c := fun c => by cases c <;> simp [State.column, soft]
  have judged : ∀ c, x.judgeDueFlags.column c = (s.column c).judgeDue p.reserve := fun c => by
    rw [← column, ← softener]
    cases c <;> rfl
  have sound : x.judgeDueFlags.soft.profile.sound = true := by
    show x.soft.profile.sound = true
    rw [soft]
  have inX : x.judgeDueFlags.inEffect .softener := .inr sound
  have acts := (State.softens.refl x.judgeDueFlags).autoCheck
  have trip : x.judgeDueFlags.autoCheck.trip = x.trip := State.autoCheck_trip inX
  have e : s.writeSoftener p = x.judgeDueFlags.autoCheck := by rw [hx]; rfl
  have profile : x.judgeDueFlags.autoCheck.soft.profile = { contents := p, sound := true } := by
    rw [acts.profile]
    show x.soft.profile = _
    rw [soft]
  rw [e]
  refine ⟨profile, by rw [trip, mark], ?_, fun c => ?_, fun i hi => by rw [trip]; exact integrity i hi, acts.chan.trans chan,
    acts.eng.trans eng, acts.dosing.trans dosing, acts.door.trans door⟩
  · rw [State.softener, trip, mark, profile]
    rfl
  · obtain ⟨cap, due, -⟩ := State.autoCheck_column inX c
    rw [cap, due, judged]
    exact ⟨rfl, rfl⟩

theorem profileCode_of_selector {sel : Byte} {r : Reservoir} (h : reservoirOfSelector sel = some r) :
    profileCode (dosingProfileId r) = sel.toNat := by
  unfold reservoirOfSelector at h
  split at h
  · rename_i e
    cases h
    rw [e]
    rfl
  · split at h
    · rename_i e
      cases h
      rw [e]
      rfl
    · cases h

theorem reservoirOfSelector_eq_none {sel : Byte} (h : 4 ≤ sel.toNat) : reservoirOfSelector sel = none := by
  have h2 : sel ≠ 2 := by rintro rfl; exact absurd h (by decide)
  have h3 : sel ≠ 3 := by rintro rfl; exact absurd h (by decide)
  unfold reservoirOfSelector
  rw [if_neg h2, if_neg h3]

theorem State.reservoir_of_dosing {s t : State} (h : t.dosing = s.dosing) (r : Reservoir) : t.reservoir r = s.reservoir r := by
  cases r <;> simp [State.reservoir, h]

theorem State.writeDosing_spec (s : State) (r : Reservoir) (p : DosingProfile) :
    (s.writeDosing r p).reservoir r = { s.reservoir r with
        profile := { contents := p, sound := true }
        estimate := min (s.reservoir r).estimate p.capacity } ∧
      (s.writeDosing r p).faulted (dosingProfileId r) = false ∧ (s.writeDosing r p).dosingProfile r = p ∧
      (∀ e, s.trip.integrity = some e → (s.writeDosing r p).trip.integrity =
        if e.table = .profile ∧ e.index = profileCode (dosingProfileId r) then none else some e) ∧
      (∀ q, q ≠ r → (s.writeDosing r p).reservoir q = s.reservoir q) ∧
      (s.writeDosing r p).dosing.dose = s.dosing.dose ∧ (s.writeDosing r p).chan = s.chan ∧
      (s.writeDosing r p).eng = s.eng ∧ (s.writeDosing r p).soft = s.soft ∧ (s.writeDosing r p).door = s.door ∧
      (s.writeDosing r p).arb = s.arb ∧ (s.writeDosing r p).link = s.link := by
  obtain ⟨w, hw⟩ : ∃ w, w = s.setReservoir r { s.reservoir r with profile := { contents := p, sound := true } } := ⟨_, rfl⟩
  obtain ⟨x, hx⟩ : ∃ x, x = w.profileWritten (dosingProfileId r) := ⟨_, rfl⟩
  obtain ⟨eng, soft, dosing, door, chan, arb, link, faulted, integrity⟩ := w.profileWritten_spec (dosingProfileId r)
  rw [← hx] at eng soft dosing door chan arb link faulted integrity
  have e : s.writeDosing r p = x.lowerEstimate r := by
    rw [hx, hw]
    cases r <;> rfl
  have own : x.reservoir r = { s.reservoir r with profile := { contents := p, sound := true } } := by
    rw [State.reservoir_of_dosing dosing, hw, State.setReservoir_reservoir, if_pos rfl]
  have profile : x.dosingProfile r = p := by
    rw [State.dosingProfile, faulted, own]
    rfl
  have low : x.lowerEstimate r = x.setReservoir r { s.reservoir r with
      profile := { contents := p, sound := true }, estimate := min (s.reservoir r).estimate p.capacity } := by
    unfold State.lowerEstimate
    rw [profile, own]
  have trip : (x.lowerEstimate r).trip = x.trip := by rw [low]; simp
  have mark : (x.lowerEstimate r).faulted (dosingProfileId r) = false := by
    rw [← faulted]
    cases r <;> simp [State.faulted, dosingProfileId, trip]
  have ownLow : (x.lowerEstimate r).reservoir r = { s.reservoir r with
      profile := { contents := p, sound := true }, estimate := min (s.reservoir r).estimate p.capacity } := by
    rw [low, State.setReservoir_reservoir, if_pos rfl]
  rw [e]
  refine ⟨ownLow, mark, ?_, fun i hi => ?_, fun q hq => ?_, ?_, ?_, ?_, ?_, ?_, ?_, ?_⟩
  · rw [State.dosingProfile, mark, ownLow]
    rfl
  · rw [trip]
    exact integrity i (by rw [hw]; simpa using hi)
  · rw [low, State.setReservoir_reservoir, if_neg hq, State.reservoir_of_dosing dosing, hw, State.setReservoir_reservoir,
      if_neg hq]
  · have keep : ∀ (t : State) (y : ReservoirState), (t.setReservoir r y).dosing.dose = t.dosing.dose := fun t y => by
      cases r <;> rfl
    rw [low, keep, dosing, hw, keep]
  · rw [low, State.setReservoir_chan, chan, hw, State.setReservoir_chan]
  · rw [low, State.setReservoir_eng, eng, hw, State.setReservoir_eng]
  · rw [low, State.setReservoir_soft, soft, hw, State.setReservoir_soft]
  · rw [low, State.setReservoir_door, door, hw, State.setReservoir_door]
  · rw [low, State.setReservoir_arb, arb, hw, State.setReservoir_arb]
  · rw [low, State.setReservoir_link, link, hw, State.setReservoir_link]

/-- Settles O25, by the specifications of the three writes and the refusals in their order. -/
theorem profileWriteReplaces : Obligations.ProfileWriteReplaces := by
  intro s h
  refine ⟨fun fields p hl hp he => ?_, fun fields p hl hp hh hr => ?_, fun sel r fields p hs hl hp hd => ?_,
    fun fields hl he => ?_, fun fields hl hb => ?_, fun sel r fields hs hl hd => ?_, fun fields hl =>
    ⟨fun hb => ?_, fun hb => ?_, fun sel hb => ?_⟩⟩
  · have judged : judgeWriteMachine (0 :: fields) s = acceptBare (s.writeMachine p) := by
      simp [judgeWriteMachine, hl, machineLength, he, hp]
    exact ⟨s.writeMachine p, by rw [exec_of_accept rfl h (by simp [hl]) judged], s.writeMachine_spec p⟩
  · have judged : judgeWriteSoftener (1 :: fields) s = acceptBare (s.writeSoftener p) := by
      simp [judgeWriteSoftener, hl, softenerLength, hh, hr, hp]
    exact ⟨s.writeSoftener p, by rw [exec_of_accept rfl h (by simp [hl]) judged], s.writeSoftener_spec p⟩
  · have judged : judgeWriteDosing (sel :: fields) s = acceptBare (s.writeDosing r p) := by
      simp [judgeWriteDosing, hs, hl, dosingLength, hd, hp]
    obtain ⟨own, mark, profile, integrity, other, dose, chan, eng, soft, door, arb, link⟩ := s.writeDosing_spec r p
    have still : (s.writeDosing r p).settled := by unfold State.settled; rw [arb]; exact h.2
    refine ⟨s.writeDosing r p, by rw [exec_of_accept_settled rfl h (by simp [hl]) judged still], own, mark, profile,
      fun e he => ?_, other, dose.trans hd, chan, eng, soft, door, arb, link⟩
    rw [← profileCode_of_selector hs]
    exact integrity e he
  · exact exec_of_refuse (judge := judgeWriteMachine (0 :: fields)) rfl h (by simp [hl])
      (by simp [judgeWriteMachine, hl, machineLength, he])
  · have busy : s.soft.holder ≠ .none ∨ s.soft.regen.isSome = true := hb.imp_right Option.isSome_iff_ne_none.mpr
    exact exec_of_refuse (judge := judgeWriteSoftener (1 :: fields)) rfl h (by simp [hl])
      (by simp only [judgeWriteSoftener, hl, softenerLength, and_self, if_true, if_pos busy])
  · exact exec_of_refuse (judge := judgeWriteDosing (sel :: fields)) rfl h (by simp [hl])
      (by simp [judgeWriteDosing, hs, hl, dosingLength, Option.isSome_iff_ne_none.mpr hd])
  · refine exec_of_refuse (judge := judgeWriteMachine (0 :: fields)) rfl h (by simp; omega) ?_
    rcases hb with hb | ⟨he, hb⟩
    · simp [judgeWriteMachine, hb, machineLength]
    · simp [judgeWriteMachine, he, hb]
  · refine exec_of_refuse (judge := judgeWriteSoftener (1 :: fields)) rfl h (by simp; omega) ?_
    rcases hb with hb | ⟨hh, hr, hb⟩
    · simp [judgeWriteSoftener, hb, softenerLength]
    · simp [judgeWriteSoftener, hh, hr, hb]
  · refine exec_of_refuse (judge := judgeWriteDosing (sel :: fields)) rfl h (by simp; omega) ?_
    rcases hb with hb | hb | ⟨hd, hb⟩
    · simp [judgeWriteDosing, reservoirOfSelector_eq_none hb]
    · cases hs : reservoirOfSelector sel <;> simp [judgeWriteDosing, hs, hb, dosingLength]
    · cases hs : reservoirOfSelector sel <;> simp [judgeWriteDosing, hs, hd, hb]

end Sys2Proof.Machine
end

section
/-! ### BANK_SWAP (R4, R5, R147, R174, R195) -/

namespace Sys2Proof.Machine

theorem State.post_mode (s : State) (k : NoticeKind) (l n : Nat) (v : Int) : (s.post k l n v).link.mode = s.link.mode :=
  State.of_outer (fun x => x.link.mode) (State.outer_post ..)

/-- What telling a block of a lost role or of a switch does to the rest of the part (R17, R18, R168). -/
structure State.tells (s t : State) : Prop where
  chan : t.chan = s.chan
  active : t.arb.active = s.arb.active
  shadow : t.arb.shadow = s.arb.shadow
  mode : t.link.mode = s.link.mode
  tableMark : t.trip.tableMark = s.trip.tableMark
  evalDue : s.arb.evalDue = true → t.arb.evalDue = true
  sound : (∀ p, s.inEffect p) →
    (∀ p, t.inEffect p) ∧ t.trip.integrity = s.trip.integrity ∧ t.trip.more = s.trip.more

namespace State.tells

variable {s t u : State}

theorem refl (s : State) : s.tells s := ⟨rfl, rfl, rfl, rfl, rfl, id, fun h => ⟨h, rfl, rfl⟩⟩

theorem trans (h : s.tells t) (g : t.tells u) : s.tells u :=
  ⟨g.chan.trans h.chan, g.active.trans h.active, g.shadow.trans h.shadow, g.mode.trans h.mode,
    g.tableMark.trans h.tableMark, g.evalDue ∘ h.evalDue, fun e => by
      obtain ⟨he, integrity, more⟩ := h.sound e
      obtain ⟨ge, integrity', more'⟩ := g.sound he
      exact ⟨ge, integrity'.trans integrity, more'.trans more⟩⟩

/-- An operation that leaves the tables and the trip unit alone, and every profile as sound as it was. -/
theorem of_trip (chan : t.chan = s.chan) (active : t.arb.active = s.arb.active) (shadow : t.arb.shadow = s.arb.shadow)
    (mode : t.link.mode = s.link.mode) (trip : t.trip = s.trip) (evalDue : s.arb.evalDue = true → t.arb.evalDue = true)
    (profiles : ∀ p, t.profileSound p = s.profileSound p) : s.tells t :=
  ⟨chan, active, shadow, mode, by rw [trip], evalDue, fun e =>
    ⟨fun p => by
      have := e p
      unfold State.inEffect State.faulted at this ⊢
      rwa [trip, profiles p], by rw [trip], by rw [trip]⟩⟩

theorem markEval (s : State) : s.tells s.markEval := of_trip rfl rfl rfl rfl rfl (fun _ => rfl) (fun p => by cases p <;> rfl)

theorem release (s : State) (l : LoadId) : s.tells (s.release l) := by
  unfold State.release
  split
  · exact of_trip rfl rfl rfl rfl rfl (fun _ => rfl) (fun p => by cases p <;> rfl)
  · exact refl s

theorem engineTempLost (s : State) : s.tells s.engineTempLost := by
  have head : s.tells (s.withHead (fun h => { h with thermostat := false })) :=
    of_trip rfl rfl rfl rfl rfl id (fun p => by cases p <;> rfl)
  unfold State.engineTempLost
  split
  · exact head.trans (release _ .heater)
  · exact refl s

theorem setLatch (s : State) {c : Cause} (hc : c.reason ≠ .table) : s.tells (s.setLatch c) := by
  obtain ⟨u, ns, hended, -, he⟩ := s.setLatch_spec c
  have ho := State.outer_setLatch s c
  have trip : (s.setLatch c).trip = u.trip := (congrArg (fun x : State => x.trip) he :)
  have faulted : ∀ p, (s.setLatch c).faulted p = s.faulted p := fun p => by
    unfold State.faulted
    rw [trip, hended.trip]
    rfl
  refine ⟨State.of_outer (fun x => x.chan) ho, State.of_outer (fun x => x.arb.active) ho,
    State.of_outer (fun x => x.arb.shadow) ho, State.of_outer (fun x => x.link.mode) ho, ?_, fun _ => rfl, fun e => ⟨fun p => ?_, ?_, ?_⟩⟩
  · rw [trip, hended.trip]
    simp [State.latched, hc]
  · unfold State.inEffect
    rw [faulted]
    have sound : (s.setLatch c).profileSound p = s.profileSound p := by
      cases p
      · exact State.of_outer (fun x => x.eng.profile.sound) ho
      · exact State.of_outer (fun x => x.soft.profile.sound) ho
      · exact State.of_outer (fun x => x.dosing.det.profile.sound) ho
      · exact State.of_outer (fun x => x.dosing.rinse.profile.sound) ho
    rw [sound]
    exact e p
  · rw [trip, hended.trip]
    rfl
  · rw [trip, hended.trip]
    rfl

theorem tripCause (s : State) {c : Cause} (hc : c.reason ≠ .table) : s.tells (s.tripCause c) := by
  have quiet : s.tells (s.restartQuiet c) := by
    unfold State.restartQuiet
    split
    · exact ⟨rfl, rfl, rfl, rfl, rfl, id, fun e => ⟨fun p => by have := e p; cases p <;> exact this, rfl, rfl⟩⟩
    · exact refl s
  unfold State.tripCause
  dsimp only
  generalize s.restartQuiet c = q at quiet ⊢
  split
  · exact quiet
  · split
    · split
      · exact quiet.trans ⟨rfl, rfl, rfl, rfl, rfl, id, fun e => ⟨fun p => by have := e p; cases p <;> exact this, rfl, rfl⟩⟩
      · exact quiet
    · exact quiet.trans (setLatch q hc)

theorem judgeLoss (s : State) (r : Role) (src : Option Nat) (v : Int) : s.tells (s.judgeLoss r src v) := by
  unfold State.judgeLoss
  split
  · exact tripCause s nofun
  · exact refl s

theorem leakChange (s : State) (b : Bool) : s.tells (s.leakChange b) := by
  have told : s.tells { s with trip.leakTold := b } :=
    ⟨rfl, rfl, rfl, rfl, rfl, id, fun e => ⟨fun p => by have := e p; cases p <;> exact this, rfl, rfl⟩⟩
  unfold State.leakChange
  dsimp only
  split
  · exact told.trans (tripCause _ nofun)
  · exact told

theorem setReservoir (s : State) (r : Reservoir) (x : ReservoirState) (h : x.profile = (s.reservoir r).profile) :
    s.tells (s.setReservoir r x) :=
  of_trip (by simp) (by simp) (by simp) (by simp) (by simp) (by simp) (fun p => by
    cases p <;> cases r <;> simp_all [State.profileSound, State.setReservoir, State.reservoir])

theorem useDosing (s : State) (r : Reservoir) : s.tells (s.useProfile (dosingProfileId r)) := by
  by_cases e : s.inEffect (dosingProfileId r)
  · rw [State.useProfile_of_inEffect e]
    exact refl s
  · have found := s.integrityError_findsError .profile none (profileCode (dosingProfileId r))
    obtain ⟨ns, posts⟩ := found.posts
    rw [State.useProfile_of_damaged e]
    have mode : (s.integrityError .profile none (profileCode (dosingProfileId r))).link.mode = s.link.mode := by
      rw [posts]
      exact (congrArg LinkUnit.mode (LinkUnit.posts_rest ns s.link) :)
    generalize s.integrityError .profile none (profileCode (dosingProfileId r)) = t at found mode
    have mark : t.trip.tableMark = s.trip.tableMark := (congrArg (fun x : State => x.trip.tableMark) found.rest :)
    cases r <;>
      exact ⟨found.chan, by rw [← found.arb]; rfl, by rw [← found.arb]; rfl, (State.post_mode ..).trans mode, mark, by rw [← found.arb]; exact id,
        fun h => absurd (h _) e⟩

theorem lowCorrection (s : State) (r : Reservoir) : s.tells (s.lowCorrection r) := by
  have used := useDosing s r
  unfold State.lowCorrection
  dsimp only
  generalize s.useProfile (dosingProfileId r) = t at used ⊢
  obtain ⟨x, hx⟩ : ∃ x : ReservoirState, x =
    { t.reservoir r with estimate := min (t.reservoir r).estimate (t.dosingProfile r).lowMark, lowSeen := true } := ⟨_, rfl⟩
  have lowered := used.trans (setReservoir t r x (by rw [hx]))
  rw [← hx]
  split
  · exact lowered
  · exact lowered.trans (of_trip rfl rfl rfl (State.post_mode ..) rfl id (fun p => by cases p <;> rfl))

theorem lowTold (s : State) (r : Reservoir) (b : Bool) : s.tells (s.lowTold r b) := by
  have told := setReservoir s r { s.reservoir r with lowTold := b } rfl
  unfold State.lowTold
  dsimp only
  split
  · exact told.trans (lowCorrection ..)
  · exact told

theorem tellSwitch (s : State) (r : Role) : s.tells (s.tellSwitch r) := by
  unfold State.tellSwitch
  dsimp only
  split
  · split
    · exact refl s
    · exact leakChange ..
  · exact of_trip rfl rfl rfl rfl rfl id (fun p => by cases p <;> rfl)
  · split
    · exact refl s
    · exact lowTold ..
  · split
    · exact refl s
    · exact lowTold ..
  · exact refl s

theorem tellLost (s : State) (r : Role) (b : Freshness) (src : Option Nat) (v : Int) : s.tells (s.tellLost r b src v) := by
  have told : s.tells (if b = .fresh then s.engineTempLost else s) := by
    split
    · exact engineTempLost s
    · exact refl s
  unfold State.tellLost
  dsimp only
  generalize (if b = .fresh then s.engineTempLost else s) = t at told ⊢
  split
  · split
    · exact told.trans (judgeLoss ..)
    · exact told
  · split
    · exact (markEval s).trans (judgeLoss ..)
    · exact markEval s
  · exact tellSwitch ..

theorem tellSwap (old s : State) (r : Role) : s.tells (State.tellSwap old s r) := by
  unfold State.tellSwap
  split
  · exact tellSwitch ..
  · exact tellSwitch ..
  · exact tellSwitch ..
  · exact tellSwitch ..
  · dsimp only
    split
    · exact tellLost ..
    · exact refl s

theorem tellSwaps (old : State) (rs : List Role) (s : State) : s.tells (rs.foldl (State.tellSwap old) s) := by
  induction rs generalizing s with
  | nil => exact refl s
  | cons r rs ih => exact (tellSwap old s r).trans (ih _)

end State.tells

end Sys2Proof.Machine
end

section
/-! ### BANK_SWAP: the tables of the mask (O24) -/

namespace Sys2Proof.Machine

/-- The tables that an integrity error of this kind belongs to are in the mask (R174). -/
def SwapMask.names (m : SwapMask) : TableId → Bool
  | .channel => m.channels
  | .curve => m.curves
  | .load => m.loads
  | .profile => false

/-- The tables of the mask have swapped, and nobody has been told yet (R5, R147). -/
def State.swapTables (s : State) (m : SwapMask) : State :=
  let s := s.beginLosses
  let s := if m.curves then { s with chan := s.chan.swapCurves } else s
  let s := if m.channels then { s with chan := s.chan.swapChannels } else s
  if m.loads then
    State.markEval { s with arb := { s.arb with active := s.arb.shadow }, trip := { s.trip with tableMark := false } }
  else s

theorem State.swap_eq (s : State) (m : SwapMask) :
    s.swap m = if m.channels then allRoles.foldl (State.tellSwap s) ((s.swapTables m).swapIntegrity m)
      else (s.swapTables m).swapIntegrity m := rfl

theorem ChannelUnit.swapChannels_run (c : ChannelUnit) (i : Fin 32) :
    c.swapChannels.run[i] =
      if rebound c.active[i].contents c.shadow[i].contents c.run[i] then State.reset.chan.run[i] else c.run[i] := by
  have blank : State.reset.chan.run[i] = .blank := Vector.getElem_replicate ..
  rw [blank]
  exact Vector.getElem_ofFn ..

/-- What the swap of the tables does before anyone is told (R2, R5, R147). -/
theorem State.swapTables_spec (s : State) (m : SwapMask) :
    (s.swapTables m).chan.active = (if m.channels then s.chan.shadow else s.chan.active) ∧
      (s.swapTables m).chan.shadow = s.chan.shadow ∧
      (s.swapTables m).chan.curves = (if m.curves then rejudge s.chan.curvesShadow else s.chan.curves) ∧
      (s.swapTables m).arb.active = (if m.loads then s.arb.shadow else s.arb.active) ∧
      (s.swapTables m).arb.shadow = s.arb.shadow ∧
      (∀ i : Fin 32, (s.swapTables m).chan.run[i] =
        if m.channels && rebound s.chan.active[i].contents s.chan.shadow[i].contents s.chan.run[i] then
          State.reset.chan.run[i] else s.chan.run[i]) ∧
      (m.loads = true → (s.swapTables m).arb.evalDue = true ∧ (s.swapTables m).trip.tableMark = false) := by
  obtain ⟨channels, curves, loads⟩ := m
  cases channels with
  | false => cases curves <;> cases loads <;> exact ⟨rfl, rfl, rfl, rfl, rfl, fun _ => rfl, by simp [State.swapTables, State.markEval]⟩
  | true =>
    have run : ∀ i : Fin 32, (s.swapTables { channels := true, curves := curves, loads := loads }).chan.run[i] =
        if true && rebound s.chan.active[i].contents s.chan.shadow[i].contents s.chan.run[i] then
          State.reset.chan.run[i] else s.chan.run[i] := fun i => by
      rw [Bool.true_and, ← ChannelUnit.swapChannels_run]
      cases curves <;> cases loads <;> rfl
    cases curves <;> cases loads <;> exact ⟨rfl, rfl, rfl, rfl, rfl, run, by simp [State.swapTables, State.markEval]⟩

/-- Everything that the swap of the tables leaves alone. -/
theorem State.swapTables_rest (s : State) (m : SwapMask) :
    s.swapTables m = { s with
      chan := (s.swapTables m).chan
      arb := (s.swapTables m).arb
      trip := { s.trip with tableMark := (s.swapTables m).trip.tableMark, lossOpen := false } } := by
  obtain ⟨channels, curves, loads⟩ := m
  cases channels <;> cases curves <;> cases loads <;> rfl

theorem State.swapIntegrity_of_none {s : State} (h : s.trip.integrity = none) (m : SwapMask) : s.swapIntegrity m = s := by
  unfold State.swapIntegrity
  rw [h]

theorem State.swapIntegrity_of_some {s : State} {e : IntegrityError} (h : s.trip.integrity = some e) (m : SwapMask) :
    s.swapIntegrity m = if m.names e.table then s.clearIntegrity else s := by
  unfold State.swapIntegrity
  rw [h]
  obtain ⟨table, bank, index⟩ := e
  cases table <;> rfl

theorem State.swapIntegrity_rest (s : State) (m : SwapMask) :
    s.swapIntegrity m = { s with trip := { s.trip with
      integrity := (s.swapIntegrity m).trip.integrity, more := (s.swapIntegrity m).trip.more } } := by
  cases h : s.trip.integrity with
  | none => rw [State.swapIntegrity_of_none h]
  | some e =>
    rw [State.swapIntegrity_of_some h]
    split
    · rfl
    · rfl

/-- Telling follows a swap of the channels alone, and changes none of what the swap has set. -/
theorem State.swap_tells (s : State) (m : SwapMask) : ((s.swapTables m).swapIntegrity m).tells (s.swap m) := by
  rw [State.swap_eq]
  split
  · exact State.tells.tellSwaps ..
  · exact State.tells.refl _

theorem State.swap_inEffect {s : State} (h : ∀ p, s.inEffect p) (m : SwapMask) (p : ProfileId) :
    ((s.swapTables m).swapIntegrity m).inEffect p := by
  have := h p
  rw [State.swapIntegrity_rest, State.swapTables_rest]
  cases p <;> exact this

theorem State.swapFailure_of_offending {s : State} {m : SwapMask} {i : Fin 32} (h : (m.channels || m.curves) = true)
    (ho : offending (s.governingChannels m) (s.governingCurves m) = some i) :
    s.swapFailure m = some (.tableInvalid, [0, BitVec.ofNat 8 i.val]) := by
  simp [State.swapFailure, h, ho, tableCode, u8]

section
variable {s : State} {m : SwapMask}
  (none : (m.channels || m.curves) = true → offending (s.governingChannels m) (s.governingCurves m) = none)
include none

theorem State.swapFailure_of_unbound (hm : (m.channels || m.curves) = true) (hr : s.link.mode = .run)
    (hb : bindsForRun (s.governingChannels m) = false) : s.swapFailure m = some (.wrongMode, []) := by
  simp [State.swapFailure, hm, none hm, hr, hb]

variable (bound : (m.channels || m.curves) = true → s.link.mode = .run → bindsForRun (s.governingChannels m) = true)
include bound

theorem State.swapFailure_loads :
    s.swapFailure m = (if m.loads then loadFailure s.arb.shadow else .none).map
      (fun id => (.tableInvalid, [2, BitVec.ofNat 8 id])) := by
  have first : (if (m.channels || m.curves) = true then offending (s.governingChannels m) (s.governingCurves m) else .none)
      = .none := by
    split
    · exact none ‹_›
    · rfl
  have second : ((m.channels || m.curves) && decide (s.link.mode = .run) && !bindsForRun (s.governingChannels m)) = false := by
    by_cases hm : (m.channels || m.curves) = true
    · by_cases hr : s.link.mode = .run
      · simp [bound hm hr]
      · simp [hr]
    · simp [hm]
  unfold State.swapFailure
  simp only [first, second]
  cases (if m.loads = true then loadFailure s.arb.shadow else .none) <;> rfl

end

theorem readMask_eq_none_iff (b : Byte) : readMask b = none ↔ b.toNat = 0 ∨ 8 ≤ b.toNat := by
  unfold readMask
  split
  · simp
    omega
  · simp
    omega

theorem exec_bankSwap_refuse {s : State} {b : Byte} {m : SwapMask} {st : Status} {bytes : List Byte} (h : s.ready)
    (hm : readMask b = some m) (hf : s.swapFailure m = some (st, bytes)) :
    exec (.bankSwap [b]) s = .next (s.respond 0x03 st bytes) :=
  exec_of_refuseWith (by rfl) h (by simp) (by simp only [judgeBankSwap, hm, hf])

theorem exec_bankSwap_accept {s : State} {b : Byte} {m : SwapMask} (h : s.ready) (hm : readMask b = some m)
    (hf : s.swapFailure m = none) : exec (.bankSwap [b]) s = .next ((s.swap m).settle.respond 0x03 .ok [b]) := by
  rw [exec_of_accept (e := rfl) (h := h) (hp := by simp) (hj := by simp only [judgeBankSwap, hm, hf]; rfl)]

/-- Settles O24, by the order of the refusals, the swap of the tables, and what telling the blocks leaves alone. -/
theorem bankSwapByMask : Obligations.BankSwapByMask := by
  refine ⟨fun s b h => ⟨readMask_eq_none_iff b, fun e => ?_⟩, fun s b m h hm => ⟨fun i hc ho => ?_, fun sound => ⟨?_, fun bound => ⟨?_, fun loads => ?_⟩⟩⟩⟩
  · exact exec_of_refuse (by rfl) h (by simp) (by simp only [judgeBankSwap, e])
  · exact exec_bankSwap_refuse h hm (State.swapFailure_of_offending hc ho)
  · rintro ⟨hc, hr, hb⟩
    exact exec_bankSwap_refuse h hm (State.swapFailure_of_unbound sound hc hr hb)
  · intro id hl hf
    refine exec_bankSwap_refuse h hm ?_
    rw [State.swapFailure_loads sound bound, if_pos hl, hf]
    rfl
  · have accepted : s.swapFailure m = none := by
      rw [State.swapFailure_loads sound bound]
      split
      · rw [loads ‹_›]
        rfl
      · rfl
    refine ⟨s.swap m, exec_bankSwap_accept h hm accepted, ?_⟩
    obtain ⟨active, shadow, curves, armed, armedShadow, run, due⟩ := s.swapTables_spec m
    have told := s.swap_tells m
    have rest := (s.swapTables m).swapIntegrity_rest m
    have chan : (s.swap m).chan = (s.swapTables m).chan :=
      told.chan.trans (congrArg (fun x : State => x.chan) rest :)
    have arb : ((s.swapTables m).swapIntegrity m).arb = (s.swapTables m).arb := (congrArg (fun x : State => x.arb) rest :)
    have mode : ((s.swapTables m).swapIntegrity m).link.mode = s.link.mode := by
      rw [rest, State.swapTables_rest]
    have latch : s.trip.integrity = (s.swapTables m).trip.integrity := by rw [State.swapTables_rest]
    refine ⟨by rw [chan, active], by rw [chan, shadow], by rw [chan, curves], by rw [told.active, arb, armed],
      by rw [told.shadow, arb, armedShadow], State.swap_bus s m, told.mode.trans mode, fun i => by rw [← run i]; congr 2,
      fun hl => ⟨told.evalDue ?_, ?_⟩, fun hc => ?_, fun inEffect => ⟨fun e => ?_, fun e he => ?_⟩⟩
    · rw [arb]
      exact (due hl).1
    · rw [told.tableMark, rest]
      exact (due hl).2
    · rw [State.swap_eq, if_neg (by simp [hc]), rest, State.swapTables_rest]
      exact ⟨rfl, rfl, rfl, rfl, rfl, rfl⟩
    · obtain ⟨-, integrity, -⟩ := told.sound (State.swap_inEffect inEffect m)
      rw [integrity, State.swapIntegrity_of_none (latch.symm.trans e), ← latch, e]
    · obtain ⟨-, integrity, more⟩ := told.sound (State.swap_inEffect inEffect m)
      rw [latch] at he
      rw [integrity, more, State.swapIntegrity_of_some he]
      obtain ⟨table, bank, index⟩ := e
      have named : ∀ b, ((if b = true then (s.swapTables m).clearIntegrity else s.swapTables m).trip.integrity =
            if b = true then none else some { table := table, bank := bank, index := index }) ∧
          (b = true → (if b = true then (s.swapTables m).clearIntegrity else s.swapTables m).trip.more = false) := fun b => by
        cases b
        · exact ⟨he, nofun⟩
        · exact ⟨rfl, fun _ => rfl⟩
      cases table <;> exact named _

end Sys2Proof.Machine
end

section
/-! ### PHASE_SUBMIT (R41, R43, R45, R187) -/

namespace Sys2Proof.Machine

theorem recordLength_le {kind : Byte} {n : Nat} (h : recordLength kind = some n) : n ≤ 36 := by
  unfold recordLength at h
  split at h
  · cases h; decide
  · split at h
    · cases h; decide
    · split at h
      · cases h; decide
      · cases h

/-- A record of the length of its kind passes the length test of the request, and a frame carries it. -/
theorem recordLengthGood_spec {l : List Byte} (h : recordLengthGood l = true) :
    submitLengthGood l = true ∧ l.length ≤ 36 := by
  unfold recordLengthGood at h
  split at h
  · rename_i tag kind rest
    have len := of_decide_eq_true h
    exact ⟨by simp [submitLengthGood, len], recordLength_le len⟩
  · cases h

theorem State.useMaximum_of_inEffect {s : State} (h : s.inEffect .machine) (p : PhaseRecord) : s.useMaximum p = s := by
  unfold State.useMaximum
  split
  · exact State.useProfile_of_inEffect h
  · rfl

theorem clampSetpoint_zero (n : Nat) : clampSetpoint n 0 = 0 := rfl

theorem clampSetpoint_of_ne {mx x : Nat} (hm : 200 ≤ mx) (hx : x ≠ 0) :
    200 ≤ clampSetpoint mx x ∧ clampSetpoint mx x ≤ mx ∧ (200 ≤ x ∧ x ≤ mx → clampSetpoint mx x = x) := by
  unfold clampSetpoint
  rw [if_neg hx]
  omega

theorem clampNat_spec {lo hi : Nat} (h : lo ≤ hi) (x : Nat) :
    lo ≤ clampNat lo hi x ∧ clampNat lo hi x ≤ hi ∧ (lo ≤ x ∧ x ≤ hi → clampNat lo hi x = x) := by
  unfold clampNat
  omega

theorem PhaseRecord.clamped_of_wash {p : PhaseRecord} {w : WashFields} (h : p.body = .wash w) (mx : Nat) :
    p.clamped mx = { p with
      body := .wash { w with setpoint := clampSetpoint mx w.setpoint, speed := clampNat 30 100 w.speed } } := by
  unfold PhaseRecord.clamped
  rw [h]

theorem PhaseRecord.clamped_of_ne {p : PhaseRecord} (h : ∀ w, p.body ≠ .wash w) (mx : Nat) : p.clamped mx = p := by
  unfold PhaseRecord.clamped
  split
  · rename_i w hw
    exact absurd hw (h w)
  · rfl

theorem PhaseRecord.clamped_spec (p : PhaseRecord) {mx : Nat} (hm : 200 ≤ mx) :
    (p.clamped mx).tag = p.tag ∧ (p.clamped mx).setMask = p.setMask ∧ (p.clamped mx).clearMask = p.clearMask ∧
      (∀ w, p.body = .wash w → ∃ x y, (p.clamped mx).body = .wash { w with setpoint := x, speed := y } ∧
        (w.setpoint = 0 → x = 0) ∧
        (w.setpoint ≠ 0 → 200 ≤ x ∧ x ≤ mx ∧ (200 ≤ w.setpoint ∧ w.setpoint ≤ mx → x = w.setpoint)) ∧
        30 ≤ y ∧ y ≤ 100 ∧ (30 ≤ w.speed ∧ w.speed ≤ 100 → y = w.speed)) ∧
      ((∀ w, p.body ≠ .wash w) → p.clamped mx = p) := by
  have masks : (p.clamped mx).setMask = p.setMask ∧ (p.clamped mx).clearMask = p.clearMask := by
    unfold PhaseRecord.clamped
    split <;> exact ⟨rfl, rfl⟩
  refine ⟨PhaseRecord.clamped_tag .., masks.1, masks.2, fun w hw => ?_, fun h => PhaseRecord.clamped_of_ne h mx⟩
  obtain ⟨low, high, same⟩ := clampNat_spec (lo := 30) (hi := 100) (by decide) w.speed
  exact ⟨_, _, by rw [PhaseRecord.clamped_of_wash hw], fun e => by rw [e, clampSetpoint_zero],
    clampSetpoint_of_ne hm, low, high, same⟩

theorem exec_phaseSubmit_refuse {s : State} {payload : List Byte} {st : Status} (h : s.ready) (hp : payload.length ≤ 59)
    (hj : judgePhaseSubmit payload s = refuse s st) :
    exec (.phaseSubmit payload) s = .next (s.respond 0x10 st []) :=
  exec_of_refuse (by rfl) h hp hj

/-- Settles O28, by the order of the refusals and the clamps of a stored record. -/
theorem phaseSubmitAddsRecord : Obligations.PhaseSubmitAddsRecord := by
  refine ⟨fun s payload p h inEffect good read latch cancelling room fresh => ?_, fun p mx hm => p.clamped_spec hm,
    fun s payload h hp => ⟨fun bad => ?_, fun good => ⟨fun latch => ?_, fun latch => ⟨fun c => ?_, fun c => ⟨fun full => ?_,
      fun room => ⟨fun bad => ?_, fun p read dup => ?_⟩⟩⟩⟩⟩⟩
  · obtain ⟨good, len⟩ := recordLengthGood_spec good
    have unused : s.eng.queue.any (fun q => decide (q.tag = p.tag)) = false := by simpa using fresh
    have submitted : s.submit p = { s with
        eng.queue := s.eng.queue ++ [p.clamped s.machine.maxSetpoint], link.staging := .empty } := by
      unfold State.submit
      rw [State.useMaximum_of_inEffect inEffect]
    rw [exec_of_accept_settled (e := rfl) (h := h) (hp := by omega)
      (hj := by simp [judgePhaseSubmit, good, latch, cancelling, Nat.not_le.mpr room, read, unused]; rfl)
      (hu := by rw [submitted]; exact h.2)]
    rw [submitted]
    simp [u8]
  · exact exec_phaseSubmit_refuse h hp (by simp [judgePhaseSubmit, bad])
  · exact exec_phaseSubmit_refuse h hp (by simp [judgePhaseSubmit, good, latch])
  · exact exec_phaseSubmit_refuse h hp (by simp [judgePhaseSubmit, good, latch, c])
  · exact exec_phaseSubmit_refuse h hp (by simp [judgePhaseSubmit, good, latch, c, full])
  · exact exec_phaseSubmit_refuse h hp (by simp [judgePhaseSubmit, good, latch, c, Nat.not_le.mpr room, bad])
  · have used : s.eng.queue.any (fun q => decide (q.tag = p.tag)) = true := by simpa using dup
    exact exec_phaseSubmit_refuse h hp (by simp only [judgePhaseSubmit, good, latch, c, Nat.not_le.mpr room, read, used]; rfl)

end Sys2Proof.Machine
end

section
/-! ### The selector at trips and regenerations (R86, R109)

A move and its request change only where the selector itself is judged. -/

namespace Sys2Proof.Machine

/-- The selector's move and its request stand. -/
structure State.selectorKept (s t : State) : Prop where
  move : t.soft.move = s.soft.move
  own : (t.load .selectorValve).own = (s.load .selectorValve).own

namespace State.selectorKept

variable {s t u : State}

theorem refl (s : State) : s.selectorKept s := ⟨rfl, rfl⟩

theorem trans (h : s.selectorKept t) (g : t.selectorKept u) : s.selectorKept u :=
  ⟨g.move.trans h.move, g.own.trans h.own⟩

theorem routes (h : s.routes t) : s.selectorKept t :=
  ⟨h.move, by rw [h.loads .selectorValve (by simp [ofPath])]⟩

theorem release (h : s.selectorKept t) {l : LoadId} (hl : l ≠ .selectorValve) : s.selectorKept (t.release l) :=
  h.trans ⟨by simp, by rw [State.release_own, if_neg (Ne.symm hl)]⟩

theorem setColumn (h : s.selectorKept t) (c : Side) (x : Column) : s.selectorKept (t.setColumn c x) :=
  h.trans ⟨by cases c <;> rfl, by rw [State.setColumn_load]⟩

theorem useSoftener (s : State) : s.selectorKept (s.useProfile .softener) := by
  obtain ⟨a, b, soft⟩ := s.useSoftener_soft
  obtain ⟨-, arb⟩ := s.useProfile_eng_arb (p := .softener) nofun
  exact ⟨by rw [soft], by unfold State.load; rw [arb]⟩

theorem startRegen (s : State) (c : Side) : s.selectorKept (s.startRegen c) := by
  refine ⟨(s.startRegen_spec c).2.2.2.1, ?_⟩
  have begun := setColumn (s := s) (t := { s with
    soft.regen := some { column := c, stage := .brine, flowing := false, volume := 0, soakTimer := 0 } }) ⟨rfl, rfl⟩ c
    { s.column c with state := .brine, saltReduced := s.soft.saltLow }
  unfold State.startRegen
  dsimp only
  refine (trans ?_ (routes (.regenRequestPath _))).own
  split
  · exact (begun.trans (useSoftener _)).trans ⟨rfl, rfl⟩
  · exact begun

theorem autoCheck (s : State) : s.selectorKept s.autoCheck := by
  rcases s.autoCheck_cases with e | ⟨-, e⟩ | ⟨c, -, -, -, e⟩
  · rw [e]
    exact refl s
  · rw [e]
    exact useSoftener s
  · rw [e]
    exact (useSoftener s).trans (startRegen ..)

theorem abortRegen (s : State) : s.selectorKept s.abortRegen := by
  unfold State.abortRegen
  split
  · exact refl s
  · have given : s.selectorKept { s.regenGiveBack with soft.regen := none } := trans (routes (.regenGiveBack s)) ⟨rfl, rfl⟩
    exact given.setColumn ..

theorem dropDose (s : State) : s.selectorKept s.dropDose := by
  unfold State.dropDose
  split
  · exact refl s
  · rename_i d _
    have released := release (s := s) (t := { s with dosing.dose := none }) ⟨rfl, rfl⟩ (l := pumpOf d.reservoir)
      (by cases d.reservoir <;> nofun)
    exact ⟨released.move, released.own⟩

theorem dropRequests (h : s.selectorKept t) : s.selectorKept t.releaseEngine.dropDry := by
  have stopped : s.selectorKept t.releaseEngine :=
    ((h.release (l := .heater) nofun).release (l := .circPump) nofun).release (l := .drainPump) nofun
  generalize t.releaseEngine = x at stopped ⊢
  have released := (stopped.release (l := .fan) nofun).release (l := .doorActuator) nofun
  generalize e : (x.release .fan).release .doorActuator = y at released
  have dropped : x.dropDry = { y with door.dry := none } := by rw [← e]; rfl
  rw [dropped]
  exact ⟨released.move, released.own⟩

theorem engineTrip (s : State) : s.selectorKept s.engineTrip := by
  have ended : s.selectorKept (if s.underWay then ((s.fillGiveBack).releaseEngine).dropDry else s) := by
    split
    · exact dropRequests (routes (.fillGiveBack s))
    · exact refl s
  exact ⟨ended.move, ended.own⟩

theorem tripBlocks (s : State) : s.selectorKept s.tripBlocks := by
  have drawn : s.selectorKept s.draw := ⟨rfl, rfl⟩
  unfold State.tripBlocks
  split
  · split
    · exact ((drawn.trans (abortRegen _)).trans (dropDose _)).trans (engineTrip _)
    · exact ((drawn.trans (dropDose _)).trans (engineTrip _)).trans (abortRegen _)
  · exact ((dropDose s).trans (engineTrip _)).trans (abortRegen _)

theorem setLatch (s : State) (c : Cause) : s.selectorKept (s.setLatch c) := by
  have latched : s.selectorKept (s.latched c) := ⟨rfl, rfl⟩
  have flooded : ∀ t : State, t.selectorKept (if c.reason = .flood then { t with arb.flood := true } else t) := fun t => by
    split <;> exact ⟨rfl, rfl⟩
  have posted : ∀ (t : State) (ns : List Notice), t.selectorKept (t.postTripNotices ns).markEval := fun t ns => by
    unfold State.postTripNotices
    split <;> exact ⟨rfl, rfl⟩
  exact ((latched.trans (tripBlocks _)).trans (flooded _)).trans (posted _ _)

theorem tripCause (s : State) (c : Cause) : s.selectorKept (s.tripCause c) := by
  have quiet : s.selectorKept (s.restartQuiet c) := by
    unfold State.restartQuiet
    split <;> exact ⟨rfl, rfl⟩
  unfold State.tripCause
  dsimp only
  generalize s.restartQuiet c = q at quiet ⊢
  split
  · exact quiet
  · split
    · split
      · exact quiet.trans ⟨rfl, rfl⟩
      · exact quiet
    · exact quiet.trans (setLatch q c)

end State.selectorKept

/-! ### What a later cause leaves of a set latch (R171) -/

/-- A set latch keeps its record's first reason. -/
theorem State.tripCause_of_latched {s : State} (h : s.trip.latch = true) (c : Cause) :
    (s.tripCause c).trip.latch = true ∧ (s.tripCause c).trip.record.reason = s.trip.record.reason := by
  have quiet : (s.restartQuiet c).trip.latch = true ∧ (s.restartQuiet c).trip.record = s.trip.record := by
    unfold State.restartQuiet
    split <;> exact ⟨h, rfl⟩
  obtain ⟨latch, record⟩ := quiet
  unfold State.tripCause
  dsimp only
  generalize s.restartQuiet c = q at latch record ⊢
  split
  · exact ⟨latch, by rw [record]⟩
  · split
    · exact ⟨latch, (congrArg TripRecord.reason record :)⟩
    · exact ⟨latch, by rw [record]⟩

theorem State.judgeLeak_of_latched {s : State} (h : s.trip.latch = true) :
    s.judgeLeak.trip.latch = true ∧ s.judgeLeak.trip.record.reason = s.trip.record.reason := by
  unfold State.judgeLeak
  split
  · exact State.tripCause_of_latched h _
  · exact ⟨h, rfl⟩

theorem State.judgeLeak_selectorKept (s : State) : s.selectorKept s.judgeLeak := by
  unfold State.judgeLeak
  split
  · exact .tripCause s _
  · exact .refl s

theorem State.judgeLeak_outer (s : State) : s.judgeLeak.outer = s.outer := by
  unfold State.judgeLeak
  split
  · exact State.outer_tripCause s _
  · rfl

theorem State.judgeLeak_forcedKept (s : State) : s.forcedKept s.judgeLeak := by
  unfold State.judgeLeak
  split
  · exact (State.evaluates.tripCause s _).forced
  · exact .of_loads rfl

end Sys2Proof.Machine
end

section
/-! ### SET_MODE: what a change of mode ends and begins (R29, R37, R86, R161, R196) -/

namespace Sys2Proof.Machine

/-- A DRIVING move waits at the exit from RUN, with its request released (R86). -/
theorem State.parkMove_spec (s : State) :
    s.parkMove.soft = { s.soft with move := s.parkMove.soft.move } ∧ s.parkMove.trip = s.trip ∧ s.parkMove.chan = s.chan ∧
      ∀ x, s.soft.move = some x →
        s.parkMove.soft.move = some { x with timer := if x.driving then 0 else x.timer, driving := false } ∧
        (x.driving = true → (s.parkMove.load .selectorValve).own = none) := by
  unfold State.parkMove
  split
  · rename_i h
    exact ⟨rfl, rfl, rfl, fun x hx => nomatch h.symm.trans hx⟩
  · rename_i m h
    split
    · rename_i hd
      refine ⟨by simp, by simp, by simp, fun x hx => ?_⟩
      cases h.symm.trans hx
      exact ⟨by simp [hd], fun _ => by rw [State.release_own, if_pos rfl]⟩
    · rename_i hd
      refine ⟨rfl, rfl, rfl, fun x hx => ?_⟩
      cases h.symm.trans hx
      have off : m.driving = false := by simpa using hd
      refine ⟨?_, fun e => absurd e hd⟩
      obtain ⟨purpose, target, timer, driving, limit⟩ := m
      cases off
      exact h

theorem State.dropPulse_rest (s : State) : s.dropPulse.trip = s.trip ∧ s.dropPulse.chan = s.chan := by
  unfold State.dropPulse
  split
  · exact ⟨rfl, rfl⟩
  · exact ⟨by simp, by simp⟩

theorem State.abortRegen_path (s : State) : s.abortRegen.soft.pulse = s.soft.pulse ∧ s.abortRegen.soft.route = s.soft.route := by
  have given : s.regenGiveBack.soft.pulse = s.soft.pulse ∧ s.regenGiveBack.soft.route = s.soft.route := by
    unfold State.regenGiveBack
    dsimp only
    split
    · exact ⟨by simp, by simp⟩
    · exact ⟨rfl, rfl⟩
  unfold State.abortRegen
  split
  · exact ⟨rfl, rfl⟩
  · rename_i r _
    dsimp only
    rw [← given.1, ← given.2]
    cases r.column <;> exact ⟨rfl, rfl⟩

/-- Out of RUN no regeneration and no pulse is left, and no move drives (R161, R196; log 14). -/
theorem State.leaveRun_spec (s : State) :
    s.leaveRun.eng.state = .idle ∧ s.leaveRun.trip = s.trip ∧ s.leaveRun.chan = s.chan ∧
      s.leaveRun.soft.regen = none ∧ s.leaveRun.soft.pulse = none ∧
      (s.soft.pulse ≠ none → s.leaveRun.soft.route = .unset ∧ (s.leaveRun.load .routeValve).own = none) ∧
      ∀ x, s.soft.move = some x →
        s.leaveRun.soft.move = some { x with timer := if x.driving then 0 else x.timer, driving := false } ∧
        (x.driving = true → (s.leaveRun.load .selectorValve).own = none) := by
  obtain ⟨a, ha⟩ : ∃ a, a = s.postAll s.abortNotice := ⟨_, rfl⟩
  have softA : a.soft = s.soft := by rw [ha]; rfl
  have tripA : a.trip = s.trip := by rw [ha]; rfl
  have chanA : a.chan = s.chan := by rw [ha]; rfl
  obtain ⟨trip, -, chan, -, -, -, -, regen, -⟩ := a.abortRegen_spec
  obtain ⟨pulse, route⟩ := a.abortRegen_path
  have moveB := (State.selectorKept.abortRegen a).move
  obtain ⟨soft, tripC, chanC, parked⟩ := a.abortRegen.parkMove_spec
  have left : s.leaveRun = { a.abortRegen.parkMove.dropPulse with eng.state := .idle } := by rw [ha]; rfl
  obtain ⟨c, hc⟩ : ∃ c, c = a.abortRegen.parkMove := ⟨_, rfl⟩
  rw [← hc] at left soft tripC chanC parked
  obtain ⟨none, some⟩ := c.dropPulse_spec
  obtain ⟨tripD, chanD⟩ := c.dropPulse_rest
  have pulseC : c.soft.pulse = s.soft.pulse := by rw [soft, ← softA, ← pulse]
  have regenC : c.soft.regen = .none := by rw [soft, ← regen]
  have dropped : c.dropPulse.soft.regen = .none ∧ c.dropPulse.soft.pulse = .none ∧ c.dropPulse.soft.move = c.soft.move ∧
      (s.soft.pulse ≠ .none → c.dropPulse.soft.route = .unset ∧ (c.dropPulse.load .routeValve).own = .none) ∧
      ((c.dropPulse.load .selectorValve).own = (c.load .selectorValve).own) := by
    by_cases h : c.soft.pulse = .none
    · rw [none h]
      exact ⟨regenC, h, rfl, fun e => absurd (pulseC.symm.trans h) e, rfl⟩
    · obtain ⟨softD, -, ownD⟩ := some h
      rw [softD]
      exact ⟨regenC, rfl, rfl, fun _ => ⟨rfl, by rw [ownD, if_pos rfl]⟩, by rw [ownD, if_neg nofun]⟩
  obtain ⟨regenD, pulseD, moveD, routeD, ownD⟩ := dropped
  rw [left]
  refine ⟨rfl, (tripD.trans tripC).trans (trip.trans tripA), (chanD.trans chanC).trans (chan.trans chanA), regenD, pulseD,
    routeD, fun x hx => ?_⟩
  obtain ⟨move, own⟩ := parked x (by rw [moveB, softA, hx])
  exact ⟨moveD.trans move, fun e => ownD.trans (own e)⟩

/-! #### Polling (R29, R30, R37) -/

theorem State.take_bus (s : State) (i : Fin 16) :
    (s.take i).bus.tx.map Transaction.entry = some i ∧ (s.take i).bus.run[i].inDueSet = false ∧
      ∀ j : Fin 16, j ≠ i → (s.take i).bus.run[j] = s.bus.run[j] := by
  have taken : ∀ j : Fin 16, (s.take i).bus.run[j] = if j = i then
      { s.bus.run[i] with inDueSet := false, due := some (s.now + s.bus.poll[i].interval * Config.msec) }
    else s.bus.run[j] := fun j => State.withPoll_run s i j
      (fun r => { r with inDueSet := false, due := some (s.now + s.bus.poll[i].interval * Config.msec) })
  exact ⟨rfl, by rw [taken, if_pos rfl], fun j hj => by rw [taken, if_neg hj]⟩

/-- Polling starts: every enabled entry is due, and a free bus takes the lowest of them (R29, R31). -/
theorem State.pollingStart_spec {s : State} (h : s.link.mode ≠ .standby) :
    (s.bus.tx ≠ none → s.pollingStart.bus.tx = s.bus.tx ∧
      ∀ i : Fin 16, s.pollingStart.bus.run[i].due = none ∧ s.pollingStart.bus.run[i].inDueSet = s.bus.poll[i].enabled) ∧
    (s.bus.tx = none →
      ((∀ i : Fin 16, s.bus.poll[i].enabled = false) → s.pollingStart.bus.tx = none) ∧
      ∀ i : Fin 16, s.bus.poll[i].enabled = true → (∀ j : Fin 16, j < i → s.bus.poll[j].enabled = false) →
        s.pollingStart.bus.tx.map Transaction.entry = some i ∧ s.pollingStart.bus.run[i].inDueSet = false ∧
        ∀ j : Fin 16, j ≠ i →
          s.pollingStart.bus.run[j].due = none ∧ s.pollingStart.bus.run[j].inDueSet = s.bus.poll[j].enabled) := by
  obtain ⟨p, hp⟩ : ∃ p : State, p = { s with bus.run := Vector.ofFn (fun i =>
    { s.bus.run[i] with due := none, inDueSet := s.bus.poll[i].enabled }) } := ⟨_, rfl⟩
  have start : s.pollingStart = p.takeIfFree := by rw [hp]; rfl
  have tx : p.bus.tx = s.bus.tx := by rw [hp]
  have run : ∀ i : Fin 16, p.bus.run[i] = { s.bus.run[i] with due := none, inDueSet := s.bus.poll[i].enabled } := fun i => by
    rw [hp]
    exact Vector.getElem_ofFn ..
  have polls : p.polling = true := by rw [hp]; exact decide_eq_true h
  rw [start]
  rcases p.takeIfFree_cases with ⟨why, e⟩ | ⟨i, -, free, taken, lowest, e⟩
  · rw [e, tx]
    refine ⟨fun _ => ⟨rfl, fun i => by rw [run]; exact ⟨rfl, rfl⟩⟩, fun hn => ⟨fun _ => hn, fun i hi _ => ?_⟩⟩
    rcases why with off | busy | nobody
    · exact nomatch polls.symm.trans off
    · exact absurd (tx.trans hn) busy
    · have := nobody i
      rw [run] at this
      exact nomatch hi.symm.trans this
  · obtain ⟨entry, cleared, others⟩ := p.take_bus i
    rw [e]
    refine ⟨fun hn => absurd (tx.symm.trans free) hn, fun _ => ⟨fun hn => ?_, fun k hk least => ?_⟩⟩
    · rw [run] at taken
      exact nomatch taken.symm.trans (hn i)
    · have same : k = i := by
        rcases Nat.lt_trichotomy k.val i.val with hlt | heq | hgt
        · have := lowest k hlt
          rw [run] at this
          exact nomatch hk.symm.trans this
        · exact Fin.ext heq
        · rw [run] at taken
          exact nomatch taken.symm.trans (least i hgt)
      subst same
      exact ⟨entry, cleared, fun j hj => by rw [others j hj, run]; exact ⟨rfl, rfl⟩⟩

theorem State.pollingStop_spec (s : State) :
    (∀ i : Fin 16, s.pollingStop.bus.run[i].due = none ∧ s.pollingStop.bus.run[i].inDueSet = false) ∧
      s.pollingStop.bus.tx = s.bus.tx.map (fun x => { x with belongs := false }) ∧ s.pollingStop.bus.poll = s.bus.poll := by
  have run : ∀ i : Fin 16, s.pollingStop.bus.run[i] = { s.bus.run[i] with due := none, inDueSet := false } :=
    fun i => Vector.getElem_ofFn ..
  exact ⟨fun i => by rw [run]; exact ⟨rfl, rfl⟩, rfl, rfl⟩

/-! #### Into RUN (R86, R196) -/

/-- A WAITING move drives at the entry to RUN, or ends with the position at its target (R86). -/
theorem State.wakeMove_softens (s : State) : s.softens s.wakeMove := by
  have start := State.softens.refl s
  unfold State.wakeMove
  split
  · exact start
  · rename_i m _
    split
    · exact start
    · split
      · exact (start.record { s.soft with move := none } rfl).moveArrived m
      · exact start.drive m

theorem State.moveArrived_selectorKept (s : State) (m : SelectorMove) : s.selectorKept (s.moveArrived m) := by
  unfold State.moveArrived
  split
  · unfold State.confirmFlip
    dsimp only
    split
    · have old : s.selectorKept (if (s.column (otherSide m.target)).state = .service then
          s.setColumn (otherSide m.target) { s.column (otherSide m.target) with state := .exhausted } else s) := by
        split
        · exact (State.selectorKept.refl s).setColumn ..
        · exact .refl s
      generalize (if (s.column (otherSide m.target)).state = .service then
          s.setColumn (otherSide m.target) { s.column (otherSide m.target) with state := .exhausted } else s) = t at old ⊢
      have new := old.setColumn m.target { t.column m.target with state := .service }
      exact (new.trans ⟨by rfl, by rfl⟩).trans (.autoCheck _)
    · exact .refl s
  · exact .refl s
  · exact .refl s

theorem State.wakeMove_move {s : State} {x : SelectorMove} (hx : s.soft.move = some x) (hd : x.driving = false) :
    (s.soft.position = x.target → s.wakeMove.soft.move = none) ∧
      (s.soft.position ≠ x.target → s.wakeMove.soft.move = some { x with timer := 0, driving := true } ∧
        (s.wakeMove.load .selectorValve).own = some (sideCode x.target)) := by
  unfold State.wakeMove
  simp only [hx, hd, Bool.false_eq_true, if_false]
  refine ⟨fun h => ?_, fun h => ?_⟩
  · rw [if_pos h]
    exact (State.moveArrived_selectorKept _ x).move
  · rw [if_neg h]
    exact ⟨rfl, by rw [State.drive, State.request_own, if_pos rfl]⟩

/-- The entry to RUN is the softener's but for the engine, which a set latch makes TRIPPED. -/
theorem State.enterRun_spec (s : State) :
    ({ s with eng.state := if s.trip.latch then .tripped else s.eng.state }).softens s.enterRun ∧
      ∀ x, s.soft.move = some x → x.driving = false →
        (s.soft.position = x.target → s.enterRun.soft.move = none) ∧
        (s.soft.position ≠ x.target → s.enterRun.soft.move = some { x with timer := 0, driving := true } ∧
          (s.enterRun.load .selectorValve).own = some (sideCode x.target)) := by
  obtain ⟨e, he⟩ : ∃ e : State, e = { s with eng.state := if s.trip.latch then .tripped else s.eng.state } := ⟨_, rfl⟩
  have entered : s.enterRun = e.wakeMove.autoCheck := by
    rw [he]
    unfold State.enterRun
    split <;> rfl
  have soft : e.soft = s.soft := by rw [he]
  have kept := State.selectorKept.autoCheck e.wakeMove
  rw [← he, entered]
  refine ⟨e.wakeMove_softens.autoCheck, fun x hx hd => ?_⟩
  obtain ⟨here, away⟩ := State.wakeMove_move (s := e) (by rw [soft, hx]) hd
  rw [kept.move, kept.own, ← soft]
  exact ⟨here, away⟩

end Sys2Proof.Machine
end

section
/-! ### SET_MODE: its refusals, and the change as a whole (O27) -/

namespace Sys2Proof.Machine

theorem modeOfCode_ofNat (m : Mode) : modeOfCode (BitVec.ofNat 8 (modeCode m) : Byte).toNat = some m := by cases m <;> rfl

theorem modeOfCode_eq_none {n : Nat} (h : 3 ≤ n) : modeOfCode n = none := List.getElem?_eq_none h

theorem LinkUnit.posts_staging (ns : List Notice) (l : LinkUnit) : (ns.foldl LinkUnit.post l).staging = l.staging :=
  (congrArg LinkUnit.staging (LinkUnit.posts_rest ns l) :)

theorem State.softens.staging {s t : State} (h : s.softens t) : t.link.staging = s.link.staging := by
  obtain ⟨ns, hn⟩ := h.posts
  rw [hn, LinkUnit.posts_staging]

theorem State.leaveRun_staging (s : State) : s.leaveRun.link.staging = s.link.staging := by
  obtain ⟨-, link, -⟩ := (s.postAll s.abortNotice).abortRegen_spec
  show (State.leaveRunParts s).link.staging = _
  unfold State.leaveRunParts
  rw [State.dropPulse_link, State.parkMove_link, link]
  exact LinkUnit.posts_staging ..

theorem State.leaveRun_mode (s : State) : s.leaveRun.link.mode = s.link.mode := State.leaveRunParts_mode s

/-- What the steps that leave the old mode do. -/
theorem State.modeLeft_spec (s : State) (m : Mode) :
    (s.modeLeft m).link.mode = m ∧ (s.modeLeft m).link.staging = .empty ∧ (s.modeLeft m).trip = s.trip ∧
      (s.modeLeft m).chan = s.chan ∧ (s.modeLeft m).bus = s.bus ∧
      (s.link.mode ≠ .run → (s.modeLeft m).soft = s.soft ∧ (s.modeLeft m).eng = s.eng) ∧
      (s.link.mode = .service → ∀ l, ((s.modeLeft m).load l).forced = none) := by
  obtain ⟨a, ha⟩ : ∃ a : State, a = { s with link.mode := m, link.staging := .empty } := ⟨_, rfl⟩
  obtain ⟨b, hb⟩ : ∃ b, b = if s.link.mode = .service then a.releaseForced else a := ⟨_, rfl⟩
  have left : s.modeLeft m = if s.link.mode = .run then b.leaveRun else b := by rw [hb, ha]; rfl
  have beside : b = { a with arb.loads := b.arb.loads } := by
    rw [hb]
    split
    · exact a.releaseForced_besideLoads
    · rfl
  have link : b.link = { s.link with mode := m, staging := .empty } := by
    rw [beside, ha]
  have trip : b.trip = s.trip := by rw [beside, ha]
  have chan : b.chan = s.chan := by rw [beside, ha]
  have bus : b.bus = s.bus := by rw [beside, ha]
  have soft : b.soft = s.soft := by rw [beside, ha]
  have eng : b.eng = s.eng := by rw [beside, ha]
  by_cases hr : s.link.mode = .run
  · obtain ⟨-, tripL, chanL, -⟩ := b.leaveRun_spec
    rw [left, if_pos hr]
    refine ⟨?_, ?_, tripL.trans trip, chanL.trans chan, (State.leaveRun_bus b).trans bus, fun h => absurd hr h,
      fun h => absurd (h.symm.trans hr) nofun⟩
    · rw [State.leaveRun_mode, link]
    · rw [State.leaveRun_staging, link]
  · rw [left, if_neg hr]
    refine ⟨by rw [link], by rw [link], trip, chan, bus, fun _ => ⟨soft, eng⟩, fun h l => ?_⟩
    rw [hb, if_pos h, State.releaseForced_load]

/-- Out of RUN, with the softener and the engine as they stood. -/
theorem State.modeLeft_fromRun {s : State} (h : s.link.mode = .run) (m : Mode) :
    ∃ b : State, s.modeLeft m = b.leaveRun ∧ b.soft = s.soft := by
  refine ⟨{ s with link.mode := m, link.staging := .empty }, ?_, rfl⟩
  unfold State.modeLeft
  dsimp only
  rw [if_pos h, if_neg (by rw [h]; nofun)]

theorem State.renewFlood_rest (s : State) :
    s.renewFlood = { s with arb.flood := s.renewFlood.arb.flood, arb.evalDue := s.renewFlood.arb.evalDue } := by
  unfold State.renewFlood
  split <;> rfl

theorem State.renewFlood_of_flood {s : State} (hl : s.trip.latch = true) (hr : s.trip.record.reason = .flood) :
    s.renewFlood.arb.flood = true := by
  unfold State.renewFlood
  split
  · rfl
  · rename_i h
    simpa [hl, hr] using h

/-- What the steps that enter SERVICE or RUN do. -/
theorem State.modeEntered_spec (s : State) (old m : Mode) :
    (s.modeEntered old m).link.mode = s.link.mode ∧ (s.modeEntered old m).link.staging = s.link.staging ∧
      (s.modeEntered old m).chan = s.chan ∧
      (s.modeEntered old m).bus = (if old = .standby then s.pollingStart else s).bus ∧ s.forcedKept (s.modeEntered old m) ∧
      (s.trip.latch = true → s.trip.record.reason = .flood → (s.modeEntered old m).arb.flood = true) ∧
      (m = .run → s.trip.latch = true → (s.modeEntered old m).eng.state = .tripped) ∧
      (m = .run → ∀ x, s.soft.move = some x → x.driving = false →
        (s.soft.position = x.target → (s.modeEntered old m).soft.move = none) ∧
        (s.soft.position ≠ x.target → (s.modeEntered old m).soft.move = some { x with timer := 0, driving := true } ∧
          ((s.modeEntered old m).load .selectorValve).own = some (sideCode x.target))) := by
  obtain ⟨bus, polled⟩ : ∃ bus, s.pollingStart = { s with bus := bus } := by
    unfold State.pollingStart
    rcases State.takeIfFree_cases { s with bus.run := Vector.ofFn (fun i =>
        { s.bus.run[i] with due := none, inDueSet := s.bus.poll[i].enabled }) } with ⟨-, e⟩ | ⟨i, -, -, -, -, e⟩
    · exact ⟨_, e⟩
    · exact ⟨_, e⟩
  obtain ⟨e, he⟩ : ∃ e, e = if old = .standby then s.pollingStart.judgeLeak else s := ⟨_, rfl⟩
  obtain ⟨f, hf⟩ : ∃ f, f = e.renewFlood := ⟨_, rfl⟩
  have entered : s.modeEntered old m = if m = .run then f.enterRun else f := by rw [hf, he]; rfl
  have outerE : e.outer = (if old = .standby then s.pollingStart else s).outer := by
    rw [he]
    split
    · exact State.judgeLeak_outer _
    · rfl
  have restE : (if old = .standby then s.pollingStart else s) =
      { s with bus := (if old = .standby then s.pollingStart else s).bus } := by
    split
    · rw [polled]
    · rfl
  have forcedE : s.forcedKept e := by
    rw [he]
    split
    · refine State.forcedKept.trans (t := s.pollingStart) (.of_loads (by rw [polled])) (State.judgeLeak_forcedKept _)
    · exact .of_loads rfl
  have selectorE : s.selectorKept e := by
    rw [he]
    split
    · refine State.selectorKept.trans (t := s.pollingStart) ⟨by rw [polled], by rw [polled]; rfl⟩ (State.judgeLeak_selectorKept _)
    · exact .refl s
  have latchE : s.trip.latch = true → e.trip.latch = true ∧ e.trip.record.reason = s.trip.record.reason := fun h => by
    rw [he]
    split
    · have trip : s.pollingStart.trip = s.trip := by rw [polled]
      rw [← trip]
      exact State.judgeLeak_of_latched (by rw [trip, h])
    · exact ⟨h, rfl⟩
  have restF : f = { e with arb.flood := f.arb.flood, arb.evalDue := f.arb.evalDue } := by
    rw [hf]
    exact e.renewFlood_rest
  have tripF : f.trip = e.trip := (congrArg (fun x : State => x.trip) restF :)
  have softF : f.soft = e.soft := (congrArg (fun x : State => x.soft) restF :)
  have linkF : f.link = e.link := (congrArg (fun x : State => x.link) restF :)
  have chanF : f.chan = e.chan := (congrArg (fun x : State => x.chan) restF :)
  have busF : f.bus = e.bus := (congrArg (fun x : State => x.bus) restF :)
  have loadsF : f.arb.loads = e.arb.loads := (congrArg (fun x : State => x.arb.loads) restF :)
  have positionF : f.soft.position = s.soft.position := by
    rw [softF]
    exact (State.of_outer (fun x => x.soft.position) outerE).trans (congrArg (fun x : State => x.soft.position) restE :)
  have floodF : s.trip.latch = true → s.trip.record.reason = .flood → f.arb.flood = true := fun h hr => by
    obtain ⟨latch, reason⟩ := latchE h
    rw [hf]
    exact State.renewFlood_of_flood latch (reason.trans hr)
  have modeF : f.link.mode = s.link.mode := by
    rw [linkF]
    exact (State.of_outer (fun x => x.link.mode) outerE).trans (congrArg (fun x : State => x.link.mode) restE :)
  have stagingF : f.link.staging = s.link.staging := by
    rw [linkF]
    exact (State.of_outer (fun x => x.link.staging) outerE).trans (congrArg (fun x : State => x.link.staging) restE :)
  have unitsF : f.chan = s.chan ∧ f.bus = (if old = .standby then s.pollingStart else s).bus := by
    rw [chanF, busF]
    exact ⟨(State.of_outer (fun x => x.chan) outerE).trans (congrArg (fun x : State => x.chan) restE :),
      State.of_outer (fun x => x.bus) outerE⟩
  have forcedF : s.forcedKept f := forcedE.trans (.of_loads loadsF)
  obtain ⟨softens, moves⟩ := f.enterRun_spec
  rw [entered]
  by_cases hm : m = .run
  · rw [if_pos hm]
    refine ⟨softens.mode.trans modeF, softens.staging.trans stagingF, softens.chan.trans unitsF.1,
      softens.bus.trans unitsF.2, forcedF.trans ⟨fun l => (softens.stands l).2⟩,
      fun h hr => ?_, fun _ h => ?_, fun _ x hx hd => ?_⟩
    · rw [softens.rest]
      exact floodF h hr
    · rw [softens.eng]
      exact if_pos (by rw [tripF]; exact (latchE h).1)
    · rw [← positionF]
      exact moves x (by rw [softF, selectorE.move, hx]) hd
  · rw [if_neg hm]
    exact ⟨modeF, stagingF, unitsF.1, unitsF.2, forcedF, floodF, fun h => absurd h hm, fun h => absurd h hm⟩

/-- Out of RUN into SERVICE nothing more than the FLOOD request is judged. -/
theorem State.modeEntered_service (s : State) : s.modeEntered .run .service = s.renewFlood := rfl

/-- What the change from RUN leaves to the end of the change (R86, R161, R196). -/
theorem State.changeMode_fromRun {s : State} (h : s.link.mode = .run) {m : Mode} (hm : m ≠ .run) :
    (s.changeMode m).soft = (s.modeLeft m).soft ∧ (s.changeMode m).eng = (s.modeLeft m).eng ∧
      (s.changeMode m).arb.loads = (s.modeLeft m).arb.loads := by
  cases m with
  | standby =>
    rw [State.changeMode_standby s (by rw [h]; nofun)]
    generalize s.modeLeft .standby = t
    have stopped : t.pollingStop = { t with bus := t.pollingStop.bus } := rfl
    generalize t.pollingStop = u at stopped ⊢
    exact ⟨(congrArg (fun x : State => x.soft) stopped :), (congrArg (fun x : State => x.eng) stopped :),
      (congrArg (fun x : State => x.arb.loads) stopped :)⟩
  | service =>
    rw [State.changeMode_on s .service nofun, h, State.modeEntered_service]
    generalize s.modeLeft .service = t
    have renewed := t.renewFlood_rest
    generalize t.renewFlood = u at renewed ⊢
    exact ⟨(congrArg (fun x : State => x.soft) renewed :), (congrArg (fun x : State => x.eng) renewed :),
      (congrArg (fun x : State => x.arb.loads) renewed :)⟩
  | run => exact absurd rfl hm

end Sys2Proof.Machine
end

section
/-! ### SET_MODE (O27) -/

namespace Sys2Proof.Machine

/-- Into STANDBY: polling stops and the FLOOD request ends; the rest is what leaving the old mode has done. -/
theorem State.changeMode_toStandby {s : State} (h : s.link.mode ≠ .standby) :
    (s.changeMode .standby).link = (s.modeLeft .standby).link ∧ (s.changeMode .standby).chan = s.chan ∧
      (s.changeMode .standby).bus = s.pollingStop.bus ∧ (s.changeMode .standby).arb.flood = false ∧
      ∀ l, (s.changeMode .standby).load l = (s.modeLeft .standby).load l := by
  obtain ⟨-, -, -, chan, bus, -⟩ := s.modeLeft_spec .standby
  rw [State.changeMode_standby s h]
  generalize s.modeLeft .standby = t at chan bus ⊢
  have stopped : t.pollingStop = { t with bus := t.pollingStop.bus } := rfl
  have same : t.pollingStop.bus = s.pollingStop.bus := by unfold State.pollingStop; rw [bus]
  generalize t.pollingStop = u at stopped same ⊢
  refine ⟨(congrArg (fun x : State => x.link) stopped :), ?_, same, rfl, fun l => (congrArg (fun x : State => x.load l) stopped :)⟩
  rw [stopped]
  exact chan

theorem State.pollingStart_poll (s : State) : s.pollingStart.bus.poll = s.bus.poll := by
  unfold State.pollingStart
  rcases State.takeIfFree_cases { s with bus.run := Vector.ofFn (fun i =>
      { s.bus.run[i] with due := none, inDueSet := s.bus.poll[i].enabled }) } with ⟨-, e⟩ | ⟨i, -, -, -, -, e⟩ <;> rw [e]
  rfl

/-- What a change of mode does, apart from what leaving RUN does (R29, R37, R171, R196). -/
theorem State.changeMode_spec {s : State} {m : Mode} (hm : m ≠ s.link.mode) :
    (s.changeMode m).link.mode = m ∧ (s.changeMode m).link.staging = .empty ∧ (s.changeMode m).arb.evalDue = true ∧
      (s.link.mode = .service → ∀ l, ((s.changeMode m).load l).forced = none) ∧
      (m = .standby → (s.changeMode m).arb.flood = false ∧ (s.changeMode m).bus = s.pollingStop.bus) ∧
      (m ≠ .standby → ∃ t : State, t.link.mode ≠ .standby ∧ t.bus = s.bus ∧
        (s.changeMode m).bus = (if s.link.mode = .standby then t.pollingStart else t).bus) ∧
      (m ≠ .standby → s.trip.latch = true → s.trip.record.reason = .flood → (s.changeMode m).arb.flood = true) ∧
      (m = .run → s.trip.latch = true → (s.changeMode m).eng.state = .tripped) ∧
      (m = .run → ∀ x, s.soft.move = some x → x.driving = false →
        (s.soft.position = x.target → (s.changeMode m).soft.move = none) ∧
        (s.soft.position ≠ x.target → (s.changeMode m).soft.move = some { x with timer := 0, driving := true } ∧
          ((s.changeMode m).load .selectorValve).own = some (sideCode x.target))) ∧
      (s.changeMode m).chan = s.chan := by
  obtain ⟨mode, staging, trip, chan, bus, units, forced⟩ := s.modeLeft_spec m
  by_cases hs : m = .standby
  · subst hs
    obtain ⟨link, chanU, busU, flood, load⟩ := State.changeMode_toStandby (Ne.symm hm)
    refine ⟨by rw [link, mode], by rw [link, staging], ?_, fun h l => by rw [load, forced h l], fun _ => ⟨flood, busU⟩,
      fun h => absurd rfl h, fun h => absurd rfl h, nofun, nofun, chanU⟩
    rw [State.changeMode_standby s (Ne.symm hm)]
    rfl
  · obtain ⟨mode', staging', chan', bus', forced', flood', tripped, moves⟩ := (s.modeLeft m).modeEntered_spec s.link.mode m
    rw [State.changeMode_on s m hs]
    have loads : ∀ (x : State) (l : LoadId), x.markEval.load l = x.load l := fun _ _ => rfl
    generalize (s.modeLeft m).modeEntered s.link.mode m = u at mode' staging' chan' bus' forced' flood' tripped moves ⊢
    have away : m = .run → s.link.mode ≠ .run := fun h e => hm (h.trans e.symm)
    rw [trip] at flood' tripped
    refine ⟨mode'.trans mode, staging'.trans staging, rfl, fun h l => ?_, fun h => absurd h hs,
      fun _ => ⟨s.modeLeft m, by rw [mode]; exact hs, bus, bus'⟩, fun _ => flood', tripped, fun h => ?_, chan'.trans chan⟩
    · rw [loads, forced'.load, forced h l]
    · rw [← (units (away h)).1]
      exact moves h

theorem exec_setMode_refuse {s : State} {m : Mode} {st : Status} (h : s.ready) (hm : m ≠ s.link.mode)
    (hr : s.modeRefusal m = some st) :
    exec (.setMode [BitVec.ofNat 8 (modeCode m)]) s = .next (s.respond 0x06 st []) :=
  exec_of_refuse (by rfl) h (by simp) (by simp only [judgeSetMode, modeOfCode_ofNat, if_neg hm, hr])

theorem State.modeRefusal_eq_none {s : State} {m : Mode} (hr : s.link.mode = .run → s.eng.state = .idle ∨ s.eng.state = .tripped)
    (ht : m = .run → s.tablesReady = true) : s.modeRefusal m = none := by
  unfold State.modeRefusal
  split
  · rw [if_pos (hr ‹_›)]
  · split
    · rw [if_pos (ht ‹_›)]
    · rfl

/-- Settles O27, by the steps that leave the old mode and those that enter the new one. -/
theorem setModeChangesMode : Obligations.SetModeChangesMode := by
  refine ⟨fun s b h hb => ?_, fun s m h => ⟨fun hm => ?_, fun hm run notIdle notTripped => ?_, fun hm notRun bad => ?_,
    fun hm engine tables => ?_⟩⟩
  · exact exec_of_refuse (by rfl) h (by simp) (by simp only [judgeSetMode, modeOfCode_eq_none hb])
  · rw [exec_of_accept_settled (e := rfl) (h := h) (hp := by simp)
      (hj := by simp only [judgeSetMode, modeOfCode_ofNat, if_pos hm]; rfl) (hu := h.2)]
  · exact exec_setMode_refuse h hm (by simp [State.modeRefusal, run, notIdle, notTripped])
  · exact exec_setMode_refuse h (by rw [hm]; exact Ne.symm notRun) (by simp [State.modeRefusal, notRun, hm, bad])
  · obtain ⟨mode, staging, evalDue, forced, standby, start, flood, tripped, moves, chan⟩ := State.changeMode_spec hm
    refine ⟨s.changeMode m, ?_, mode, staging, evalDue, forced, fun run => ?_, fun hs => ?_, fun hs => ?_, flood, tripped,
      fun x hr => moves hr x, chan, ?_⟩
    · rw [exec_of_accept (e := rfl) (h := h) (hp := by simp)
        (hj := by simp only [judgeSetMode, modeOfCode_ofNat, if_neg hm, State.modeRefusal_eq_none engine tables]; rfl)]
      have settled : (s.changeMode m).settle.link.mode = m := by rw [State.settle_mode, mode]
      rw [settled]
      rfl
    · obtain ⟨b, left, soft⟩ := State.modeLeft_fromRun run m
      obtain ⟨softU, engU, loadsU⟩ := State.changeMode_fromRun run (m := m) (by rw [← run]; exact hm)
      obtain ⟨idle, -, -, regen, pulse, routed, parked⟩ := b.leaveRun_spec
      have load : ∀ l, (s.changeMode m).load l = b.leaveRun.load l := fun l => by
        unfold State.load
        rw [loadsU, left]
      rw [softU, engU, left, load, load]
      rw [soft] at routed parked
      exact ⟨idle, regen, pulse, routed, parked⟩
    · obtain ⟨floodU, busU⟩ := standby hs
      obtain ⟨run, tx, -⟩ := s.pollingStop_spec
      rw [busU]
      exact ⟨floodU, run, tx⟩
    · obtain ⟨t, ht, bus, busU⟩ := start (by rw [← hs]; exact hm)
      rw [if_pos hs] at busU
      rw [busU, ← bus]
      exact State.pollingStart_spec ht
    · by_cases hs : m = .standby
      · rw [(standby hs).2]
        rfl
      · obtain ⟨t, -, bus, busU⟩ := start hs
        rw [busU, ← bus]
        split
        · exact t.pollingStart_poll
        · rfl

end Sys2Proof.Machine
end

section
/-! ### What an operation of a unit leaves alone

`State.acts L s t`: from `s` to `t` some unit of the part has acted. Its own record, the notices and what a finding marks may
differ; so may the requests of the loads in `L`, and no others. Tables, channels, the bus, the door's readings, the latch, the
grants and the clock do not. -/

namespace Sys2Proof.Machine

structure State.acts (L : LoadId → Prop) (s t : State) : Prop where
  rest : t = { s with
    eng := t.eng
    soft := t.soft
    dosing := t.dosing
    door := { s.door with dry := t.door.dry, settle := t.door.settle }
    arb.loads := t.arb.loads
    arb.evalDue := t.arb.evalDue
    trip := { s.trip with
      integrity := t.trip.integrity
      more := t.trip.more
      faultedMachine := t.trip.faultedMachine
      faultedSoftener := t.trip.faultedSoftener
      faultedDet := t.trip.faultedDet
      faultedRinse := t.trip.faultedRinse }
    link := t.link
    draws := t.draws }
  posts : ∃ ns : List Notice, t.link = ns.foldl LinkUnit.post s.link
  own : ∀ k, ¬ L k → (t.load k).own = (s.load k).own
  stands : ∀ k, (t.load k).grant = (s.load k).grant ∧ (t.load k).forced = (s.load k).forced
  due : s.arb.evalDue = true → t.arb.evalDue = true
  marks : ∀ p, s.faulted p = true → t.faulted p = true

/-- The loads that the dosing unit owns (R114). -/
def ofDosing (k : LoadId) : Prop := k = .doseDet ∨ k = .doseRinse

/-- The loads that the engine and the door unit own (R57, R64, R72, R139). -/
def ofEngine (k : LoadId) : Prop := k = .heater ∨ k = .circPump ∨ k = .drainPump ∨ k = .fan ∨ k = .doorActuator

theorem pumpOf_ofDosing (r : Reservoir) : ofDosing (pumpOf r) := by
  cases r
  · exact .inl rfl
  · exact .inr rfl

namespace State.acts

variable {L M : LoadId → Prop} {s t u : State}

theorem refl (L : LoadId → Prop) (s : State) : s.acts L s :=
  ⟨rfl, ⟨[], rfl⟩, fun _ _ => rfl, fun _ => ⟨rfl, rfl⟩, id, fun _ => id⟩

theorem trans (h : s.acts L t) (g : t.acts L u) : s.acts L u := by
  obtain ⟨ns, hn⟩ := h.posts
  obtain ⟨ms, hm⟩ := g.posts
  exact ⟨g.rest.trans (by rw [h.rest]), ⟨ns ++ ms, by rw [hm, hn, List.foldl_append]⟩,
    fun k hk => (g.own k hk).trans (h.own k hk),
    fun k => ⟨(g.stands k).1.trans (h.stands k).1, (g.stands k).2.trans (h.stands k).2⟩, g.due ∘ h.due,
    fun p => g.marks p ∘ h.marks p⟩

theorem mono (h : s.acts L t) (e : ∀ k, L k → M k) : s.acts M t :=
  ⟨h.rest, h.posts, fun k hk => h.own k fun hl => hk (e k hl), h.stands, h.due, h.marks⟩

theorem chan (h : s.acts L t) : t.chan = s.chan := (congrArg (fun x : State => x.chan) h.rest :)
theorem bus (h : s.acts L t) : t.bus = s.bus := (congrArg (fun x : State => x.bus) h.rest :)
theorem latch (h : s.acts L t) : t.trip.latch = s.trip.latch := (congrArg (fun x : State => x.trip.latch) h.rest :)
theorem doorState (h : s.acts L t) : t.door.state = s.door.state := (congrArg (fun x : State => x.door.state) h.rest :)
theorem doorClosed (h : s.acts L t) : t.door.closed = s.door.closed := (congrArg (fun x : State => x.door.closed) h.rest :)
theorem doorLatch (h : s.acts L t) : t.door.latch = s.door.latch := (congrArg (fun x : State => x.door.latch) h.rest :)
theorem reports (h : s.acts L t) : t.arb.reports = s.arb.reports := (congrArg (fun x : State => x.arb.reports) h.rest :)
theorem flood (h : s.acts L t) : t.arb.flood = s.arb.flood := (congrArg (fun x : State => x.arb.flood) h.rest :)
theorem mainsReports (h : s.acts L t) : t.arb.mainsReports = s.arb.mainsReports :=
  (congrArg (fun x : State => x.arb.mainsReports) h.rest :)

theorem mode (h : s.acts L t) : t.link.mode = s.link.mode := by
  obtain ⟨ns, hn⟩ := h.posts
  rw [hn]
  exact (congrArg LinkUnit.mode (LinkUnit.posts_rest ns s.link) :)

theorem timeTag (h : s.acts L t) : t.link.timeTag = s.link.timeTag := by
  obtain ⟨ns, hn⟩ := h.posts
  rw [hn]
  exact (congrArg LinkUnit.timeTag (LinkUnit.posts_rest ns s.link) :)

theorem notice (h : s.acts L t) (k : NoticeKind) (l n : Nat) (v : Int) : t.notice k l n v = s.notice k l n v := by
  unfold State.notice
  rw [h.timeTag]

theorem fresh (h : s.acts L t) (r : Role) : t.fresh r = s.fresh r := by
  unfold State.fresh State.roleFreshness State.bound
  rw [h.chan]

theorem roleFreshness (h : s.acts L t) (r : Role) : t.roleFreshness r = s.roleFreshness r := by
  unfold State.roleFreshness State.bound
  rw [h.chan]

theorem roleValue (h : s.acts L t) (r : Role) : t.roleValue r = s.roleValue r := by
  unfold State.roleValue State.bound
  rw [h.chan]

theorem requested (h : s.acts L t) {k : LoadId} (hk : ¬ L k) : t.requested k = s.requested k := by
  unfold State.requested
  rw [h.own k hk, (h.stands k).2, h.flood]

theorem granted (h : s.acts L t) {k : LoadId} (hk : ¬ L k) : t.granted k = s.granted k := by
  unfold State.granted
  rw [h.requested hk, (h.stands k).1]

theorem coolEnough (h : s.acts L t) (f : DryFields) : t.coolEnough f = s.coolEnough f := by
  unfold State.coolEnough
  rw [h.fresh, h.roleValue]

/-! #### The basic operations -/

theorem softens (h : s.softens t) : s.acts ofSoftener t :=
  ⟨by rw [h.rest], h.posts, fun k hk => by rw [h.loads k hk], h.stands, h.due, fun p => by
    have mark := h.faulted
    cases p
    · rw [h.rest]; exact id
    · exact mark
    · rw [h.rest]; exact id
    · rw [h.rest]; exact id⟩

theorem routes (h : s.routes t) : s.acts ofPath t :=
  ⟨by rw [h.rest], ⟨[], h.link⟩, fun k hk => by rw [h.loads k hk], h.stands, h.due, fun p => by
    unfold State.faulted
    rw [h.trip]
    exact id⟩

/-- An update of the units' own records. -/
theorem units (h : s.acts L t) (e : EngineUnit) (x : SoftenerUnit) (d : DosingUnit) (r : Option DryRecord) (n : Option Nat) :
    s.acts L { t with eng := e, soft := x, dosing := d, door := { t.door with dry := r, settle := n } } :=
  h.trans ⟨rfl, ⟨[], rfl⟩, fun _ _ => rfl, fun _ => ⟨rfl, rfl⟩, id, fun p => by cases p <;> exact id⟩

theorem engine (h : s.acts L t) (e : EngineUnit) : s.acts L { t with eng := e } := h.units e t.soft t.dosing t.door.dry t.door.settle

theorem dose (h : s.acts L t) (d : Option Dose) : s.acts L { t with dosing.dose := d } :=
  h.units t.eng t.soft { t.dosing with dose := d } t.door.dry t.door.settle

theorem withHead (h : s.acts L t) (f : StageRecord → StageRecord) : s.acts L (t.withHead f) := h.engine _

theorem withDry (h : s.acts L t) (f : DryRecord → DryRecord) : s.acts L (t.withDry f) :=
  h.units t.eng t.soft t.dosing (t.door.dry.map f) t.door.settle

theorem markEval (h : s.acts L t) : s.acts L t.markEval :=
  h.trans ⟨rfl, ⟨[], rfl⟩, fun _ _ => rfl, fun _ => ⟨rfl, rfl⟩, fun _ => rfl, fun p => by cases p <;> exact id⟩

theorem draw (h : s.acts L t) : s.acts L t.draw :=
  h.trans ⟨rfl, ⟨[], rfl⟩, fun _ _ => rfl, fun _ => ⟨rfl, rfl⟩, id, fun p => by cases p <;> exact id⟩

theorem post (h : s.acts L t) (k : NoticeKind) (l n : Nat) (v : Int) : s.acts L (t.post k l n v) :=
  h.trans ⟨rfl, ⟨[_], rfl⟩, fun _ _ => rfl, fun _ => ⟨rfl, rfl⟩, id, fun p => by cases p <;> exact id⟩

theorem postAll (h : s.acts L t) (ns : List Notice) : s.acts L (t.postAll ns) :=
  h.trans ⟨rfl, ⟨ns, rfl⟩, fun _ _ => rfl, fun _ => ⟨rfl, rfl⟩, id, fun p => by cases p <;> exact id⟩

theorem setOwn (h : s.acts L t) {l : LoadId} (hl : L l) (a : Option Nat) :
    s.acts L (t.setLoad l { t.load l with own := a }).markEval := by
  refine h.trans ⟨rfl, ⟨[], rfl⟩, fun k hk => ?_, fun k => ?_, fun _ => rfl, fun p => by cases p <;> exact id⟩
  · show ((t.setLoad l _).load k).own = _
    rw [State.setLoad_load, if_neg (fun e => hk (by rw [e]; exact hl))]
  · show ((t.setLoad l _).load k).grant = _ ∧ ((t.setLoad l _).load k).forced = _
    rw [State.setLoad_load]
    split
    · rename_i e
      rw [e]
      exact ⟨rfl, rfl⟩
    · exact ⟨rfl, rfl⟩

theorem request (h : s.acts L t) {l : LoadId} (hl : L l) (a : Nat) : s.acts L (t.request l a) := h.setOwn hl _

theorem release (h : s.acts L t) {l : LoadId} (hl : L l) : s.acts L (t.release l) := by
  unfold State.release
  split
  · exact h.setOwn hl _
  · exact h

theorem setReservoir (h : s.acts L t) (r : Reservoir) (x : ReservoirState) : s.acts L (t.setReservoir r x) := by
  cases r
  · exact h.units t.eng t.soft { t.dosing with det := x } t.door.dry t.door.settle
  · exact h.units t.eng t.soft { t.dosing with rinse := x } t.door.dry t.door.settle

theorem setColumn (h : s.acts L t) (c : Side) (x : Column) : s.acts L (t.setColumn c x) := by
  cases c
  · exact h.units t.eng { t.soft with colA := x } t.dosing t.door.dry t.door.settle
  · exact h.units t.eng { t.soft with colB := x } t.dosing t.door.dry t.door.settle

theorem findsError (h : s.acts L t) (f : t.findsError u) : s.acts L u := by
  refine h.trans ⟨?_, f.posts, fun k _ => by unfold State.load; rw [f.arb],
    fun k => by unfold State.load; rw [f.arb]; exact ⟨rfl, rfl⟩, fun d => by rw [f.arb]; exact d, fun p e => by rw [f.faulted, e]⟩
  rw [f.rest]

theorem integrityError (h : s.acts L t) (x : TableId) (b : Option Bank) (i : Nat) : s.acts L (t.integrityError x b i) :=
  h.findsError (t.integrityError_findsError x b i)

theorem setFaulted (h : s.acts L t) (p : ProfileId) : s.acts L (t.setFaulted p true) := by
  refine h.trans ?_
  cases p <;>
    exact ⟨rfl, ⟨[], rfl⟩, fun _ _ => rfl, fun _ => ⟨rfl, rfl⟩, id, fun q => by
      cases q <;> simp [State.setFaulted, State.faulted]⟩

theorem useProfile (h : s.acts L t) (p : ProfileId) : s.acts L (t.useProfile p) := by
  by_cases e : t.inEffect p
  · rw [State.useProfile_of_inEffect e]
    exact h
  · rw [State.useProfile_of_damaged e]
    have found := h.integrityError .profile none (profileCode p)
    generalize t.integrityError .profile none (profileCode p) = x at found ⊢
    have marked := (found.setFaulted p).post .profileFault 2 (profileCode p) 0
    generalize (x.setFaulted p true).post .profileFault 2 (profileCode p) 0 = y at marked ⊢
    cases p
    · exact (marked.engine _).markEval
    · exact marked.units y.eng { y.soft with colA := _, colB := _ } y.dosing y.door.dry y.door.settle
    · exact marked.setReservoir .det _
    · exact marked.setReservoir .rinse _

end State.acts

end Sys2Proof.Machine
end

section
/-! ### The dosing unit's operations (06)

Each of them leaves the engine but for the count of doses, the softener but for the due flags that a use of its profile judges,
and the door unit alone. -/

namespace Sys2Proof.Machine

structure State.doses (s t : State) : Prop where
  acts : s.acts ofDosing t
  eng : ∃ n, t.eng = { s.eng with totals := { s.eng.totals with doses := n } }
  soft : ∃ a b, t.soft = { s.soft with colA := { s.soft.colA with due := a }, colB := { s.soft.colB with due := b } }
  door : t.door = s.door

namespace State.doses

variable {s t u : State}

theorem quiet (h : s.acts ofDosing t) (eng : t.eng = s.eng) (soft : t.soft = s.soft) (door : t.door = s.door) : s.doses t :=
  ⟨h, ⟨s.eng.totals.doses, eng⟩, ⟨s.soft.colA.due, s.soft.colB.due, soft⟩, door⟩

theorem refl (s : State) : s.doses s := quiet (.refl _ s) rfl rfl rfl

theorem trans (h : s.doses t) (g : t.doses u) : s.doses u := by
  obtain ⟨n, eng⟩ := h.eng
  obtain ⟨m, eng'⟩ := g.eng
  obtain ⟨a, b, soft⟩ := h.soft
  obtain ⟨a', b', soft'⟩ := g.soft
  exact ⟨h.acts.trans g.acts, ⟨m, by rw [eng', eng]⟩, ⟨a', b', by rw [soft', soft]⟩, g.door.trans h.door⟩

theorem release (h : s.doses t) (r : Reservoir) : s.doses (t.release (pumpOf r)) :=
  h.trans (quiet ((State.acts.refl _ t).release (pumpOf_ofDosing r)) (by simp) (by simp) (by simp))

theorem request (h : s.doses t) (r : Reservoir) (a : Nat) : s.doses (t.request (pumpOf r) a) :=
  h.trans (quiet ((State.acts.refl _ t).request (pumpOf_ofDosing r) a) (by simp) (by simp) (by simp))

theorem post (h : s.doses t) (k : NoticeKind) (l n : Nat) (v : Int) : s.doses (t.post k l n v) :=
  h.trans (quiet ((State.acts.refl _ t).post k l n v) rfl rfl rfl)

theorem postAll (h : s.doses t) (ns : List Notice) : s.doses (t.postAll ns) :=
  h.trans (quiet ((State.acts.refl _ t).postAll ns) rfl rfl rfl)

theorem dose (h : s.doses t) (d : Option Dose) : s.doses { t with dosing.dose := d } :=
  h.trans (quiet ((State.acts.refl _ t).dose d) rfl rfl rfl)

theorem setReservoir (h : s.doses t) (r : Reservoir) (x : ReservoirState) : s.doses (t.setReservoir r x) :=
  h.trans (quiet ((State.acts.refl _ t).setReservoir r x) (by simp) (by simp) (by simp))

theorem countDose (h : s.doses t) : s.doses t.countDose :=
  h.trans ⟨(State.acts.refl _ t).engine _, ⟨_, rfl⟩, ⟨_, _, rfl⟩, rfl⟩

theorem integrityError (h : s.doses t) (x : TableId) (b : Option Bank) (i : Nat) : s.doses (t.integrityError x b i) := by
  have found := t.integrityError_findsError x b i
  exact h.trans (quiet ((State.acts.refl _ t).findsError found) found.eng found.soft found.door)

theorem useProfile (h : s.doses t) {p : ProfileId} (hp : p ≠ .machine) : s.doses (t.useProfile p) := by
  refine h.trans ⟨(State.acts.refl _ t).useProfile p, ⟨_, (State.useProfile_eng_arb hp).1⟩, ?_, ?_⟩
  · by_cases e : t.inEffect p
    · rw [State.useProfile_of_inEffect e]
      exact ⟨_, _, rfl⟩
    · have found := t.integrityError_findsError .profile none (profileCode p)
      rw [State.useProfile_of_damaged e, ← found.soft]
      cases p with
      | machine => exact absurd rfl hp
      | softener => exact ⟨_, _, rfl⟩
      | det => exact ⟨_, _, rfl⟩
      | rinse => exact ⟨_, _, rfl⟩
  · by_cases e : t.inEffect p
    · rw [State.useProfile_of_inEffect e]
    · have found := t.integrityError_findsError .profile none (profileCode p)
      rw [State.useProfile_of_damaged e, ← found.door]
      cases p <;> rfl

theorem useDosing (h : s.doses t) (r : Reservoir) : s.doses (t.useProfile (dosingProfileId r)) :=
  h.useProfile (by cases r <;> nofun)

/-! #### The operations of 06 6.4 and 6.5 -/

theorem doseDone (h : s.doses t) (r : Reservoir) (tag n : Nat) : s.doses (t.doseDone r tag n) :=
  (((h.release r).post .doseDone 5 tag n).dose none).countDose

theorem doseEmpty (h : s.doses t) (r : Reservoir) (tag : Nat) : s.doses (t.doseEmpty r tag) :=
  ((h.release r).post .doseEmpty 2 tag _).dose none

theorem dropDose (h : s.doses t) : s.doses t.dropDose := by
  unfold State.dropDose
  split
  · exact h
  · exact ((h.dose none).release _).countDose

theorem abandonDose (h : s.doses t) : s.doses t.abandonDose := (h.postAll _).dropDose

theorem factor (h : s.doses t) (r : Reservoir) (c : Nat) (x : Int) : s.doses (t.factor r c x).1 := by
  unfold State.factor
  split
  · exact h.post ..
  · dsimp only
    split
    · exact h.post ..
    · split
      · exact h.integrityError ..
      · exact h

theorem hardnessFactor (h : s.doses t) (r : Reservoir) : s.doses (t.hardnessFactor r).1 := by
  unfold State.hardnessFactor
  split
  · exact h
  · exact (h.useProfile (p := .softener) nofun).factor ..

theorem soilFactor (h : s.doses t) (r : Reservoir) (tag : Nat) : s.doses (t.soilFactor r tag).1 := by
  unfold State.soilFactor
  split
  · exact h
  · split
    · exact h.factor ..
    · exact h.post ..

theorem beginDose (h : s.doses t) (r : Reservoir) (dBase tag : Nat) : s.doses (t.beginDose r dBase tag) := by
  have asked := ((h.abandonDose.useDosing r).hardnessFactor r).soilFactor r tag
  unfold State.beginDose
  dsimp only
  split
  · exact asked.doseEmpty ..
  · split
    · exact asked.doseDone ..
    · exact (asked.dose _).request ..

theorem startStroke (h : s.doses t) (d : Dose) : s.doses (t.startStroke d) := by
  unfold State.startStroke
  split
  · exact h.doseEmpty ..
  · exact h.dose _

theorem dosingReport (h : s.doses t) (r : Reservoir) : s.doses (t.dosingReport r) := by
  unfold State.dosingReport
  split
  · exact h
  · split
    · split
      · exact h.startStroke _
      · exact h.dose _
    · exact h

theorem startDose (h : s.doses t) (r : Reservoir) (dBase tag : Nat) : s.doses (t.startDose r dBase tag) :=
  (h.beginDose r dBase tag).dosingReport r

theorem strokeDone (h : s.doses t) (d : Dose) : s.doses (t.strokeDone d) := by
  unfold State.strokeDone
  dsimp only
  have counted := fun x => (h.useDosing d.reservoir).setReservoir d.reservoir x
  split
  · exact (counted _).dose _
  · exact (counted _).doseDone ..

theorem doseStageChange (h : s.doses t) : s.doses t.doseStageChange := by
  unfold State.doseStageChange
  split
  · exact h
  · split
    · exact h
    · split
      · exact h.startStroke _
      · exact h.dose _

theorem pauseDose (h : s.doses t) : s.doses t.pauseDose := by
  unfold State.pauseDose
  split
  · exact h
  · exact (h.dose _).release _

theorem resumeDose (h : s.doses t) : s.doses t.resumeDose := by
  unfold State.resumeDose
  split
  · exact h
  · split
    · split
      · exact h.doseDone ..
      · exact (h.dose _).request ..
    · exact h.abandonDose

/-! #### What stays of the engine -/

theorem head (h : s.doses t) : t.eng.head = s.eng.head := by
  obtain ⟨n, e⟩ := h.eng
  rw [e]

theorem queue (h : s.doses t) : t.eng.queue = s.eng.queue := by
  obtain ⟨n, e⟩ := h.eng
  rw [e]

theorem engineState (h : s.doses t) : t.eng.state = s.eng.state := by
  obtain ⟨n, e⟩ := h.eng
  rw [e]

theorem susp (h : s.doses t) : t.eng.susp = s.eng.susp := by
  obtain ⟨n, e⟩ := h.eng
  rw [e]

theorem profile (h : s.doses t) : t.eng.profile = s.eng.profile := by
  obtain ⟨n, e⟩ := h.eng
  rw [e]

theorem runningIn (h : s.doses t) (st : Stage) : t.runningIn st = s.runningIn st := by
  unfold State.runningIn
  rw [h.head, h.engineState]

theorem washHead (h : s.doses t) : t.washHead = s.washHead := by
  unfold State.washHead State.headRecord
  rw [h.queue]

theorem own (h : s.doses t) {k : LoadId} (hk : ¬ ofDosing k) : (t.load k).own = (s.load k).own := h.acts.own k hk

theorem holder (h : s.doses t) : t.soft.holder = s.soft.holder := by
  obtain ⟨a, b, e⟩ := h.soft
  rw [e]

end State.doses

end Sys2Proof.Machine
end

section
/-! ### A fill on the path (R58, R90 to R92) -/

namespace Sys2Proof.Machine

/-- The accounting of a fill and the stray volume stand, and a fill that holds the path holds it still. -/
structure State.fillKept (s t : State) : Prop where
  account : (t.soft.vFill, t.soft.u, t.soft.exhaustedMark, t.soft.stray) =
    (s.soft.vFill, s.soft.u, s.soft.exhaustedMark, s.soft.stray)
  holder : s.soft.holder = .fill → t.soft.holder = .fill

namespace State.fillKept

variable {s t u : State}

theorem refl (s : State) : s.fillKept s := ⟨rfl, id⟩

theorem trans (h : s.fillKept t) (g : t.fillKept u) : s.fillKept u := ⟨g.account.trans h.account, g.holder ∘ h.holder⟩

theorem setColumn (h : s.fillKept t) (c : Side) (x : Column) : s.fillKept (t.setColumn c x) := by
  refine h.trans ?_
  cases c <;> exact ⟨rfl, id⟩

theorem useSoftener (h : s.fillKept t) : s.fillKept (t.useProfile .softener) := by
  obtain ⟨a, b, e⟩ := t.useSoftener_soft
  exact h.trans ⟨by rw [e], fun hf => by rw [e]; exact hf⟩

theorem regenRequestPath (h : s.fillKept t) : s.fillKept t.regenRequestPath := by
  have served := State.routes.regenRequestPath t
  exact h.trans ⟨by rw [served.rest], fun hf => (t.regenRequestPath_holder.2.1 hf).1⟩

theorem startRegen (h : s.fillKept t) (c : Side) : s.fillKept (t.startRegen c) := by
  have begun := (h.trans (u := { t with
    soft.regen := some { column := c, stage := .brine, flowing := false, volume := 0, soakTimer := 0 } }) ⟨rfl, id⟩).setColumn c
      { t.column c with state := .brine, saltReduced := t.soft.saltLow }
  unfold State.startRegen
  refine regenRequestPath ?_
  split
  · exact begun.useSoftener.trans ⟨rfl, id⟩
  · exact begun

theorem autoCheck (h : s.fillKept t) : s.fillKept t.autoCheck := by
  rcases t.autoCheck_cases with e | ⟨-, e⟩ | ⟨c, -, -, -, e⟩ <;> rw [e]
  · exact h
  · exact h.useSoftener
  · exact h.useSoftener.startRegen c

theorem confirmFlip (h : s.fillKept t) (c : Side) : s.fillKept (t.confirmFlip c) := by
  unfold State.confirmFlip
  dsimp only
  split
  · have old : s.fillKept (if (t.column (otherSide c)).state = .service then
        t.setColumn (otherSide c) { t.column (otherSide c) with state := .exhausted } else t) := by
      split
      · exact h.setColumn ..
      · exact h
    exact autoCheck ((old.setColumn ..).trans ⟨rfl, id⟩)
  · exact h

theorem moveArrived (h : s.fillKept t) (m : SelectorMove) : s.fillKept (t.moveArrived m) := by
  unfold State.moveArrived
  split
  · exact h.confirmFlip _
  · exact h
  · exact h

theorem createMove (h : s.fillKept t) (p : MovePurpose) (c : Side) : s.fillKept (t.createMove p c) := by
  have used := h.useSoftener
  unfold State.createMove
  dsimp only
  split
  · split
    · exact used.moveArrived _
    · exact used.trans ⟨rfl, id⟩
  · exact used.trans ⟨rfl, id⟩

theorem judgeFlip (h : s.fillKept t) : s.fillKept t.judgeFlip := by
  unfold State.judgeFlip
  split
  · exact h
  · exact createMove (t := { t with soft.flipTried := true }) (h.trans ⟨rfl, id⟩) _ _

theorem routeHolder (h : s.fillKept t) : s.fillKept t.routeHolder := by
  have served := State.routes.routeHolder t
  exact h.trans ⟨by rw [served.rest], fun hf => by rw [State.routeHolder_holder, hf]⟩

theorem servePath (h : s.fillKept t) : s.fillKept t.servePath := by
  unfold State.servePath
  split
  · exact h
  · split
    · exact h
    · exact h
    · dsimp only
      split
      · exact h.judgeFlip
      · exact h.judgeFlip.routeHolder
    · exact h.routeHolder

end State.fillKept

/-- A fill takes the path, and a NEW one starts its accounting at 0 (R58, R90). -/
theorem State.fillTake_spec (s : State) (mark : RunMark) :
    s.softens (s.fillTake mark) ∧ (s.fillTake mark).soft.holder = .fill ∧
      (mark = .new → (s.fillTake mark).soft.vFill = 0 ∧ (s.fillTake mark).soft.u = 0 ∧
        (s.fillTake mark).soft.exhaustedMark = false) ∧
      (mark = .resumed → (s.fillTake mark).soft.vFill = s.soft.vFill ∧ (s.fillTake mark).soft.u = s.soft.u) := by
  obtain ⟨p, hp⟩ : ∃ p : State, p = if s.soft.holder = .regen then
      { ((s.release .inletValve).release .brineValve) with
        soft.waiting := true, soft.regen := s.soft.regen.map (fun r => { r with flowing := false }) } else s := ⟨_, rfl⟩
  have freed : s.softens p ∧ (p.soft.vFill, p.soft.u) = (s.soft.vFill, s.soft.u) := by
    rw [hp]
    split
    · have released := ((State.softens.refl s).release (l := .inletValve) (.inl (.inl rfl))).release (l := .brineValve)
        (.inl (.inr (.inr rfl)))
      have soft : ((s.release .inletValve).release .brineValve).soft = s.soft := by simp
      generalize (s.release .inletValve).release .brineValve = x at released soft ⊢
      refine ⟨released.record { x.soft with
        waiting := true, regen := s.soft.regen.map (fun r => { r with flowing := false }) } rfl, ?_⟩
      show (x.soft.vFill, x.soft.u) = _
      rw [soft]
    · exact ⟨.refl s, rfl⟩
  obtain ⟨q, hq⟩ : ∃ q : State, q = State.markEval { p with soft.holder := .fill, soft.progress := .selecting } := ⟨_, rfl⟩
  have taken : s.softens q ∧ q.soft.holder = .fill ∧ (q.soft.vFill, q.soft.u) = (s.soft.vFill, s.soft.u) := by
    rw [hq]
    exact ⟨(freed.1.record { p.soft with holder := .fill, progress := .selecting } rfl).markEval, rfl, freed.2⟩
  obtain ⟨softens, holder, account⟩ := taken
  obtain ⟨n, hn⟩ : ∃ n : State, n = { q with
    soft.vFill := 0, soft.u := 0, soft.exhaustedMark := false, soft.flipTried := false } := ⟨_, rfl⟩
  have fresh : s.softens n := by
    rw [hn]
    exact softens.record { q.soft with vFill := 0, u := 0, exhaustedMark := false, flipTried := false } rfl
  cases mark with
  | new =>
    have e : s.fillTake .new = n.servePath := by rw [hn, hq, hp]; rfl
    have kept := (State.fillKept.refl n).servePath
    have zero : (n.soft.vFill, n.soft.u, n.soft.exhaustedMark, n.soft.stray) = (0, 0, false, q.soft.stray) := by rw [hn]
    rw [e]
    have accounts := kept.account.trans zero
    simp only [Prod.mk.injEq] at accounts
    exact ⟨fresh.servePath, kept.holder (by rw [hn]; exact holder), fun _ => ⟨accounts.1, accounts.2.1, accounts.2.2.1⟩, nofun⟩
  | resumed =>
    have e : s.fillTake .resumed = q.servePath := by rw [hq, hp]; rfl
    have kept := (State.fillKept.refl q).servePath
    rw [e]
    have accounts := kept.account
    simp only [Prod.mk.injEq] at accounts account
    exact ⟨softens.servePath, kept.holder holder, nofun,
      fun _ => ⟨accounts.1.trans account.1, accounts.2.1.trans account.2⟩⟩

theorem State.requestFillPath_of_head {s : State} {h : StageRecord} (e : s.eng.head = some h) :
    s.requestFillPath = State.fillTake { s with eng.head := some { h with runMark := .resumed } } h.runMark := by
  unfold State.requestFillPath State.withHead
  rw [e]
  rfl

/-- The running FILL takes the path (R58): its mark is RESUMED from then on. -/
theorem State.requestFillPath_spec {s : State} {h : StageRecord} (e : s.eng.head = some h) :
    ({ s with eng.head := some { h with runMark := .resumed } }).softens s.requestFillPath ∧
      s.requestFillPath.soft.holder = .fill ∧
      (h.runMark = .new → s.requestFillPath.soft.vFill = 0 ∧ s.requestFillPath.soft.u = 0 ∧
        s.requestFillPath.soft.exhaustedMark = false) := by
  rw [State.requestFillPath_of_head e]
  obtain ⟨softens, holder, new, -⟩ := State.fillTake_spec { s with eng.head := some { h with runMark := .resumed } } h.runMark
  exact ⟨softens, holder, new⟩

end Sys2Proof.Machine
end

section
/-! ### The engine's and the door unit's operations (04, 07) -/

namespace Sys2Proof.Machine

theorem ofEngine_iff (k : LoadId) :
    ofEngine k ↔ k = .heater ∨ k = .circPump ∨ k = .drainPump ∨ k = .fan ∨ k = .doorActuator := Iff.rfl

/-! #### DRAIN (R72) -/

/-- The stage record as DRAIN begins (R72). -/
def StageRecord.draining (h : StageRecord) : StageRecord :=
  { h with stage := .drain, drainTimer := 0, timeoutSpent := false, thermostat := false }

theorem State.enterDrain_acts (s : State) : s.acts ofEngine s.enterDrain := by
  have released := ((State.acts.refl ofEngine s).release (l := .circPump) (.inr (.inl rfl))).release (l := .heater) (.inl rfl)
  have entered := released.withHead StageRecord.draining
  unfold State.enterDrain
  dsimp only
  split
  · exact entered.request (.inr (.inr (.inl rfl))) 0
  · exact entered

theorem State.enterDrain_eng (s : State) : s.enterDrain.eng = { s.eng with head := s.eng.head.map StageRecord.draining } := by
  have eng : ((s.release .circPump).release .heater).eng = s.eng := by simp
  unfold State.enterDrain
  dsimp only
  generalize (s.release .circPump).release .heater = x at eng
  have e : (x.withHead fun h => { h with stage := .drain, drainTimer := 0, timeoutSpent := false, thermostat := false }).eng =
      { s.eng with head := s.eng.head.map StageRecord.draining } := by
    unfold State.withHead
    rw [eng]
    rfl
  split
  · exact e
  · exact e

theorem State.enterDrain_own (s : State) :
    (s.enterDrain.load .circPump).own = none ∧ (s.enterDrain.load .heater).own = none ∧
      (s.eng.state = .running → (s.enterDrain.load .drainPump).own = some 0) ∧
      (s.eng.state ≠ .running → (s.enterDrain.load .drainPump).own = (s.load .drainPump).own) := by
  have eng : ((s.release .circPump).release .heater).eng = s.eng := by simp
  have circ : (((s.release .circPump).release .heater).load .circPump).own = none := by simp [State.release_own]
  have heat : (((s.release .circPump).release .heater).load .heater).own = none := by simp [State.release_own]
  have pump : (((s.release .circPump).release .heater).load .drainPump).own = (s.load .drainPump).own := by
    simp [State.release_own]
  unfold State.enterDrain
  dsimp only
  generalize (s.release .circPump).release .heater = x at eng circ heat pump
  have state : ∀ f, (x.withHead f).eng.state = s.eng.state := fun f => by rw [← eng]; rfl
  have load : ∀ f k, (x.withHead f).load k = x.load k := fun _ _ => rfl
  rw [state]
  split
  · rename_i hr
    refine ⟨?_, ?_, fun _ => ?_, fun h => absurd hr h⟩
    · rw [State.request_own, if_neg nofun, load, circ]
    · rw [State.request_own, if_neg nofun, load, heat]
    · rw [State.request_own, if_pos rfl]
  · rename_i hr
    exact ⟨circ, heat, fun h => absurd h hr, fun _ => pump⟩

/-! #### The thermostat (R64, R69) -/

theorem State.setThermostat_acts (s : State) (on : Bool) : s.acts (· = .heater) (s.setThermostat on) := by
  have decided := (State.acts.refl (· = .heater) s).withHead (fun h => { h with thermostat := on })
  unfold State.setThermostat
  dsimp only
  split
  · split
    · exact decided
    · exact decided.request rfl 0
  · exact decided.release rfl

/-- The thermostat decision is a matter of the stage record and of HEATER alone. -/
theorem State.setThermostat_spec (s : State) (on : Bool) :
    (s.setThermostat on).eng = { s.eng with head := s.eng.head.map (fun h => { h with thermostat := on }) } ∧
      (s.setThermostat on).soft = s.soft ∧ (s.setThermostat on).dosing = s.dosing ∧ (s.setThermostat on).door = s.door ∧
      (s.setThermostat on).link = s.link ∧ (((s.setThermostat on).load .heater).own ≠ none ↔ on = true) ∧
      (on = false → ((s.setThermostat on).load .heater).own = none) := by
  obtain ⟨x, hx⟩ : ∃ x, x = s.withHead (fun h => { h with thermostat := on }) := ⟨_, rfl⟩
  have set : s.setThermostat on = if on then (if (x.load .heater).own.isSome then x else x.request .heater 0)
      else x.release .heater := by rw [hx]; rfl
  have eng : x.eng = { s.eng with head := s.eng.head.map (fun h => { h with thermostat := on }) } := by rw [hx]; rfl
  have rest : x.soft = s.soft ∧ x.dosing = s.dosing ∧ x.door = s.door ∧ x.link = s.link := by
    rw [hx]; exact ⟨rfl, rfl, rfl, rfl⟩
  obtain ⟨soft, dosing, door, link⟩ := rest
  rw [set]
  cases on with
  | true =>
    rw [if_pos rfl]
    split
    · rename_i h
      exact ⟨eng, soft, dosing, door, link, ⟨fun _ => rfl, fun _ => Option.isSome_iff_ne_none.mp h⟩, nofun⟩
    · exact ⟨eng, soft, dosing, door, link, ⟨fun _ => rfl, fun _ => by rw [State.request_own, if_pos rfl]; nofun⟩, nofun⟩
  | false =>
    rw [if_neg nofun]
    have off : ((x.release .heater).load .heater).own = none := by rw [State.release_own, if_pos rfl]
    exact ⟨by simp [eng], by simp [soft], by simp [dosing], by simp [door], by simp [link],
      ⟨fun h => absurd off h, nofun⟩, fun _ => off⟩

/-! #### OPENING and CONDENSE (R137, R139) -/

theorem State.enterOpening_acts (s : State) : s.acts (· = .doorActuator) s.enterOpening :=
  (((State.acts.refl _ s).withHead _).request (by rfl) 0).withDry _

/-- OPENING begins with its first attempt, pushing already where the actuator is granted (R139; log 52). -/
theorem State.enterOpening_spec (s : State) :
    s.enterOpening.eng = { s.eng with head := s.eng.head.map (fun h => { h with stage := .opening }) } ∧
      s.enterOpening.soft = s.soft ∧ s.enterOpening.dosing = s.dosing ∧ s.enterOpening.link = s.link ∧
      (s.enterOpening.load .doorActuator).own = some 0 ∧
      s.enterOpening.door = { s.door with dry := s.door.dry.map (fun d => { d with
        attempt := 1
        attState := if (s.load .doorActuator).grant = none then .requested else .pushing
        window := 0
        rest := 0 }) } := by
  have asked : ((s.setStage .opening).request .doorActuator 0).granted .doorActuator = (s.load .doorActuator).grant.isSome := by
    have load : ((s.setStage .opening).request .doorActuator 0).load .doorActuator =
        { s.load .doorActuator with own := some 0 } := by
      rw [State.request_load, if_pos rfl]
      rfl
    unfold State.granted State.requested
    rw [load]
    simp
  have own : (((s.setStage .opening).request .doorActuator 0).load .doorActuator).own = some 0 := by
    rw [State.request_own, if_pos rfl]
  refine ⟨rfl, rfl, rfl, rfl, own, ?_⟩
  unfold State.enterOpening
  dsimp only
  rw [asked]
  cases (s.load .doorActuator).grant <;> rfl

/-! #### The first stage of a head (R57, R72, R136, R137) -/

/-- The head starts with the door LATCHED: its stage begins, and nothing completes at once. -/
theorem State.startHead_latched {s : State} {p : PhaseRecord} {rest : List PhaseRecord} (hq : s.eng.queue = p :: rest)
    (hr : s.eng.state = .running) (hd : s.door.state = .latched) :
    s.startHead.2 = false ∧ s.acts (fun _ => True) s.startHead.1 ∧
      s.startHead.1.eng.state = .running ∧ s.startHead.1.eng.queue = p :: rest ∧ s.startHead.1.eng.totals = s.eng.totals ∧
      s.startHead.1.eng.susp = s.eng.susp ∧
      (∀ w, p.body = .wash w →
        s.startHead.1.eng.head = some { StageRecord.start .fill 0 false with runMark := .resumed } ∧
        s.startHead.1.soft.holder = .fill ∧ s.startHead.1.soft.vFill = 0 ∧ s.startHead.1.soft.u = 0 ∧
        s.startHead.1.soft.exhaustedMark = false) ∧
      (∀ d, p.body = .drain d →
        s.startHead.1.eng.head = some (StageRecord.start .drain 0 false) ∧ (s.startHead.1.load .drainPump).own = some 0 ∧
        s.startHead.1.link = s.link) ∧
      (∀ f, p.body = .dry f →
        s.startHead.1.link = s.link ∧ (∀ k, k ≠ .doorActuator → (s.startHead.1.load k).own = (s.load k).own) ∧
        (s.coolEnough f = false → f.condenseMax ≠ 0 →
          s.startHead.1.eng.head = some (StageRecord.start .condense 0 false) ∧ s.startHead.1.door.dry = some DryRecord.new) ∧
        (s.coolEnough f = true ∨ f.condenseMax = 0 →
          s.startHead.1.eng.head = some (StageRecord.start .opening 0 false) ∧
          (s.startHead.1.load .doorActuator).own = some 0 ∧
          s.startHead.1.door.dry = some { DryRecord.new with
            attempt := 1
            attState := if (s.load .doorActuator).grant = none then .requested else .pushing })) := by
  have record : s.headRecord = some p := by rw [State.headRecord, hq]; rfl
  have latched : ∀ h : StageRecord, State.judgeStartDoor { s with eng.head := some h } = { s with eng.head := some h } :=
    fun h => if_pos hd
  have any : ∀ {L : LoadId → Prop} {t : State}, s.acts L t → s.acts (fun _ => True) t := fun h => h.mono fun _ _ => trivial
  unfold State.startHead
  rw [record]
  dsimp only
  split
  · rename_i w hw
    dsimp only
    rw [latched, if_pos hr]
    obtain ⟨softens, holder, new⟩ := State.requestFillPath_spec (s := { s with eng.head := some (StageRecord.start .fill 0 false) })
      (h := StageRecord.start .fill 0 false) rfl
    obtain ⟨v, u, mark⟩ := new rfl
    have eng := softens.eng
    refine ⟨rfl, ?_, ?_, ?_, ?_, ?_, fun _ _ => ⟨?_, holder, v, u, mark⟩, fun d e => (nomatch hw.symm.trans e),
      fun f e => (nomatch hw.symm.trans e)⟩
    · exact ((State.acts.refl _ s).engine _).trans ((State.acts.softens softens).mono fun _ _ => trivial)
    · rw [eng]; exact hr
    · rw [eng]; exact hq
    · rw [eng]
    · rw [eng]
    · rw [eng]
  · rename_i d hw
    dsimp only
    rw [latched, if_pos hr]
    have eng := State.enterDrain_eng { s with eng.head := some (StageRecord.start .drain 0 false) }
    have link := (State.enterDrain_units { s with eng.head := some (StageRecord.start .drain 0 false) }).2.2.2.2.2.1
    refine ⟨rfl, ?_, ?_, ?_, ?_, ?_, fun w e => (nomatch hw.symm.trans e), fun _ _ => ⟨?_, ?_, link⟩,
      fun f e => (nomatch hw.symm.trans e)⟩
    · exact ((State.acts.refl _ s).engine _).trans ((State.enterDrain_acts _).mono fun _ _ => trivial)
    · rw [eng]; exact hr
    · rw [eng]; exact hq
    · rw [eng]
    · rw [eng]
    · rw [eng]; rfl
    · exact (State.enterDrain_own _).2.2.1 hr
  · rename_i f hf
    obtain ⟨x, hx⟩ : ∃ x : State, x = { s with
      eng.head := some (StageRecord.start .condense 0 false), door.dry := some DryRecord.new } := ⟨_, rfl⟩
    have begun : (x.setStage .condense).withDry (fun d => { d with condense := 0 }) = x := by rw [hx]; rfl
    have acts : s.acts (fun _ => True) x := by
      rw [hx]
      exact (State.acts.refl _ s).units _ s.soft s.dosing _ s.door.settle
    have cool : x.coolEnough f = s.coolEnough f := acts.coolEnough f
    have notLatched : ¬ x.door.state ≠ .latched := by rw [acts.doorState, hd]; exact fun h => h rfl
    have load : ∀ k, x.load k = s.load k := fun k => by rw [hx]; rfl
    have link : x.link = s.link := by rw [hx]
    rw [← hx]
    unfold State.enterCondense
    dsimp only
    rw [begun, if_neg notLatched, cool]
    split
    · rename_i hc
      obtain ⟨eng, -, -, link', own, door⟩ := x.enterOpening_spec
      have opened := x.enterOpening_acts
      have cooled : s.coolEnough f = true ∨ f.condenseMax = 0 := by simpa using hc
      refine ⟨rfl, acts.trans (opened.mono fun _ _ => trivial), ?_, ?_, ?_, ?_, fun w e => (nomatch hf.symm.trans e),
        fun d e => (nomatch hf.symm.trans e), fun g e => ?_⟩
      · rw [eng, hx]; exact hr
      · rw [eng, hx]; exact hq
      · rw [eng, hx]
      · rw [eng, hx]
      · cases hf.symm.trans e
        refine ⟨link'.trans link, fun k hk => by rw [opened.own k hk, load], fun hn hm => ?_, fun _ => ⟨?_, own, ?_⟩⟩
        · rcases cooled with h | h
          · exact nomatch hn.symm.trans h
          · exact absurd h hm
        · rw [eng, hx]; rfl
        · rw [door, load, hx]; rfl
    · rename_i hc
      refine ⟨rfl, acts, ?_, ?_, ?_, ?_, fun w e => (nomatch hf.symm.trans e), fun d e => (nomatch hf.symm.trans e), fun g e => ?_⟩
      · rw [hx]; exact hr
      · rw [hx]; exact hq
      · rw [hx]
      · rw [hx]
      · cases hf.symm.trans e
        refine ⟨link, fun k _ => by rw [load], fun _ _ => ?_, fun h => absurd (by simpa using h) hc⟩
        rw [hx]
        exact ⟨rfl, rfl⟩

end Sys2Proof.Machine
end

section
/-! ### CYCLE_START (R47, R48, R168) -/

namespace Sys2Proof.Machine

theorem State.judgeRoleNow_of_sound {s : State} {r : Role} (h : s.roleFreshness r = .fresh ∨ s.roleFreshness r = .noData) :
    s.judgeRoleNow r = s := by
  unfold State.judgeRoleNow
  rcases h with h | h <;> rw [h] <;> rfl

/-- A cause with the latch clear and the part in RUN sets the latch, with its reason, and makes the engine TRIPPED (R54, R170). -/
theorem State.tripCause_of_clear {s : State} (hl : s.trip.latch = false) (hm : s.link.mode = .run) (c : Cause) :
    (s.tripCause c).trip.latch = true ∧ (s.tripCause c).trip.record.reason = c.reason ∧
      (s.tripCause c).eng.state = .tripped ∧ (s.tripCause c).eng.queue = [] := by
  obtain ⟨q, hq⟩ : ∃ q, q = s.restartQuiet c := ⟨_, rfl⟩
  have quiet : q.trip.latch = false ∧ q.link.mode = .run := by
    rw [hq]
    unfold State.restartQuiet
    split
    · exact ⟨hl, hm⟩
    · exact ⟨hl, hm⟩
  have set : s.tripCause c = q.setLatch c := by
    unfold State.tripCause
    dsimp only
    rw [← hq, if_neg (by rw [quiet.2]; nofun), quiet.1]
    rfl
  obtain ⟨u, ns, hended, -, he⟩ := q.setLatch_spec c
  have trip : (q.setLatch c).trip = u.trip := (congrArg (fun x : State => x.trip) he :)
  have eng : (q.setLatch c).eng = u.eng := (congrArg (fun x : State => x.eng) he :)
  rw [set, trip, eng, hended.trip, hended.eng]
  have run : (q.latched c).link.mode = .run := quiet.2
  rw [run]
  exact ⟨rfl, rfl, rfl, rfl⟩

/-- A later cause under a set latch leaves the engine as the trip has left it (R171). -/
theorem State.tripCause_eng_of_latched {s : State} (h : s.trip.latch = true) (c : Cause) : (s.tripCause c).eng = s.eng := by
  have quiet : (s.restartQuiet c).trip.latch = true ∧ (s.restartQuiet c).eng = s.eng := by
    unfold State.restartQuiet
    split <;> exact ⟨h, rfl⟩
  obtain ⟨latch, eng⟩ := quiet
  unfold State.tripCause
  dsimp only
  generalize s.restartQuiet c = q at latch eng ⊢
  split
  · exact eng
  · split
    · exact eng
    · exact eng

/-- A role that is STALE or FAULTED as a cycle starts trips the part with SENSOR_LOST (R168). -/
theorem State.judgeSensorsNow_of_lost {s : State} (hl : s.trip.latch = false) (hm : s.link.mode = .run) {r : Role}
    (hr : r = .tubTemp ∨ r = .tubLevel) (lost : s.roleFreshness r = .stale ∨ s.roleFreshness r = .faulted) :
    s.judgeSensorsNow.trip.latch = true ∧ s.judgeSensorsNow.trip.record.reason = .sensorLost ∧
      s.judgeSensorsNow.eng.state = .tripped ∧ s.judgeSensorsNow.eng.queue = [] := by
  have judged : ∀ r, s.roleFreshness r = .stale ∨ s.roleFreshness r = .faulted →
      s.judgeRoleNow r = s.tripCause (lostCause r (s.roleSource r) (s.heldValue r)) := fun r h => if_pos h
  unfold State.judgeSensorsNow
  by_cases ht : s.roleFreshness .tubTemp = .stale ∨ s.roleFreshness .tubTemp = .faulted
  · rw [judged .tubTemp ht]
    obtain ⟨latch, reason, state, queue⟩ := State.tripCause_of_clear hl hm
      (lostCause .tubTemp (s.roleSource .tubTemp) (s.heldValue .tubTemp))
    generalize s.tripCause _ = t at latch reason state queue
    unfold State.judgeRoleNow
    split
    · obtain ⟨latch', reason'⟩ := State.tripCause_of_latched latch
        (lostCause .tubLevel (t.roleSource .tubLevel) (t.heldValue .tubLevel))
      rw [State.tripCause_eng_of_latched latch]
      exact ⟨latch', reason'.trans reason, state, queue⟩
    · exact ⟨latch, reason, state, queue⟩
  · have level : s.roleFreshness .tubLevel = .stale ∨ s.roleFreshness .tubLevel = .faulted := by
      rcases hr with rfl | rfl
      · exact absurd lost ht
      · exact lost
    have still : s.judgeRoleNow .tubTemp = s := if_neg ht
    rw [still, judged .tubLevel level]
    exact State.tripCause_of_clear hl hm _

theorem State.startCycle_eq {s : State} {p : PhaseRecord} {rest : List PhaseRecord} (hq : s.eng.queue = p :: rest)
    (hd : s.door.state = .latched) :
    s.startCycle =
      (State.startHead { s with eng.totals := .zero, eng.susp := .empty, eng.state := .running }).1.judgeSensorsNow := by
  obtain ⟨x, hx⟩ : ∃ x : State, x = { s with eng.totals := .zero, eng.susp := .empty, eng.state := .running } := ⟨_, rfl⟩
  have first := (State.startHead_latched (s := x) (p := p) (rest := rest) (by rw [hx]; exact hq) (by rw [hx]) (by rw [hx]; exact hd)).1
  rw [← hx]
  unfold State.startCycle
  dsimp only
  rw [← hx]
  unfold finishIf
  rw [first]
  rfl

theorem exec_cycleStart_refuse {s : State} {st : Status} (h : s.ready) (hj : judgeCycleStart [] s = refuse s st) :
    exec (.cycleStart []) s = .next (s.respond 0x12 st []) :=
  exec_of_refuse (by rfl) h (by simp) hj

theorem exec_cycleStart_accept {s : State} (h : s.ready) (mode : s.link.mode = .run) (latch : s.trip.latch = false)
    (idle : s.eng.state = .idle) (queue : s.eng.queue ≠ []) (door : s.door.state = .latched) :
    exec (.cycleStart []) s = .next (s.startCycle.settle.respond 0x12 .ok [BitVec.ofNat 8 s.headTag]) := by
  rw [exec_of_accept (e := rfl) (h := h) (hp := by simp)
    (hj := by simp [judgeCycleStart, mode, latch, idle, queue, door]; rfl)]
  rfl

/-- Settles O30, by the first stage of each kind of head and the judgement of the roles after it. -/
theorem cycleStartStartsHead : Obligations.CycleStartStartsHead := by
  refine ⟨fun s p rest h mode latch idle queue door sound => ?_, fun s h => ⟨fun mode => ?_, fun mode => ⟨fun latch => ?_,
    fun latch => ⟨fun busy => ?_, fun idle => ⟨fun empty => ?_, fun some door => ?_, fun some door lost => ?_⟩⟩⟩⟩⟩
  · have accepted := exec_cycleStart_accept h mode latch idle (by rw [queue]; nofun) door
    have tag : s.headTag = p.tag := by rw [State.headTag, State.headRecord, queue]; rfl
    have started := State.startCycle_eq queue door
    obtain ⟨x, hx⟩ : ∃ x : State, x = { s with eng.totals := .zero, eng.susp := .empty, eng.state := .running } := ⟨_, rfl⟩
    rw [← hx] at started
    obtain ⟨-, acts, state, queueU, totals, susp, wash, drain, dry⟩ := State.startHead_latched (s := x) (p := p) (rest := rest)
      (by rw [hx]; exact queue) (by rw [hx]) (by rw [hx]; exact door)
    have freshness : ∀ r, x.startHead.1.roleFreshness r = s.roleFreshness r := fun r => by
      rw [acts.roleFreshness, hx]
      rfl
    have calm : x.startHead.1.judgeSensorsNow = x.startHead.1 := by
      unfold State.judgeSensorsNow
      have temp := sound _ (.inl rfl)
      have level := sound _ (.inr rfl)
      rw [← freshness] at temp level
      rw [State.judgeRoleNow_of_sound temp, State.judgeRoleNow_of_sound level]
    rw [calm] at started
    have cool : ∀ f, x.coolEnough f = s.coolEnough f := fun f => by rw [hx]; rfl
    have load : ∀ k, x.load k = s.load k := fun k => by rw [hx]; rfl
    refine ⟨x.startHead.1, by rw [accepted, started, tag], state, queueU, by rw [totals, hx], by rw [susp, hx],
      by rw [acts.latch, hx]; exact latch, by rw [acts.chan, hx], by rw [acts.bus, hx], wash,
      fun d hd => ⟨(drain d hd).1, (drain d hd).2.1⟩, fun f hf => ?_⟩
    obtain ⟨-, -, warm, cold⟩ := dry f hf
    rw [cool, load] at *
    exact ⟨warm, cold⟩
  · exact exec_cycleStart_refuse h (by simp [judgeCycleStart, mode])
  · exact exec_cycleStart_refuse h (by simp [judgeCycleStart, mode, latch])
  · exact exec_cycleStart_refuse h (by simp [judgeCycleStart, mode, latch, busy])
  · exact exec_cycleStart_refuse h (by simp [judgeCycleStart, mode, latch, idle, empty])
  · exact exec_cycleStart_refuse h (by simp [judgeCycleStart, mode, latch, idle, some, door])
  · obtain ⟨r, hr, lost⟩ := lost
    obtain ⟨p, rest, queue⟩ := List.exists_cons_of_ne_nil some
    refine ⟨s.startCycle, exec_cycleStart_accept h mode latch idle some door, ?_⟩
    rw [State.startCycle_eq queue door]
    obtain ⟨x, hx⟩ : ∃ x : State, x = { s with eng.totals := .zero, eng.susp := .empty, eng.state := .running } := ⟨_, rfl⟩
    rw [← hx]
    obtain ⟨-, acts, -⟩ := State.startHead_latched (s := x) (p := p) (rest := rest)
      (by rw [hx]; exact queue) (by rw [hx]) (by rw [hx]; exact door)
    refine State.judgeSensorsNow_of_lost ?_ ?_ hr ?_
    · rw [acts.latch, hx]; exact latch
    · rw [acts.mode, hx]; exact mode
    · rw [acts.roleFreshness, hx]; exact lost

end Sys2Proof.Machine
end

section
/-! ### The settle timer at the end of an event (R135, R148)

In STANDBY no cause is taken (R166), so the evaluations at the end of an event leave the settle timer of the door alone. -/

namespace Sys2Proof.Machine

/-- The mode stands, and in STANDBY the settle timer too. -/
structure State.settleTimed (s t : State) : Prop where
  mode : t.link.mode = s.link.mode
  timer : s.link.mode = .standby → t.door.settle = s.door.settle

namespace State.settleTimed

variable {s t u : State}

theorem refl (s : State) : s.settleTimed s := ⟨rfl, fun _ => rfl⟩

theorem trans (h : s.settleTimed t) (g : t.settleTimed u) : s.settleTimed u :=
  ⟨g.mode.trans h.mode, fun e => (g.timer (h.mode.trans e)).trans (h.timer e)⟩

theorem of_evaluates (h : s.evaluates t) (e : t.door.settle = s.door.settle) : s.settleTimed t :=
  ⟨State.of_outer (fun x => x.link.mode) h.outer, fun _ => e⟩

theorem fold {α : Type} {f : State → α → State} (hf : ∀ (t : State) (a : α), t.settleTimed (f t a)) (l : List α) (s : State) :
    s.settleTimed (l.foldl f s) := by
  induction l generalizing s with
  | nil => exact refl s
  | cons a l ih => exact (hf s a).trans (ih _)

theorem useProfile_settle (s : State) (p : ProfileId) : (s.useProfile p).door.settle = s.door.settle := by
  by_cases e : s.inEffect p
  · rw [State.useProfile_of_inEffect e]
  · have found := s.integrityError_findsError .profile none (profileCode p)
    rw [State.useProfile_of_damaged e, ← found.door]
    cases p <;> rfl

theorem useMachine (s : State) : s.settleTimed (s.useProfile .machine) :=
  of_evaluates (.useMachine s) (useProfile_settle s .machine)

theorem integrityError (s : State) (x : TableId) (b : Option Bank) (i : Nat) : s.settleTimed (s.integrityError x b i) :=
  of_evaluates (.integrityError s x b i) (by rw [(s.integrityError_findsError x b i).door])

theorem regrant (h : s.regrants t) : s.settleTimed t := of_evaluates (.regrant h) (by rw [h.door])

theorem passes (s : State) : s.settleTimed s.passes := by
  have heater : s.settleTimed s.checkHeater := by
    unfold State.checkHeater
    split
    · exact useMachine s
    · exact refl s
  have entries : s.checkHeater.settleTimed s.checkHeater.checkEntries := fold (fun t l => by
    split
    · exact integrityError ..
    · exact refl t) _ _
  have placed := ((heater.trans entries).trans (regrant (.placing _))).trans (regrant (.setCauses _))
  rw [State.passes_eq]
  generalize s.checkHeater.checkEntries.placing.setCauses = t at placed
  exact placed.trans ⟨rfl, fun _ => rfl⟩

theorem dropReleased (s : State) : s.settleTimed s.dropReleased :=
  of_evaluates (.dropReleased s) (congrArg (fun x : State => x.door.settle) s.dropReleased_besideLoads :)

/-- In STANDBY a cause at most restarts the flow-quiet timer (R166). -/
theorem tripCause (s : State) (c : Cause) : s.settleTimed (s.tripCause c) := by
  refine ⟨State.of_outer (fun x => x.link.mode) (State.outer_tripCause s c), fun h => ?_⟩
  have quiet : (s.restartQuiet c).link.mode = .standby ∧ (s.restartQuiet c).door.settle = s.door.settle := by
    unfold State.restartQuiet
    split <;> exact ⟨h, rfl⟩
  unfold State.tripCause
  dsimp only
  rw [if_pos quiet.1]
  exact quiet.2

theorem judgeSensorsNow (s : State) : s.settleTimed s.judgeSensorsNow := by
  have judged : ∀ (t : State) (r : Role), t.settleTimed (t.judgeRoleNow r) := fun t r => by
    unfold State.judgeRoleNow
    split
    · exact tripCause ..
    · exact refl t
  exact (judged s .tubTemp).trans (judged _ .tubLevel)

theorem softenerReport (s : State) (l : LoadId) : s.settleTimed (s.softenerReport l) := by
  refine of_evaluates (.softenerReport s l) ?_
  unfold State.softenerReport
  split
  · split <;> rfl
  · split
    · split
      · split <;> simp
      · rfl
    · rfl
  · split
    · rfl
    · split
      · rfl
      · dsimp only
        split <;> rfl
  · rfl

theorem ownerReport (s : State) (l : LoadId) : s.settleTimed (s.ownerReport l) := by
  have inlet : ∀ t : State, t.settleTimed t.engineInlet := fun t => of_evaluates (.engineInlet t) (by
    unfold State.engineInlet
    split <;> rfl)
  have dose : ∀ r, s.settleTimed (s.dosingReport r) := fun r =>
    of_evaluates (.dosingReport s r) (by rw [((State.doses.refl s).dosingReport r).door])
  have actuator : s.settleTimed s.actuatorReport := of_evaluates (.actuatorReport s) (by
    unfold State.actuatorReport
    split
    · split
      · split <;> rfl
      · split <;> rfl
    · rfl)
  cases l with
  | inletValve => exact (softenerReport s .inletValve).trans (inlet _)
  | routeValve => simpa only [State.ownerReport] using softenerReport s .routeValve
  | selectorValve => simpa only [State.ownerReport] using softenerReport s .selectorValve
  | brineValve => simpa only [State.ownerReport] using softenerReport s .brineValve
  | doseDet => exact dose _
  | doseRinse => exact dose _
  | doorActuator => exact actuator
  | heater => exact refl s
  | circPump => exact refl s
  | drainPump => exact refl s
  | fan => exact refl s

theorem round (s : State) : s.settleTimed s.round := by
  have table : ∀ (t : State) (l : LoadId), t.settleTimed (t.tableTrip l) := fun t l => by
    unfold State.tableTrip
    split
    · exact tripCause ..
    · exact refl t
  have first : ∀ t b : State, t.settleTimed (t.firstGrant b) := fun t b => by
    unfold State.firstGrant
    split
    · exact judgeSensorsNow t
    · exact refl t
  exact (((((dropReleased s).trans (passes _)).trans (table _ _)).trans (table _ _)).trans (first _ _)).trans
    (fold ownerReport _ _)

theorem lastRound (s : State) : s.settleTimed s.lastRound := by
  have passed := (dropReleased s).trans (passes _)
  unfold State.lastRound
  dsimp only
  generalize s.dropReleased.passes = t at passed
  exact passed.trans ⟨rfl, fun _ => rfl⟩

theorem settleFor (n : Nat) (s : State) : s.settleTimed (State.settleFor n s) := by
  induction n generalizing s with
  | zero =>
    unfold State.settleFor
    split
    · exact lastRound s
    · exact refl s
  | succ n ih =>
    rw [State.settleFor_succ]
    split
    · exact (round s).trans (ih _)
    · exact refl s

theorem settle (s : State) : s.settleTimed s.settle := settleFor 8 s

end State.settleTimed

/-! ### CYCLE_CANCEL (O31)

A cancelling head whose drain ends in the event of the cancel itself ends the cycle, and with it the settle timer and the DRY
record of the door unit; the statement's `u.door = s.door` does not hold there. -/

/-- A WASH record that drains in no time, to no level (R42). -/
def cancelWash : WashFields where
  fillTarget := 90
  fillCap := 4500
  setpoint := 0
  speed := 80
  heatTimeout := 1800
  holdTime := 1200
  minHold := 0
  dose := none
  dBase := 0
  dosePoint := .atCirculate
  exitTest := none
  extraTest := none
  endLevel := 0
  minTime := 0

/-- An entry that binds TUB_LEVEL. -/
def cancelLevel : ChannelEntry := { State.reset.chan.active[0].contents with enabled := true, role := .tubLevel }

/-- A SUSPENDED WASH head in HOLD with an empty suspension set, TUB_LEVEL FRESH at 0, and the settle timer running. -/
def cancelState : State :=
  { State.reset with
    eng.queue := [{ tag := 1, setMask := 0, clearMask := 0, body := .wash cancelWash }]
    eng.state := .suspended
    eng.head := some (StageRecord.start .hold 0 false)
    door.settle := some 0
    chan.active := State.reset.chan.active.set 0 { contents := cancelLevel, sound := true }
    chan.run := State.reset.chan.run.set 0 { ChannelRun.blank with freshness := .fresh } }

/-- The cancel ends the cycle of `cancelState` and its settle timer. -/
theorem cancelState_ends :
    (cancelState.cancelCycle (StageRecord.start .hold 0 false)).link.mode = .standby ∧
      (cancelState.cancelCycle (StageRecord.start .hold 0 false)).door.settle = none := by
  constructor <;> decide

/-- Refutes O31: the cancel of `cancelState` ends the cycle in the same event, and the settle timer of the door with it. -/
theorem not_cycleCancelDrainsOrEnds : ¬ Obligations.CycleCancelDrainsOrEnds := by
  intro h
  have ready : cancelState.ready := ⟨rfl, rfl⟩
  obtain ⟨-, -, -, -, suspended, -⟩ := h cancelState ready
  obtain ⟨u, he, -, -, door, -⟩ := suspended _ [] _ cancelWash rfl rfl rfl rfl (.inr (.inr rfl))
  obtain ⟨mode, settle⟩ := cancelState_ends
  have accepted : exec (.cycleCancel []) cancelState =
      .next ((cancelState.cancelCycle (StageRecord.start .hold 0 false)).settle.respond 0x13 .ok []) := by
    rw [exec_of_accept (e := rfl) (h := ready) (hp := by simp) (hj := by rfl)]
  generalize cancelState.cancelCycle (StageRecord.start .hold 0 false) = t at mode settle accepted
  have same : u.settle.respond 0x13 .ok [] = t.settle.respond 0x13 .ok [] := by
    have := he.symm.trans accepted
    injection this
  have modeU : u.link.mode = .standby := by
    rw [← (State.settleTimed.settle u).mode]
    have equal : u.settle.link.mode = t.settle.link.mode := (congrArg (fun x : State => x.link.mode) same :)
    exact equal.trans ((State.settleTimed.settle t).mode.trans mode)
  have timer : u.door.settle = t.door.settle := by
    rw [← (State.settleTimed.settle u).timer modeU, ← (State.settleTimed.settle t).timer mode]
    exact (congrArg (fun x : State => x.door.settle) same :)
  rw [door, settle] at timer
  exact nomatch (show (some 0 : Option Nat) = none from timer)

end Sys2Proof.Machine
end

section
/-! ### What the stages of a phase leave alone (R53, R77, R134, R178)

From one stage to the next, through the end of a phase and the start of the next head, only DOOR can join the suspension set;
the hold set, the bus, the mains reports, the mode and the values of the channels stand. -/

namespace Sys2Proof.Machine

/-- No reason but DOOR is in `y` that is not in `x`. -/
structure SuspSet.bounds (x y : SuspSet) : Prop where
  host : y.host = true → x.host = true
  noWater : y.noWater = true → x.noWater = true
  mains : y.mains = true → x.mains = true
  restored : y.restored = true → x.restored = true

theorem SuspSet.bounds_refl (x : SuspSet) : x.bounds x := ⟨id, id, id, id⟩

theorem SuspSet.bounds_empty (x : SuspSet) : x.bounds .empty := ⟨nofun, nofun, nofun, nofun⟩

structure State.phases (s t : State) : Prop where
  channels : (t.chan.run, t.chan.active, t.link.mode) = (s.chan.run, s.chan.active, s.link.mode)
  bus : t.bus = s.bus
  mains : t.arb.mainsReports = s.arb.mainsReports
  hold : t.soft.hold = s.soft.hold
  susp : s.eng.susp.bounds t.eng.susp
  door : (t.door.closed, t.door.latch, t.door.state) = (s.door.closed, s.door.latch, s.door.state)
  settle : t.door.settle = s.door.settle ∨ t.door.settle = none

namespace State.phases

variable {s t u : State}

theorem refl (s : State) : s.phases s := ⟨rfl, rfl, rfl, rfl, SuspSet.bounds_refl _, rfl, .inl rfl⟩

theorem trans (h : s.phases t) (g : t.phases u) : s.phases u :=
  ⟨g.channels.trans h.channels, g.bus.trans h.bus, g.mains.trans h.mains, g.hold.trans h.hold,
    ⟨h.susp.host ∘ g.susp.host, h.susp.noWater ∘ g.susp.noWater, h.susp.mains ∘ g.susp.mains, h.susp.restored ∘ g.susp.restored⟩,
    g.door.trans h.door, g.settle.elim (fun e => h.settle.imp e.trans e.trans) .inr⟩

theorem of_acts {L : LoadId → Prop} (h : s.acts L t) (hold : t.soft.hold = s.soft.hold) (susp : t.eng.susp = s.eng.susp)
    (settle : t.door.settle = s.door.settle) : s.phases t :=
  ⟨by rw [h.chan, h.mode], h.bus, h.mainsReports, hold,
    by rw [susp]; exact SuspSet.bounds_refl _, by rw [h.doorClosed, h.doorLatch, h.doorState],
    .inl settle⟩

/-- An update that touches none of this. -/
theorem quiet (h : s.phases t)
    (e : (u.bus, u.arb.mainsReports, u.soft.hold, u.eng.susp, u.chan.run, u.chan.active, u.link.mode) =
      (t.bus, t.arb.mainsReports, t.soft.hold, t.eng.susp, t.chan.run, t.chan.active, t.link.mode))
    (d : (u.door.closed, u.door.latch, u.door.state, u.door.settle) =
      (t.door.closed, t.door.latch, t.door.state, t.door.settle)) : s.phases u := by
  simp only [Prod.mk.injEq] at e d
  obtain ⟨bus, mains, hold, susp, run, active, mode⟩ := e
  obtain ⟨closed, latch, state, settle⟩ := d
  exact h.trans ⟨by rw [run, active, mode], bus, mains, hold, by rw [susp]; exact SuspSet.bounds_refl _,
    by rw [closed, latch, state], .inl settle⟩

theorem softens (h : s.phases t) (g : t.softens u) : s.phases u :=
  h.trans (of_acts (.softens g) g.holdSet (by rw [g.eng]) (by rw [g.door]))

theorem doses (h : s.phases t) (g : t.doses u) : s.phases u := by
  obtain ⟨a, b, soft⟩ := g.soft
  exact h.trans (of_acts g.acts (by rw [soft]) g.susp (by rw [g.door]))

theorem request (h : s.phases t) (l : LoadId) (a : Nat) : s.phases (t.request l a) := h.quiet rfl rfl

theorem release (h : s.phases t) (l : LoadId) : s.phases (t.release l) := by
  unfold State.release
  split
  · exact h.quiet rfl rfl
  · exact h

theorem withHead (h : s.phases t) (f : StageRecord → StageRecord) : s.phases (t.withHead f) := h.quiet rfl rfl
theorem withDry (h : s.phases t) (f : DryRecord → DryRecord) : s.phases (t.withDry f) := h.quiet rfl rfl
theorem post (h : s.phases t) (k : NoticeKind) (l n : Nat) (v : Int) : s.phases (t.post k l n v) :=
  h.trans ⟨by rw [State.post_mode]; rfl, rfl, rfl, rfl, SuspSet.bounds_refl _, rfl, .inl rfl⟩

theorem useMachine (h : s.phases t) : s.phases (t.useProfile .machine) := by
  by_cases e : t.inEffect .machine
  · rw [State.useProfile_of_inEffect e]
    exact h
  · have found := t.integrityError_findsError .profile none (profileCode .machine)
    rw [State.useProfile_of_damaged e]
    generalize t.integrityError .profile none (profileCode .machine) = x at found ⊢
    have same : s.phases x := h.trans (of_acts ((State.acts.refl (fun _ => True) t).findsError found) (by rw [found.soft])
      (by rw [found.eng]) (by rw [found.door]))
    exact (State.phases.quiet same (u := x.setFaulted .machine true) rfl rfl).post .profileFault 2 (profileCode .machine) 0
      |>.quiet rfl rfl

theorem requestFillPath (h : s.phases t) : s.phases t.requestFillPath := by
  cases e : t.eng.head with
  | none =>
    unfold State.requestFillPath
    rw [e]
    exact h
  | some r =>
    have marked : s.phases { t with eng.head := some { r with runMark := .resumed } } := h.quiet rfl rfl
    exact marked.softens (State.requestFillPath_spec e).1

theorem setThermostat (h : s.phases t) (on : Bool) : s.phases (t.setThermostat on) := by
  obtain ⟨eng, soft, -, door, -⟩ := t.setThermostat_spec on
  exact h.trans (of_acts (t.setThermostat_acts on) (by rw [soft]) (by rw [eng]) (by rw [door]))

theorem enterDrain (h : s.phases t) : s.phases t.enterDrain :=
  h.trans (of_acts t.enterDrain_acts (by rw [t.enterDrain_units.2.2.2.1]) (by rw [t.enterDrain_eng])
    (by rw [t.enterDrain_units.2.2.2.2.1]))

theorem endHold (h : s.phases t) (w : WashFields) : s.phases (t.endHold w) :=
  ((h.withHead _).doses (.abandonDose (.refl _))).enterDrain

theorem reachDosePoint (h : s.phases t) (w : WashFields) (p : DosePoint) : s.phases (t.reachDosePoint w p) := by
  unfold State.reachDosePoint
  split
  · exact h
  · split
    · exact (h.withHead _).doses (.startDose (.refl _) ..)
    · exact h

theorem enterHold (h : s.phases t) (w : WashFields) (on : Bool) : s.phases (t.enterHold w on) := by
  have entered := (((h.withHead (fun h => { h with stage := .hold, holdTimer := 0 })).setThermostat on).doses
    (.doseStageChange (.refl _))).reachDosePoint w .atSetpoint
  unfold State.enterHold
  dsimp only
  split
  · exact entered.endHold w
  · exact entered

theorem circulateJudge (h : s.phases t) (w : WashFields) : s.phases (t.circulateJudge w) := by
  unfold State.circulateJudge
  split
  · split
    · exact h.enterHold w false
    · exact h.setThermostat true
  · exact h.setThermostat false

theorem holdJudge (h : s.phases t) (w : WashFields) : s.phases (t.holdJudge w) := h.useMachine.setThermostat _

theorem endCycle (h : s.phases t) : s.phases t.endCycle := h.trans ⟨rfl, rfl, rfl, rfl, SuspSet.bounds_empty _, rfl, .inr rfl⟩

theorem judgeStartDoor (h : s.phases t) : s.phases t.judgeStartDoor := by
  unfold State.judgeStartDoor
  split
  · exact h
  · exact h.trans ⟨rfl, rfl, rfl, rfl, ⟨id, id, id, id⟩, rfl, .inl rfl⟩

theorem enterVent (h : s.phases t) (f : DryFields) : s.phases (t.enterVent f).1 := by
  have entered : s.phases ((t.setStage .vent).withDry
      (fun d => { d with vent := 0, attState := .none, window := 0, rest := 0 })) := h.quiet rfl rfl
  unfold State.enterVent
  dsimp only
  split
  · exact entered.request ..
  · exact entered

theorem openedByUser (h : s.phases t) (f : DryFields) : s.phases (t.openedByUser f).1 :=
  (((h.release .doorActuator).withDry _).post ..).enterVent f

theorem enterOpening (h : s.phases t) : s.phases t.enterOpening := h.quiet rfl rfl

theorem enterCondense (h : s.phases t) (f : DryFields) : s.phases (t.enterCondense f).1 := by
  have entered : s.phases ((t.setStage .condense).withDry (fun d => { d with condense := 0 })) := h.quiet rfl rfl
  unfold State.enterCondense
  dsimp only
  split
  · exact entered.openedByUser f
  · split
    · exact entered.enterOpening
    · exact entered

theorem startHead (h : s.phases t) : s.phases t.startHead.1 := by
  unfold State.startHead
  split
  · exact h
  · rename_i p _
    split
    · have judged : s.phases (State.judgeStartDoor { t with eng.head := some (StageRecord.start .fill 0 false) }) :=
        (h.quiet (u := { t with eng.head := some (StageRecord.start .fill 0 false) }) rfl rfl).judgeStartDoor
      dsimp only
      split
      · exact judged.requestFillPath
      · exact judged
    · have judged : s.phases (State.judgeStartDoor { t with eng.head := some (StageRecord.start .drain 0 false) }) :=
        (h.quiet (u := { t with eng.head := some (StageRecord.start .drain 0 false) }) rfl rfl).judgeStartDoor
      dsimp only
      split
      · exact judged.enterDrain
      · exact judged
    · exact (h.quiet (u := { t with
        eng.head := some (StageRecord.start .condense 0 false), door.dry := some DryRecord.new }) rfl rfl).enterCondense _

theorem completeHead (h : s.phases t) : s.phases t.completeHead := by
  unfold State.completeHead
  split
  · exact h
  · exact h.trans ⟨congrArg (fun m => (t.chan.run, t.chan.active, m)) (State.post_mode ..), rfl, rfl, rfl, SuspSet.bounds_refl _, rfl,
      .inl rfl⟩

theorem dropDry (h : s.phases t) : s.phases t.dropDry := ((h.release .fan).release .doorActuator).quiet rfl rfl

theorem finishPhase (n : Nat) (h : s.phases t) : s.phases (State.finishPhase n t) := by
  induction n generalizing t with
  | zero => exact h
  | succ n ih =>
    unfold State.finishPhase
    dsimp only
    split
    · exact (h.completeHead.post ..).endCycle
    · split
      · exact ih h.completeHead.startHead.dropDry
      · exact h.completeHead.startHead

theorem completePhase (h : s.phases t) : s.phases t.completePhase := h.finishPhase _

theorem finishIf {r : State × Bool} (h : s.phases r.1) : s.phases (finishIf r) := by
  unfold Sys2Proof.Machine.finishIf
  split
  · exact h.dropDry.completePhase
  · exact h

theorem cancelEnd (h : s.phases t) : s.phases t.cancelEnd :=
  endCycle (quiet (h.post .cycleCancelled 4 t.headTag t.eng.totals.clock) rfl rfl)

theorem endDrain (h : s.phases t) (r : StageRecord) : s.phases (t.endDrain r) := by
  have released := h.release .drainPump
  unfold State.endDrain
  dsimp only
  split
  · exact released.cancelEnd
  · split
    · exact released.completePhase
    · split
      · exact requestFillPath (quiet (released.post ..) rfl rfl)
      · exact released.completePhase

theorem judgeDrain (h : s.phases t) : s.phases t.judgeDrain := by
  unfold State.judgeDrain
  split
  · split
    · exact h.endDrain _
    · exact h
  · exact h

theorem returnDry (h : s.phases t) (f : DryFields) : s.phases (t.returnDry f).1 := by
  unfold State.returnDry
  dsimp only
  split
  · split
    · exact h.openedByUser f
    · split
      · exact h.enterOpening
      · exact h
  · split
    · exact h.openedByUser f
    · split
      · exact h.request ..
      · exact h
  · split
    · exact h
    · dsimp only
      split
      · exact h.request ..
      · exact h
  · exact h

theorem reenter (h : s.phases t) : s.phases t.reenter := by
  unfold State.reenter
  split
  · exact h.requestFillPath
  · exact (h.request ..).circulateJudge _
  · exact (h.request ..).holdJudge _
  · exact (h.request ..).judgeDrain
  · exact finishIf (h.returnDry _)
  · exact h

theorem returnIfFree (h : s.phases t) : s.phases t.returnIfFree := by
  unfold State.returnIfFree
  split
  · exact ((h.quiet (u := { t with
      eng.state := .running, eng.totals := { t.eng.totals with held := false } }) rfl rfl).doses (.resumeDose (.refl _))).reenter
  · exact h

end State.phases

end Sys2Proof.Machine
end

section
/-! ### The return to RUNNING, stage by stage (R143, R181) -/

namespace Sys2Proof.Machine

/-- The engine as it returns: RUNNING, and the clock of a restored cycle runs on (R53, R178). -/
def State.returned (s : State) : State := { s with eng.state := .running, eng.totals := { s.eng.totals with held := false } }

theorem State.returnIfFree_of_free {s : State} (h : s.eng.state = .suspended) (e : s.eng.susp.isEmpty = true) :
    s.returnIfFree = s.returned.resumeDose.reenter := by
  unfold State.returnIfFree
  rw [if_pos (by simp [h, e])]
  rfl

theorem State.returnIfFree_of_held {s : State} (h : s.eng.state ≠ .suspended ∨ s.eng.susp.isEmpty = false) : s.returnIfFree = s := by
  unfold State.returnIfFree
  rw [if_neg (by rcases h with h | h <;> simp [h])]

theorem State.resumeDose_of_none {s : State} (h : s.dosing.dose = none) : s.resumeDose = s := by
  unfold State.resumeDose
  rw [h]

theorem SuspSet.eq_empty {x : SuspSet} (h : x.isEmpty = true) : x = .empty := by
  obtain ⟨a, b, c, d, e⟩ := x
  simp only [SuspSet.isEmpty, Bool.not_eq_true', Bool.or_eq_false_iff] at h
  obtain ⟨⟨⟨⟨rfl, rfl⟩, rfl⟩, rfl⟩, rfl⟩ := h
  rfl

/-! #### Which head it is -/

section
variable {s : State} {p : PhaseRecord} {rest : List PhaseRecord} (hq : s.eng.queue = p :: rest)
include hq

theorem State.headRecord_of_queue : s.headRecord = some p := by rw [State.headRecord, hq]; rfl

theorem State.headTag_of_queue : s.headTag = p.tag := by rw [State.headTag, State.headRecord_of_queue hq]; rfl

theorem State.heads_of_wash {w : WashFields} (hb : p.body = .wash w) :
    s.washHead = some w ∧ s.dryHead = none ∧ s.drainHead = some { endLevel := w.endLevel, minTime := w.minTime } := by
  simp only [State.washHead, State.dryHead, State.drainHead, State.headRecord_of_queue hq, hb, and_self]

theorem State.heads_of_drain {d : DrainFields} (hb : p.body = .drain d) :
    s.washHead = none ∧ s.dryHead = none ∧ s.drainHead = some d := by
  simp only [State.washHead, State.dryHead, State.drainHead, State.headRecord_of_queue hq, hb, and_self]

theorem State.heads_of_dry {f : DryFields} (hb : p.body = .dry f) :
    s.washHead = none ∧ s.dryHead = some f ∧ s.drainHead = none := by
  simp only [State.washHead, State.dryHead, State.drainHead, State.headRecord_of_queue hq, hb, and_self]

end

theorem State.queue_of_washHead {s : State} {w : WashFields} (h : s.washHead = some w) :
    ∃ p rest, s.eng.queue = p :: rest ∧ p.body = .wash w := by
  unfold State.washHead State.headRecord at h
  cases hq : s.eng.queue with
  | nil => rw [hq] at h; exact nomatch h
  | cons p rest =>
    rw [hq] at h
    refine ⟨p, rest, rfl, ?_⟩
    change (match p.body with | .wash w => some w | _ => none) = some w at h
    split at h
    · rename_i e
      cases h
      exact e
    · cases h

/-! #### The stage that is entered again -/

section
variable {s : State} {h : StageRecord} (hh : s.eng.head = some h)
include hh

theorem State.reenter_fill {w : WashFields} (hs : h.stage = .fill) (hw : s.washHead = some w) : s.reenter = s.requestFillPath := by
  simp only [State.reenter, hh, Option.map_some, hs, hw]

theorem State.reenter_circulate {w : WashFields} (hs : h.stage = .circulate) (hw : s.washHead = some w) :
    s.reenter = (s.request .circPump w.speed).circulateJudge w := by
  simp only [State.reenter, hh, Option.map_some, hs, hw]

theorem State.reenter_hold {w : WashFields} (hs : h.stage = .hold) (hw : s.washHead = some w) :
    s.reenter = (s.request .circPump w.speed).holdJudge w := by
  simp only [State.reenter, hh, Option.map_some, hs, hw]

theorem State.reenter_drain (hs : h.stage = .drain) (hd : s.dryHead = none) :
    s.reenter = (s.request .drainPump 0).judgeDrain := by
  simp only [State.reenter, hh, Option.map_some, hs, hd]

theorem State.reenter_dry {f : DryFields} (hw : s.washHead = none) (hd : s.dryHead = some f) :
    s.reenter = finishIf (s.returnDry f) := by
  cases e : h.stage <;> simp only [State.reenter, hh, Option.map_some, e, hw, hd]

end

/-- Below the setpoint CIRCULATE decides by whether TUB_TEMP is FRESH (R64). -/
theorem State.circulateJudge_below {s : State} {w : WashFields}
    (h : s.fresh .tubTemp = true → s.roleValue .tubTemp < w.setpoint) :
    s.circulateJudge w = s.setThermostat (s.fresh .tubTemp) := by
  unfold State.circulateJudge
  split
  · rename_i hf
    rw [if_neg (by have := h hf; omega), hf]
  · rename_i hf
    rw [Bool.not_eq_true] at hf
    rw [hf]

theorem State.holdJudge_of_inEffect {s : State} (h : s.inEffect .machine) (w : WashFields) :
    s.holdJudge w = s.setThermostat (s.holdDecision w ((s.eng.head.map StageRecord.thermostat).getD false)) := by
  unfold State.holdJudge
  rw [State.useProfile_of_inEffect h]

/-- The end pair of a drain does not hold yet (R73). -/
theorem State.judgeDrain_of_open {s : State} {d : DrainFields} {h : StageRecord} (hh : s.eng.head = some h) (hd : s.drainHead = some d)
    (e : s.fresh .tubLevel = false ∨ (d.endLevel : Int) < s.roleValue .tubLevel ∨ h.drainTimer < d.minTime * 10000) :
    s.judgeDrain = s := by
  unfold State.judgeDrain
  rw [hh, hd]
  dsimp only
  rw [if_neg]
  have second : Config.second = 10000 := rfl
  rw [second]
  rcases e with e | e | e
  · simp [e]
  · simp [Int.not_le.mpr e]
  · simp [Nat.not_le.mpr e]

theorem State.judgeDrain_of_down {s : State} {d : DrainFields} {h : StageRecord} (hr : s.eng.state = .running)
    (hh : s.eng.head = some h) (hs : h.stage = .drain) (hd : s.drainHead = some d) (hf : s.fresh .tubLevel = true)
    (hl : s.roleValue .tubLevel ≤ d.endLevel) (ht : d.minTime * 10000 ≤ h.drainTimer) : s.judgeDrain = s.endDrain h := by
  have running : s.runningIn .drain = true := by simp [State.runningIn, hr, hh, hs]
  unfold State.judgeDrain
  rw [hh, hd]
  dsimp only
  exact if_pos (by simp [running, hf, hl, Config.second, ht])

/-! #### The end of the last phase (R77, R78) -/

theorem LinkUnit.post_timeTag (l : LinkUnit) (n : Notice) : (l.post n).timeTag = l.timeTag := by
  have rest := l.post_rest n
  exact (congrArg LinkUnit.timeTag rest :)

theorem State.notice_of_timeTag {s t : State} (h : t.link.timeTag = s.link.timeTag) (k : NoticeKind) (l n : Nat) (v : Int) :
    t.notice k l n v = s.notice k l n v := by
  unfold State.notice
  rw [h]

/-- What the end of the last phase leaves: the flags by its masks, PHASE_DONE and CYCLE_DONE, and the engine IDLE. -/
theorem State.completePhase_last {s : State} {p : PhaseRecord} (hq : s.eng.queue = [p]) :
    s.completePhase = { s with
      chan.flags := applyFlagMasks s.chan.flags p.setMask p.clearMask 0
      link := (s.link.post (s.notice .phaseDone 5 p.tag (s.phaseValue p))).post (s.notice .cycleDone 4 p.tag s.eng.totals.clock)
      eng := { s.eng with
        queue := [], state := .idle, head := none, susp := .empty, totals := { s.eng.totals with part := 0, held := false } }
      door := { s.door with dry := none, settle := none } } := by
  have complete : s.completeHead = { s with
      chan.flags := applyFlagMasks s.chan.flags p.setMask p.clearMask 0
      link := s.link.post (s.notice .phaseDone 5 p.tag (s.phaseValue p))
      eng := { s.eng with queue := [], head := none }
      door := { s.door with dry := none } } := by
    unfold State.completeHead
    rw [hq]
    rfl
  have tag : s.headTag = p.tag := State.headTag_of_queue hq
  have done : s.completePhase = (s.completeHead.post .cycleDone 4 s.headTag s.completeHead.eng.totals.clock).endCycle := by
    unfold State.completePhase
    rw [hq]
    show State.finishPhase 1 s = _
    unfold State.finishPhase
    dsimp only
    rw [show s.completeHead.eng.queue = [] by rw [complete]]
  have told : s.completeHead.link.timeTag = s.link.timeTag := by
    rw [complete]
    exact LinkUnit.post_timeTag ..
  rw [done, tag]
  unfold State.post
  rw [State.notice_of_timeTag told, complete]
  rfl

end Sys2Proof.Machine
end

section
/-! ### DRY heads (R138 to R143) -/

namespace Sys2Proof.Machine

/-- The loads of the door unit (R139, R142). -/
def ofDry (k : LoadId) : Prop := k = .fan ∨ k = .doorActuator

/-- VENT begins, with FAN where the record asks for it (R142). -/
theorem State.enterVent_spec (s : State) (f : DryFields) :
    (s.enterVent f).2 = decide (f.ventTime = 0) ∧ s.acts (· = .fan) (s.enterVent f).1 ∧
      (s.enterVent f).1.eng = { s.eng with head := s.eng.head.map (fun h => { h with stage := .vent }) } ∧
      (s.enterVent f).1.door = { s.door with
        dry := s.door.dry.map (fun d => { d with vent := 0, attState := .none, window := 0, rest := 0 }) } ∧
      (s.enterVent f).1.soft = s.soft ∧ (s.enterVent f).1.dosing = s.dosing ∧ (s.enterVent f).1.link = s.link ∧
      (f.fan = true → ((s.enterVent f).1.load .fan).own = some 0) := by
  have entered := ((State.acts.refl (· = .fan) s).withHead (fun h => { h with stage := .vent })).withDry
    (fun d => { d with vent := 0, attState := .none, window := 0, rest := 0 })
  unfold State.enterVent
  dsimp only
  split
  · exact ⟨rfl, entered.request rfl 0, rfl, rfl, rfl, rfl, rfl, fun _ => by rw [State.request_own, if_pos rfl]⟩
  · rename_i h
    exact ⟨rfl, entered, rfl, rfl, rfl, rfl, rfl, fun e => absurd e h⟩

/-- The door stands open or the attempts are over: the actuator is released, the record marked, the notice posted, and VENT
begins (R138 to R141). -/
theorem State.ventAfter_spec (s : State) (g : DryRecord → DryRecord) (k : NoticeKind) (l n : Nat) (v : Int) (f : DryFields) :
    ∀ r, r = (((s.release .doorActuator).withDry g).post k l n v).enterVent f →
      r.2 = decide (f.ventTime = 0) ∧ s.acts ofDry r.1 ∧
      r.1.eng = { s.eng with head := s.eng.head.map (fun h => { h with stage := .vent }) } ∧
      r.1.door = { s.door with
        dry := s.door.dry.map (fun d => { g d with vent := 0, attState := .none, window := 0, rest := 0 }) } ∧
      r.1.soft = s.soft ∧ r.1.dosing = s.dosing ∧ r.1.link = s.link.post (s.notice k l n v) ∧
      (r.1.load .doorActuator).own = none ∧ (f.fan = true → (r.1.load .fan).own = some 0) := by
  rintro r rfl
  have eng : (s.release .doorActuator).eng = s.eng := by simp
  have door : (s.release .doorActuator).door = s.door := by simp
  have soft : (s.release .doorActuator).soft = s.soft := by simp
  have dosing : (s.release .doorActuator).dosing = s.dosing := by simp
  have link : (s.release .doorActuator).link = s.link := by simp
  have own : ((s.release .doorActuator).load .doorActuator).own = none := by rw [State.release_own, if_pos rfl]
  have freed := (State.acts.refl ofDry s).release (l := .doorActuator) (.inr rfl)
  generalize s.release .doorActuator = x at eng door soft dosing link own freed
  have marked := (freed.withDry g).post k l n v
  obtain ⟨ends, acts, engV, doorV, softV, dosingV, linkV, fan⟩ := ((x.withDry g).post k l n v).enterVent_spec f
  refine ⟨ends, marked.trans (acts.mono fun _ e => .inl e), ?_, ?_, softV.trans soft, dosingV.trans dosing, ?_, ?_, fan⟩
  · rw [engV, ← eng]; rfl
  · rw [doorV, ← door]
    show ({ x.door with dry := Option.map _ (Option.map g x.door.dry) } : DoorUnit) = _
    rw [Option.map_map]
    rfl
  · rw [linkV]
    show x.link.post (x.notice k l n v) = _
    rw [State.notice_of_timeTag (s := s) (t := x) (by rw [link]), link]
  · rw [acts.own .doorActuator nofun]
    exact own

theorem State.openedByUser_spec (s : State) (f : DryFields) :
    (s.openedByUser f).2 = decide (f.ventTime = 0) ∧ s.acts ofDry (s.openedByUser f).1 ∧
      (s.openedByUser f).1.eng = { s.eng with head := s.eng.head.map (fun h => { h with stage := .vent }) } ∧
      (s.openedByUser f).1.door = { s.door with dry := s.door.dry.map (fun d =>
        { d with openedBy := .user, vent := 0, attState := .none, window := 0, rest := 0 }) } ∧
      (s.openedByUser f).1.soft = s.soft ∧ (s.openedByUser f).1.dosing = s.dosing ∧
      (s.openedByUser f).1.link = s.link.post (s.notice .dryOpened 5 s.headTag 0) ∧
      ((s.openedByUser f).1.load .doorActuator).own = none ∧
      (f.fan = true → ((s.openedByUser f).1.load .fan).own = some 0) := by
  have tag : ((s.release .doorActuator).withDry (fun d => { d with openedBy := .user })).headTag = s.headTag := by
    unfold State.headTag State.headRecord State.withDry
    simp
  refine s.ventAfter_spec (fun d => { d with openedBy := .user }) .dryOpened 5 s.headTag 0 f _ ?_
  rw [← tag]
  rfl

theorem State.openedByActuator_spec (s : State) (f : DryFields) {x : DryRecord} (hx : s.door.dry = some x) :
    (s.openedByActuator f).2 = decide (f.ventTime = 0) ∧ s.acts ofDry (s.openedByActuator f).1 ∧
      (s.openedByActuator f).1.eng = { s.eng with head := s.eng.head.map (fun h => { h with stage := .vent }) } ∧
      (s.openedByActuator f).1.door = { s.door with dry := s.door.dry.map (fun d =>
        { d with openedBy := .actuator, vent := 0, attState := .none, window := 0, rest := 0 }) } ∧
      (s.openedByActuator f).1.soft = s.soft ∧ (s.openedByActuator f).1.dosing = s.dosing ∧
      (s.openedByActuator f).1.link = s.link.post (s.notice .dryOpened 5 s.headTag x.attempt) ∧
      ((s.openedByActuator f).1.load .doorActuator).own = none ∧
      (f.fan = true → ((s.openedByActuator f).1.load .fan).own = some 0) := by
  have tag : ((s.release .doorActuator).withDry (fun d => { d with openedBy := .actuator })).headTag = s.headTag := by
    unfold State.headTag State.headRecord State.withDry
    simp
  refine s.ventAfter_spec (fun d => { d with openedBy := .actuator }) .dryOpened 5 s.headTag x.attempt f _ ?_
  unfold State.openedByActuator
  dsimp only
  rw [tag, hx]
  rfl

/-- The phase of a DRY head that is the last ends, and the cycle with it (R77, R78, R142). -/
theorem State.finishDry_last {s : State} {p : PhaseRecord} (hq : s.eng.queue = [p]) (hb : ∀ w, p.body ≠ .wash w) :
    (finishIf (s, true)).eng = { s.eng with
        queue := [], state := .idle, head := none, susp := .empty, totals := { s.eng.totals with part := 0, held := false } } ∧
      (finishIf (s, true)).door = { s.door with dry := none, settle := none } ∧
      ((finishIf (s, true)).load .fan).own = none ∧ ((finishIf (s, true)).load .doorActuator).own = none ∧
      (finishIf (s, true)).chan = { s.chan with flags := applyFlagMasks s.chan.flags p.setMask p.clearMask 0 } ∧
      (finishIf (s, true)).soft = s.soft ∧ (finishIf (s, true)).bus = s.bus ∧
      (finishIf (s, true)).link =
        (s.link.post (s.notice .phaseDone 5 p.tag 0)).post (s.notice .cycleDone 4 p.tag s.eng.totals.clock) := by
  have drop : s.dropDry.eng = s.eng ∧ s.dropDry.link = s.link ∧ s.dropDry.chan = s.chan ∧ s.dropDry.soft = s.soft ∧
      s.dropDry.bus = s.bus ∧ s.dropDry.door = { s.door with dry := none } := by
    unfold State.dropDry
    simp
  obtain ⟨eng, link, chan, soft, bus, door⟩ := drop
  have fan : (s.dropDry.load .fan).own = none := by
    rw [State.dropDry_load, State.release_own, if_neg nofun, State.release_own, if_pos rfl]
  have actuator : (s.dropDry.load .doorActuator).own = none := by
    rw [State.dropDry_load, State.release_own, if_pos rfl]
  have finish : finishIf (s, true) = s.dropDry.completePhase := rfl
  generalize s.dropDry = x at eng link chan soft bus door fan actuator finish
  have value : x.phaseValue p = 0 := by
    unfold State.phaseValue
    split
    · rename_i w hw
      exact absurd hw (hb w)
    · rfl
  rw [finish, State.completePhase_last (s := x) (p := p) (by rw [eng, hq]), value,
    State.notice_of_timeTag (s := s) (t := x) (by rw [link]), State.notice_of_timeTag (s := s) (t := x) (by rw [link])]
  exact ⟨by rw [eng], by rw [door], fan, actuator, by rw [chan], soft, bus, by rw [link, eng]⟩

end Sys2Proof.Machine
end

section
/-! ### The return of each kind of head (R122, R143, R181) -/

namespace Sys2Proof.Machine

theorem State.setThermostat_eng {s : State} {h : StageRecord} (hh : s.eng.head = some h) (on : Bool) :
    (s.setThermostat on).eng = { s.eng with head := some { h with thermostat := on } } := by
  rw [(s.setThermostat_spec on).1, hh]
  rfl

theorem State.setThermostat_own (s : State) (on : Bool) {k : LoadId} (hk : k ≠ .heater) :
    ((s.setThermostat on).load k).own = (s.load k).own := (s.setThermostat_acts on).own k hk

section
variable {s : State} (hs : s.eng.state = .suspended) (he : s.eng.susp.isEmpty = true) (hn : s.dosing.dose = none)
include hs he hn

theorem State.returnIfFree_of_noDose : s.returnIfFree = s.returned.reenter := by
  rw [State.returnIfFree_of_free hs he, State.resumeDose_of_none (s := s.returned) hn]

variable {h : StageRecord} (hh : s.eng.head = some h)
include hh

/-- A fill that returns takes the path again (R58, R181). -/
theorem State.return_fill {w : WashFields} (hst : h.stage = .fill) (hw : s.washHead = some w) :
    s.returnIfFree.eng = { s.returned.eng with head := some { h with runMark := .resumed } } ∧
      s.returnIfFree.soft.holder = .fill := by
  rw [State.returnIfFree_of_noDose hs he hn, State.reenter_fill (s := s.returned) hh hst hw]
  obtain ⟨softens, holder, -⟩ := State.requestFillPath_spec (s := s.returned) hh
  exact ⟨softens.eng, holder⟩

theorem State.return_circulate {w : WashFields} (hst : h.stage = .circulate) (hw : s.washHead = some w)
    (ht : s.fresh .tubTemp = true → s.roleValue .tubTemp < w.setpoint) :
    s.returnIfFree.eng = { s.returned.eng with head := some { h with thermostat := s.fresh .tubTemp } } ∧
      (s.returnIfFree.load .circPump).own = some w.speed := by
  rw [State.returnIfFree_of_noDose hs he hn, State.reenter_circulate (s := s.returned) hh hst hw]
  have fresh : (s.returned.request .circPump w.speed).fresh .tubTemp = s.fresh .tubTemp := rfl
  rw [State.circulateJudge_below (s := s.returned.request .circPump w.speed) ht, fresh]
  exact ⟨State.setThermostat_eng (s := s.returned.request .circPump w.speed) hh _,
    by rw [State.setThermostat_own _ _ (k := .circPump) nofun, State.request_own, if_pos rfl]⟩

theorem State.return_hold {w : WashFields} (hst : h.stage = .hold) (hw : s.washHead = some w) (hm : s.inEffect .machine) :
    ∃ on, s.returnIfFree.eng = { s.returned.eng with head := some { h with thermostat := on } } ∧
      (s.returnIfFree.load .circPump).own = some w.speed := by
  rw [State.returnIfFree_of_noDose hs he hn, State.reenter_hold (s := s.returned) hh hst hw]
  rw [State.holdJudge_of_inEffect (s := s.returned.request .circPump w.speed) hm]
  generalize State.holdDecision _ w _ = on
  exact ⟨on, State.setThermostat_eng (s := s.returned.request .circPump w.speed) hh _,
    by rw [State.setThermostat_own _ _ (k := .circPump) nofun, State.request_own, if_pos rfl]⟩

/-- A drain that returns goes on with its pump (R75, R181). -/
theorem State.return_drain {d : DrainFields} (hst : h.stage = .drain) (hy : s.dryHead = none) (hd : s.drainHead = some d)
    (e : s.fresh .tubLevel = false ∨ (d.endLevel : Int) < s.roleValue .tubLevel ∨ h.drainTimer < d.minTime * 10000) :
    s.returnIfFree = s.returned.request .drainPump 0 := by
  rw [State.returnIfFree_of_noDose hs he hn, State.reenter_drain (s := s.returned) hh hst hy]
  exact State.judgeDrain_of_open (s := s.returned.request .drainPump 0) hh hd e

/-- A DRAIN record whose level is down ends the last phase, and the cycle (R73, R77, R78). -/
theorem State.return_drained {p : PhaseRecord} {d : DrainFields} (hq : s.eng.queue = [p]) (hb : p.body = .drain d)
    (hst : h.stage = .drain) (hf : s.fresh .tubLevel = true) (hl : s.roleValue .tubLevel ≤ d.endLevel)
    (ht : d.minTime * 10000 ≤ h.drainTimer) (hc : h.cancelling = false) :
    s.returnIfFree.eng.state = .idle ∧ s.returnIfFree.eng.queue = [] ∧ s.returnIfFree.eng.head = none ∧
      (s.returnIfFree.load .drainPump).own = none ∧
      s.returnIfFree.link = (s.link.post (s.notice .phaseDone 5 p.tag 0)).post
        (s.notice .cycleDone 4 p.tag s.eng.totals.clock) := by
  obtain ⟨wash, dry, drain⟩ := State.heads_of_drain hq hb
  rw [State.returnIfFree_of_noDose hs he hn, State.reenter_drain (s := s.returned) hh hst dry]
  rw [State.judgeDrain_of_down (s := s.returned.request .drainPump 0) rfl hh hst drain hf hl ht]
  obtain ⟨x, hx⟩ : ∃ x, x = (s.returned.request .drainPump 0).release .drainPump := ⟨_, rfl⟩
  have eng : x.eng = s.returned.eng := by rw [hx]; simp
  have link : x.link = s.link := by rw [hx]; simp [State.returned]
  have own : (x.load .drainPump).own = none := by rw [hx, State.release_own, if_pos rfl]
  have queue : x.eng.queue = [p] := by rw [eng]; exact hq
  have noWash : x.washHead = none := (State.heads_of_drain queue hb).1
  have ends : (s.returned.request .drainPump 0).endDrain h = x.completePhase := by
    unfold State.endDrain
    dsimp only
    rw [← hx, hc, noWash]
    rfl
  have value : x.phaseValue p = 0 := by unfold State.phaseValue; rw [hb]
  rw [ends, State.completePhase_last queue, value, State.notice_of_timeTag (s := s) (t := x) (by rw [link]),
    State.notice_of_timeTag (s := s) (t := x) (by rw [link])]
  exact ⟨rfl, rfl, rfl, own, by rw [link, eng]; rfl⟩

end

/-- A DRY head returns by one judgement of the door and the temperature (R143). -/
theorem State.return_dry {s : State} (hs : s.eng.state = .suspended) (he : s.eng.susp.isEmpty = true)
    (hn : s.dosing.dose = none) {h : StageRecord} (hh : s.eng.head = some h) {p : PhaseRecord} {rest : List PhaseRecord}
    (hq : s.eng.queue = p :: rest) {f : DryFields} (hb : p.body = .dry f) :
    s.returnIfFree = finishIf (s.returned.returnDry f) := by
  obtain ⟨wash, dry, -⟩ := State.heads_of_dry hq hb
  rw [State.returnIfFree_of_noDose hs he hn]
  exact State.reenter_dry (s := s.returned) hh wash dry

/-- A paused dose of a stage that doses requests its pump again, or ends where its strokes are done (R122, R128). -/
theorem State.resumeDose_spec {s : State} {d : Dose} (hd : s.dosing.dose = some d) :
    (s.runningIn .circulate = true ∨ s.runningIn .hold = true →
      (d.done < d.total → s.resumeDose = State.request { s with dosing.dose := some d.void } (pumpOf d.reservoir) 0) ∧
      (d.total ≤ d.done → s.resumeDose = s.doseDone d.reservoir d.tag d.done)) ∧
    (s.runningIn .circulate = false → s.runningIn .hold = false → s.resumeDose = s.abandonDose) := by
  unfold State.resumeDose
  rw [hd]
  dsimp only
  refine ⟨fun h => ⟨fun lt => ?_, fun le => ?_⟩, fun hc hh => ?_⟩
  · rw [if_pos (by simpa using h), if_neg (Nat.not_le.mpr lt)]
  · rw [if_pos (by simpa using h), if_pos le]
  · rw [if_neg (by simp [hc, hh])]

/-- DOSE_DONE (R122). -/
theorem State.doseDone_spec (s : State) (r : Reservoir) (tag n : Nat) :
    (s.doseDone r tag n).dosing.dose = none ∧ ((s.doseDone r tag n).load (pumpOf r)).own = none ∧
      (s.doseDone r tag n).link = s.link.post (s.notice .doseDone 5 tag n) ∧
      (s.doseDone r tag n).eng = { s.eng with totals := { s.eng.totals with doses := min 65535 (s.eng.totals.doses + 1) } } ∧
      (s.doseDone r tag n).soft = s.soft ∧ (s.doseDone r tag n).door = s.door ∧
      (s.doseDone r tag n).trip = s.trip ∧
      ∀ q, (s.doseDone r tag n).reservoir q = s.reservoir q := by
  have eng : (s.release (pumpOf r)).eng = s.eng := by simp
  have link : (s.release (pumpOf r)).link = s.link := by simp
  have soft : (s.release (pumpOf r)).soft = s.soft := by simp
  have door : (s.release (pumpOf r)).door = s.door := by simp
  have trip : (s.release (pumpOf r)).trip = s.trip := by simp
  have dosing : (s.release (pumpOf r)).dosing = s.dosing := by simp
  have own : ((s.release (pumpOf r)).load (pumpOf r)).own = none := by rw [State.release_own, if_pos rfl]
  unfold State.doseDone
  generalize s.release (pumpOf r) = x at eng link soft door trip dosing own
  refine ⟨rfl, own, ?_, ?_, soft, door, trip, fun q => ?_⟩
  · show x.link.post (x.notice .doseDone 5 tag n) = _
    rw [State.notice_of_timeTag (s := s) (t := x) (by rw [link]), link]
  · show { x.eng with totals := { x.eng.totals with doses := min 65535 (x.eng.totals.doses + 1) } } = _
    rw [eng]
  · rw [← State.reservoir_of_dosing dosing q]
    cases q <;> rfl

/-- An abandoned dose (R123). -/
theorem State.abandonDose_some {s : State} {d : Dose} (hd : s.dosing.dose = some d) :
    s.abandonDose.dosing.dose = none ∧ (s.abandonDose.load (pumpOf d.reservoir)).own = none ∧
      s.abandonDose.link = s.link.post (s.notice .doseShort 3 d.tag d.done) ∧
      s.abandonDose.eng = { s.eng with totals := { s.eng.totals with doses := min 65535 (s.eng.totals.doses + 1) } } ∧
      s.abandonDose.soft = s.soft := by
  have notice : s.shortNotice = [s.notice .doseShort 3 d.tag d.done] := by unfold State.shortNotice; rw [hd]
  obtain ⟨x, hx⟩ : ∃ x : State, x = { s.postAll s.shortNotice with dosing.dose := none } := ⟨_, rfl⟩
  have drop : s.abandonDose = (x.release (pumpOf d.reservoir)).countDose := by
    have dose : (s.postAll s.shortNotice).dosing.dose = some d := hd
    unfold State.abandonDose State.dropDose
    rw [dose, hx]
  have eng : (x.release (pumpOf d.reservoir)).eng = s.eng := by rw [hx]; simp
  have link : (x.release (pumpOf d.reservoir)).link = s.link.post (s.notice .doseShort 3 d.tag d.done) := by
    rw [State.release_link, hx, notice]
    rfl
  have soft : (x.release (pumpOf d.reservoir)).soft = s.soft := by rw [hx]; simp
  have dosing : (x.release (pumpOf d.reservoir)).dosing.dose = none := by rw [hx]; simp
  have own : ((x.release (pumpOf d.reservoir)).load (pumpOf d.reservoir)).own = none := by rw [State.release_own, if_pos rfl]
  rw [drop]
  generalize x.release (pumpOf d.reservoir) = y at eng link soft dosing own
  exact ⟨dosing, own, link, by unfold State.countDose; rw [eng], soft⟩

end Sys2Proof.Machine
end

section
/-! ### PAUSE and RESUME (R178 to R181) -/

namespace Sys2Proof.Machine

/-! #### PAUSE -/

theorem State.addReason_running {s : State} (h : s.eng.state = .running) (r : SuspReason) :
    s.addReason r = State.leaveRunning { s with eng.susp := s.eng.susp.put r true } := by
  unfold State.addReason
  rw [if_pos (by simp [State.underWay, h])]
  exact if_pos (by simp [h])

theorem State.addReason_suspended {s : State} (h : s.eng.state = .suspended) (r : SuspReason) :
    s.addReason r = { s with eng.susp := s.eng.susp.put r true } := by
  unfold State.addReason
  rw [if_pos (by simp [State.underWay, h])]
  exact if_neg (by simp [h])

theorem State.addReason_away {s : State} (h : s.underWay = false) (r : SuspReason) : s.addReason r = s := by
  unfold State.addReason
  rw [if_neg (by simp [h])]

/-- PAUSE of a RUNNING engine (R180). -/
theorem State.pause_running {s : State} (h : s.eng.state = .running) :
    (s.addReason .host).eng = { s.eng with state := .suspended, susp := { s.eng.susp with host := true } } ∧
      (∀ l, l = .heater ∨ l = .circPump ∨ l = .drainPump ∨ l = .fan ∨ l = .doorActuator →
        ((s.addReason .host).load l).own = none) ∧
      (s.addReason .host).dosing.dose = s.dosing.dose.map (fun d => { d with state := .paused, timer := 0 }) ∧
      (s.runningIn .fill = true → (s.addReason .host).soft.holder ≠ .fill) ∧
      (s.addReason .host).chan = s.chan ∧ (s.addReason .host).bus = s.bus ∧ (s.addReason .host).link = s.link := by
  rw [State.addReason_running h]
  obtain ⟨t, ht⟩ : ∃ t : State, t = { s with eng.susp := s.eng.susp.put .host true } := ⟨_, rfl⟩
  have engS : t.eng = { s.eng with susp := { s.eng.susp with host := true } } := by rw [ht]; rfl
  have running : t.runningIn .fill = s.runningIn .fill := by unfold State.runningIn; rw [engS]
  have dosing : t.dosing = s.dosing := by rw [ht]
  have chanS : t.chan = s.chan := by rw [ht]
  have busS : t.bus = s.bus := by rw [ht]
  have linkS : t.link = s.link := by rw [ht]
  rw [← ht]
  obtain ⟨eng, link, chan, bus, holder, dose, own⟩ := State.leaveRunning_spec t
  rw [running] at holder
  refine ⟨eng.trans ?_, own, ?_, holder, chan.trans chanS, bus.trans busS, link.trans linkS⟩
  · rw [engS]
  · rw [dose, dosing]

/-! #### RESUME -/

/-- The hold set changes: everything else is the softener's own (R108). -/
theorem State.setHold_spec (s : State) (x : HoldSet) :
    ({ s with soft.hold := x }).softens (s.setHold x) ∧ ({ s with soft.hold := x }).fillKept (s.setHold x) := by
  obtain ⟨t, ht⟩ : ∃ t : State, t = { s with soft.hold := x } := ⟨_, rfl⟩
  have same := State.softens.refl t
  have kept := State.fillKept.refl t
  have given : t.fillKept t.regenGiveBack := ⟨by rw [(State.routes.regenGiveBack t).rest], fun h => by
    unfold State.regenGiveBack
    dsimp only
    rw [if_neg (by rw [h]; nofun)]
    exact h⟩
  unfold State.setHold
  dsimp only
  rw [← ht]
  split
  · exact ⟨.routes (.regenGiveBack t), given⟩
  · split
    · split
      · split
        · exact ⟨(State.softens.routes (.regenRequestPath t)).autoCheck, kept.regenRequestPath.autoCheck⟩
        · exact ⟨same.autoCheck, kept.autoCheck⟩
      · exact ⟨same.autoCheck, kept.autoCheck⟩
    · exact ⟨same, kept⟩

theorem State.resumeSoftener_eng (s : State) : s.resumeSoftener.eng = s.eng := (s.setHold_spec _).1.eng
theorem State.resumeSoftener_chan (s : State) : s.resumeSoftener.chan = s.chan := (s.setHold_spec _).1.chan
theorem State.resumeSoftener_dosing (s : State) : s.resumeSoftener.dosing = s.dosing := (s.setHold_spec _).1.dosing

theorem State.resumeSoftener_bus (s : State) : s.resumeSoftener.bus = s.bus := (s.setHold_spec _).1.bus

theorem State.resumeSoftener_hold (s : State) : s.resumeSoftener.soft.hold = { s.soft.hold with restored := false } :=
  (s.setHold_spec _).1.holdSet

theorem State.resumeSoftener_own (s : State) {k : LoadId} (hk : ¬ ofSoftener k) :
    s.resumeSoftener.load k = s.load k := (s.setHold_spec _).1.loads k hk

theorem State.resumeSoftener_fill {s : State} (h : s.soft.holder = .fill) : s.resumeSoftener.soft.holder = .fill :=
  (s.setHold_spec _).2.holder h

theorem State.resumeSoftener_inEffect {s : State} (h : s.inEffect .machine) : s.resumeSoftener.inEffect .machine := by
  have eng := s.resumeSoftener_eng
  have rest := (s.setHold_spec { s.soft.hold with restored := false }).1.rest
  have mark : s.resumeSoftener.trip.faultedMachine = s.trip.faultedMachine := (congrArg (fun x : State => x.trip.faultedMachine) rest :)
  unfold State.inEffect State.faulted State.profileSound at h ⊢
  rw [eng, mark]
  exact h

/-- The engine's part of RESUME, with the reasons of the host's taken out (R179). -/
theorem State.resumeEngine_eq (s : State) :
    s.resumeEngine = State.returnIfFree { s with eng.susp := { s.eng.susp with host := false, noWater := false, restored := false } } :=
  rfl

/-- RESUME acts on the engine and on the softener, in either order, on a state whose counter of free values may have moved on
(R90; log 56). -/
theorem State.resume_orders (s : State) :
    (∃ t : State, (t = s ∨ t = s.draw) ∧ s.resume = t.resumeEngine.resumeSoftener) ∨
      s.resume = s.draw.resumeSoftener.resumeEngine := by
  rcases s.resume_cases with e | ⟨-, e | e⟩
  · exact .inl ⟨s, .inl rfl, e⟩
  · exact .inl ⟨s.draw, .inr rfl, e⟩
  · exact .inr e

/-- A state in which the engine stands as it stood in `s` when the engine's part of RESUME acts on it. -/
structure State.engineStands (s t : State) : Prop where
  eng : t.eng = s.eng
  chan : t.chan = s.chan
  dosing : t.dosing = s.dosing
  inEffect : s.inEffect .machine → t.inEffect .machine

theorem State.engineStands.washHead {s t : State} (h : s.engineStands t) : t.washHead = s.washHead := by
  unfold State.washHead State.headRecord
  rw [h.eng]

theorem State.engineStands.fresh {s t : State} (h : s.engineStands t) (r : Role) : t.fresh r = s.fresh r := by
  unfold State.fresh State.roleFreshness State.bound
  rw [h.chan]

theorem State.engineStands.roleValue {s t : State} (h : s.engineStands t) (r : Role) : t.roleValue r = s.roleValue r := by
  unfold State.roleValue State.bound
  rw [h.chan]

/-- What RESUME does to the engine, whichever block acts first: the engine's part acts on a state in which the engine stands,
and what it leaves to the engine, and a fill on the path, stay. -/
theorem State.resume_engine (s : State) :
    ∃ t : State, s.engineStands t ∧ s.resume.eng = t.resumeEngine.eng ∧
      (∀ k, ¬ ofSoftener k → s.resume.load k = t.resumeEngine.load k) ∧
      (t.resumeEngine.soft.holder = .fill → s.resume.soft.holder = .fill) ∧
      s.resume.soft.hold = { s.soft.hold with restored := false } ∧ s.resume.bus = s.bus := by
  have engine : ∀ t : State, t.resumeEngine.soft.hold = t.soft.hold ∧ t.resumeEngine.bus = t.bus := fun t => by
    have moved := (State.phases.refl { t with
      eng.susp := { t.eng.susp with host := false, noWater := false, restored := false } }).returnIfFree
    exact ⟨moved.hold, moved.bus⟩
  rcases s.resume_orders with ⟨t, ht, e⟩ | e
  · have stands : s.engineStands t ∧ t.soft = s.soft ∧ t.bus = s.bus := by
      rcases ht with rfl | rfl
      · exact ⟨⟨rfl, rfl, rfl, id⟩, rfl, rfl⟩
      · exact ⟨⟨rfl, rfl, rfl, id⟩, rfl, rfl⟩
    obtain ⟨stands, soft, bus⟩ := stands
    obtain ⟨hold, busE⟩ := engine t
    rw [e]
    exact ⟨t, stands, State.resumeSoftener_eng _, fun k hk => State.resumeSoftener_own _ hk, State.resumeSoftener_fill,
      by rw [State.resumeSoftener_hold, hold, soft], by rw [State.resumeSoftener_bus, busE, bus]⟩
  · obtain ⟨hold, bus⟩ := engine s.draw.resumeSoftener
    rw [e]
    exact ⟨s.draw.resumeSoftener, ⟨State.resumeSoftener_eng _, State.resumeSoftener_chan _, State.resumeSoftener_dosing _,
      fun h => State.resumeSoftener_inEffect (s := s.draw) h⟩, rfl, fun _ _ => rfl, id, by rw [hold, State.resumeSoftener_hold]; rfl,
      by rw [bus, State.resumeSoftener_bus]; rfl⟩

theorem SuspSet.clearHost_of_clear {x : SuspSet} (host : x.host = false) (noWater : x.noWater = false)
    (restored : x.restored = false) : x.clearHost = x := by
  cases x
  cases host
  cases noWater
  cases restored
  rfl

theorem HoldSet.restored_of_clear {x : HoldSet} (h : x.restored = false) : { x with restored := false } = x := by
  cases x
  cases h
  rfl

/-- RESUME with nothing to remove (R179). -/
theorem State.resume_idle {s : State} (host : s.eng.susp.host = false) (noWater : s.eng.susp.noWater = false)
    (restored : s.eng.susp.restored = false) (hold : s.soft.hold.restored = false)
    (held : s.eng.state = .suspended → s.eng.susp.isEmpty = false) : s.resume = s := by
  have susp := SuspSet.clearHost_of_clear host noWater restored
  have holdSame := HoldSet.restored_of_clear hold
  have closed : s.resumeOrderOpen = false := by
    unfold State.resumeOrderOpen
    rw [susp]
    by_cases h : s.eng.state = .suspended
    · simp [held h]
    · simp [h]
  have engine : s.resumeEngine = s := by
    unfold State.resumeEngine
    rw [susp]
    refine State.returnIfFree_of_held ?_
    by_cases h : s.eng.state = .suspended
    · exact .inr (held h)
    · exact .inl h
  have softener : s.resumeSoftener = s := by
    unfold State.resumeSoftener State.setHold
    rw [holdSame]
    dsimp only
    cases s.soft.hold.isEmpty <;> rfl
  unfold State.resume
  rw [closed, engine]
  exact softener

end Sys2Proof.Machine
end

section
/-! ### Settling PAUSE and RESUME -/

namespace Sys2Proof.Machine

theorem pause_clauses (s : State) (hr : s.ready) :
    (s.trip.latch = true → exec (.pause []) s = .next (s.respond 0x14 .tripped [])) ∧
      (s.trip.latch = false → s.underWay = false → exec (.pause []) s = .next (s.respond 0x14 .notFound [])) ∧
      (s.trip.latch = false → s.eng.state = .suspended →
        exec (.pause []) s =
          .next ({ s with eng.susp := { s.eng.susp with host := true } }.respond 0x14 .ok
            (suspByte { s.eng.susp with host := true }))) ∧
      (s.trip.latch = false → s.eng.state = .running →
        ∃ u : State, exec (.pause []) s = .next (u.settle.respond 0x14 .ok (suspByte u.settle.eng.susp)) ∧
          u.eng = { s.eng with state := .suspended, susp := { s.eng.susp with host := true } } ∧
          (∀ l, l = .heater ∨ l = .circPump ∨ l = .drainPump ∨ l = .fan ∨ l = .doorActuator →
            (u.load l).own = none) ∧
          u.dosing.dose = s.dosing.dose.map (fun d => { d with state := .paused, timer := 0 }) ∧
          (s.runningIn .fill = true → u.soft.holder ≠ .fill) ∧
          u.chan = s.chan ∧ u.bus = s.bus ∧ u.link = s.link) := by
  refine ⟨fun ht => ?_, fun ht hw => ?_, fun ht hs => ?_, fun ht hs => ?_⟩
  · exact exec_of_refuse rfl hr (by simp) (by simp [judgePause, ht])
  · exact exec_of_refuse rfl hr (by simp) (by simp [judgePause, ht, hw])
  · have judged : judgePause [] s = accept { s with eng.susp := { s.eng.susp with host := true } }
        (fun t => suspByte t.eng.susp) := by
      have way : s.underWay = true := by simp [State.underWay, hs]
      unfold judgePause
      rw [if_neg (by simp), if_neg (by simp [ht]), if_pos way, State.addReason_suspended hs]
      rfl
    exact exec_of_accept_settled rfl hr (by simp) judged hr.2
  · have judged : judgePause [] s = accept (s.addReason .host) (fun t => suspByte t.eng.susp) := by
      have way : s.underWay = true := by simp [State.underWay, hs]
      simp [judgePause, ht, way]
    exact ⟨s.addReason .host, exec_of_accept rfl hr (by simp) judged, State.pause_running hs⟩

/-! #### What RESUME does to a SUSPENDED WASH head whose set is then empty -/

/-- The state on which the engine's part of RESUME acts: a WASH head that is to return. -/
structure State.washReturns (s : State) (h : StageRecord) (w : WashFields) (z : State) : Prop where
  state : z.eng.state = .suspended
  susp : z.eng.susp = .empty
  eng : z.eng = { s.eng with susp := .empty }
  head : z.eng.head = some h
  wash : z.washHead = some w
  dose : z.dosing.dose = none
  fresh : ∀ r, z.fresh r = s.fresh r
  value : ∀ r, z.roleValue r = s.roleValue r
  inEffect : s.inEffect .machine → z.inEffect .machine

theorem SuspSet.clearHost_empty {x : SuspSet} (door : x.door = false) (mains : x.mains = false) : x.clearHost = .empty := by
  cases x
  cases door
  cases mains
  rfl

theorem State.engineStands.washReturns {s t : State} (g : s.engineStands t) {h : StageRecord} {w : WashFields}
    (hs : s.eng.state = .suspended) (door : s.eng.susp.door = false) (mains : s.eng.susp.mains = false)
    (hh : s.eng.head = some h) (hw : s.washHead = some w) (hn : s.dosing.dose = none) :
    s.washReturns h w { t with eng.susp := t.eng.susp.clearHost } := by
  have empty : t.eng.susp.clearHost = .empty := by rw [g.eng]; exact SuspSet.clearHost_empty door mains
  have wash : t.washHead = some w := by rw [g.washHead, hw]
  exact {
    state := by rw [← hs, ← g.eng]
    susp := empty
    eng := by rw [empty, ← g.eng]
    head := by rw [← hh, ← g.eng]
    wash := wash
    dose := by rw [← hn, ← g.dosing]
    fresh := g.fresh
    value := g.roleValue
    inEffect := g.inEffect }

/-- What the return of a WASH head leaves in the engine besides its head record. -/
theorem State.washReturns.engine {s z : State} {h : StageRecord} {w : WashFields} (g : s.washReturns h w z) {u : State}
    {r : Option StageRecord} (hu : u.eng = { z.returned.eng with head := r }) :
    u.eng.state = .running ∧ u.eng.susp = .empty ∧ u.eng.queue = s.eng.queue := by
  have queue : z.eng.queue = s.eng.queue := by rw [g.eng]
  rw [hu]
  exact ⟨rfl, g.susp, queue⟩

theorem State.resume_wash {s : State} {h : StageRecord} {w : WashFields} (hs : s.eng.state = .suspended)
    (door : s.eng.susp.door = false) (mains : s.eng.susp.mains = false) (hh : s.eng.head = some h) (hw : s.washHead = some w)
    (hn : s.dosing.dose = none) :
    (h.stage = .fill →
      s.resume.eng.state = .running ∧ s.resume.eng.susp = .empty ∧ s.resume.eng.queue = s.eng.queue ∧
      s.resume.soft.holder = .fill ∧ s.resume.eng.head = some { h with runMark := .resumed }) ∧
    (h.stage = .circulate → (s.fresh .tubTemp = true → s.roleValue .tubTemp < w.setpoint) →
      s.resume.eng.state = .running ∧ s.resume.eng.susp = .empty ∧ s.resume.eng.queue = s.eng.queue ∧
      (s.resume.load .circPump).own = some w.speed ∧ s.resume.eng.head = some { h with thermostat := s.fresh .tubTemp }) ∧
    (h.stage = .hold → s.inEffect .machine →
      s.resume.eng.state = .running ∧ s.resume.eng.susp = .empty ∧ s.resume.eng.queue = s.eng.queue ∧
      (s.resume.load .circPump).own = some w.speed ∧ s.resume.eng.head.map StageRecord.stage = some .hold) ∧
    (h.stage = .drain → (s.fresh .tubLevel = true → (w.endLevel : Int) < s.roleValue .tubLevel) →
      s.resume.eng = { s.eng with state := .running, susp := .empty, totals := { s.eng.totals with held := false } } ∧
      (s.resume.load .drainPump).own = some 0) := by
  obtain ⟨t, stands, eng, own, holder, -⟩ := s.resume_engine
  have g := stands.washReturns hs door mains hh hw hn
  have act : t.resumeEngine = State.returnIfFree { t with eng.susp := t.eng.susp.clearHost } := rfl
  generalize { t with eng.susp := t.eng.susp.clearHost } = z at g act
  have free : z.eng.susp.isEmpty = true := by rw [g.susp]; rfl
  rw [eng, own .circPump nofun, own .drainPump nofun, act]
  rw [act] at holder
  refine ⟨fun hst => ?_, fun hst ht => ?_, fun hst hm => ?_, fun hst hl => ?_⟩
  · obtain ⟨engU, fill⟩ := State.return_fill g.state free g.dose g.head hst g.wash
    obtain ⟨state, susp, queue⟩ := g.engine engU
    exact ⟨state, susp, queue, holder fill, by rw [engU]⟩
  · rw [← g.fresh, ← g.value] at ht
    obtain ⟨engU, pump⟩ := State.return_circulate g.state free g.dose g.head hst g.wash ht
    obtain ⟨state, susp, queue⟩ := g.engine engU
    exact ⟨state, susp, queue, pump, by rw [engU, g.fresh]⟩
  · obtain ⟨on, engU, pump⟩ := State.return_hold g.state free g.dose g.head hst g.wash (g.inEffect hm)
    obtain ⟨state, susp, queue⟩ := g.engine engU
    exact ⟨state, susp, queue, pump, by rw [engU, ← hst]; rfl⟩
  · obtain ⟨p, rest, hq, hb⟩ := State.queue_of_washHead g.wash
    obtain ⟨-, noDry, drain⟩ := State.heads_of_wash hq hb
    rw [← g.fresh, ← g.value] at hl
    have stillUp : z.fresh .tubLevel = false ∨ (w.endLevel : Int) < z.roleValue .tubLevel ∨ h.drainTimer < w.minTime * 10000 := by
      by_cases hf : z.fresh .tubLevel = true
      · exact .inr (.inl (hl hf))
      · exact .inl (by simpa using hf)
    rw [State.return_drain g.state free g.dose g.head hst noDry drain stillUp]
    refine ⟨?_, by rw [State.request_own, if_pos rfl]⟩
    show z.returned.eng = _
    unfold State.returned
    rw [g.eng]

theorem resume_clauses (s : State) (hr : s.ready) :
    (∃ u : State, exec (.resume []) s =
        .next (u.settle.respond 0x15 .ok (suspByte u.settle.eng.susp ++ holdByte u.settle.soft.hold)) ∧
      u.eng.susp.host = false ∧ u.eng.susp.noWater = false ∧ u.eng.susp.restored = false ∧
      u.soft.hold = { s.soft.hold with restored := false } ∧ u.bus = s.bus ∧
      (s.eng.susp.door = true ∨ s.eng.susp.mains = true →
        u.eng = { s.eng with
          susp := { s.eng.susp with host := false, noWater := false, restored := false } }) ∧
      (∀ h w, s.eng.state = .suspended → s.eng.susp.door = false → s.eng.susp.mains = false → s.eng.head = some h →
        s.washHead = some w → s.dosing.dose = none →
        (h.stage = .fill →
          u.eng.state = .running ∧ u.eng.susp = .empty ∧ u.eng.queue = s.eng.queue ∧ u.soft.holder = .fill ∧
          u.eng.head = some { h with runMark := .resumed }) ∧
        (h.stage = .circulate → (s.fresh .tubTemp = true → s.roleValue .tubTemp < w.setpoint) →
          u.eng.state = .running ∧ u.eng.susp = .empty ∧ u.eng.queue = s.eng.queue ∧
          (u.load .circPump).own = some w.speed ∧ u.eng.head = some { h with thermostat := s.fresh .tubTemp }) ∧
        (h.stage = .hold → s.inEffect .machine →
          u.eng.state = .running ∧ u.eng.susp = .empty ∧ u.eng.queue = s.eng.queue ∧
          (u.load .circPump).own = some w.speed ∧ u.eng.head.map StageRecord.stage = some .hold) ∧
        (h.stage = .drain → (s.fresh .tubLevel = true → (w.endLevel : Int) < s.roleValue .tubLevel) →
          u.eng = { s.eng with state := .running, susp := .empty, totals := { s.eng.totals with held := false } } ∧
          (u.load .drainPump).own = some 0))) ∧
    (s.eng.susp.host = false → s.eng.susp.noWater = false → s.eng.susp.restored = false →
      s.soft.hold.restored = false → (s.eng.state = .suspended → s.eng.susp.isEmpty = false) →
      exec (.resume []) s = .next (s.respond 0x15 .ok (suspByte s.eng.susp ++ holdByte s.soft.hold))) := by
  have judged : judgeResume [] s = accept s.resume (fun t => suspByte t.eng.susp ++ holdByte t.soft.hold) := rfl
  refine ⟨?_, fun host noWater restored hold held => ?_⟩
  · obtain ⟨t, stands, eng, -, -, hold, bus⟩ := s.resume_engine
    have moved := (State.phases.refl { t with eng.susp := t.eng.susp.clearHost }).returnIfFree
    have act : t.resumeEngine = State.returnIfFree { t with eng.susp := t.eng.susp.clearHost } := rfl
    rw [← act] at moved
    obtain ⟨host, noWater, -, restored⟩ := moved.susp
    refine ⟨s.resume, exec_of_accept rfl hr (by simp) judged, ?_, ?_, ?_, hold, bus, fun hd => ?_,
      fun h w hs door mains hh hw hn => State.resume_wash hs door mains hh hw hn⟩
    · rw [eng]; exact Bool.eq_false_of_not_eq_true fun e => nomatch host e
    · rw [eng]; exact Bool.eq_false_of_not_eq_true fun e => nomatch noWater e
    · rw [eng]; exact Bool.eq_false_of_not_eq_true fun e => nomatch restored e
    · have held : t.eng.susp.clearHost.isEmpty = false := by
        rw [stands.eng]
        rcases hd with e | e <;> simp [SuspSet.clearHost, SuspSet.isEmpty, e]
      rw [eng, act, State.returnIfFree_of_held (.inr held)]
      show { t.eng with susp := t.eng.susp.clearHost } = _
      rw [stands.eng]
      rfl
  · have same := State.resume_idle host noWater restored hold held
    rw [same] at judged
    exact exec_of_accept_settled rfl hr (by simp) judged hr.2

end Sys2Proof.Machine
end

section
/-! ### The return of each kind of head, as PAUSE and RESUME state it -/

namespace Sys2Proof.Machine

theorem finishIf_of_false {r : State × Bool} (h : r.2 = false) : finishIf r = r.1 := by
  unfold finishIf
  rw [h]
  rfl

section
variable {s : State} {p : PhaseRecord} {rest : List PhaseRecord} {h : StageRecord} (hs : s.eng.state = .suspended)
  (he : s.eng.susp.isEmpty = true) (hq : s.eng.queue = p :: rest) (hh : s.eng.head = some h)
include hs he hq hh

theorem State.return_drainRecord {d : DrainFields} (hb : p.body = .drain d) (hst : h.stage = .drain) (hn : s.dosing.dose = none) :
    (s.fresh .tubLevel = false ∨ (d.endLevel : Int) < s.roleValue .tubLevel ∨ h.drainTimer < d.minTime * 10000 →
      s.returnIfFree.eng = s.returned.eng ∧ (s.returnIfFree.load .drainPump).own = some 0 ∧ s.returnIfFree.link = s.link ∧
      s.returnIfFree.soft = s.soft ∧ s.returnIfFree.door = s.door) ∧
    (s.fresh .tubLevel = true → s.roleValue .tubLevel ≤ d.endLevel → d.minTime * 10000 ≤ h.drainTimer →
      h.cancelling = false → rest = [] →
      s.returnIfFree.eng.state = .idle ∧ s.returnIfFree.eng.queue = [] ∧ s.returnIfFree.eng.head = none ∧
      (s.returnIfFree.load .drainPump).own = none ∧
      s.returnIfFree.link = (s.link.post (s.notice .phaseDone 5 p.tag 0)).post
        (s.notice .cycleDone 4 p.tag s.eng.totals.clock)) := by
  obtain ⟨-, dry, drain⟩ := State.heads_of_drain hq hb
  refine ⟨fun e => ?_, fun hf hl ht hc last => ?_⟩
  · rw [State.return_drain hs he hn hh hst dry drain e]
    exact ⟨rfl, by rw [State.request_own, if_pos rfl], rfl, rfl, rfl⟩
  · subst last
    exact State.return_drained hs he hn hh hq hb hst hf hl ht hc

theorem State.return_dryRecord {f : DryFields} {x : DryRecord} (hb : p.body = .dry f) (hx : s.door.dry = some x)
    (hn : s.dosing.dose = none) :
    (h.stage = .condense → s.door.state = .latched →
      (s.coolEnough f = false → s.returnIfFree.eng = s.returned.eng ∧ s.returnIfFree.door = s.door ∧
        s.returnIfFree.arb = s.arb ∧ s.returnIfFree.link = s.link) ∧
      (s.coolEnough f = true →
        s.returnIfFree.eng = { s.returned.eng with head := some { h with stage := .opening } } ∧
        (s.returnIfFree.load .doorActuator).own = some 0 ∧
        s.returnIfFree.door.dry.map DryRecord.attempt = some 1 ∧ s.returnIfFree.link = s.link)) ∧
    (h.stage = .opening → s.door.state = .latched →
      s.returnIfFree.eng = s.returned.eng ∧ s.returnIfFree.door = s.door ∧ s.returnIfFree.link = s.link ∧
      (x.attState = .requested → (s.returnIfFree.load .doorActuator).own = some 0) ∧
      (x.attState ≠ .requested → s.returnIfFree.arb = s.arb)) ∧
    (h.stage = .condense ∨ h.stage = .opening → s.door.state ≠ .latched → f.ventTime ≠ 0 →
      s.returnIfFree.eng = { s.returned.eng with head := some { h with stage := .vent } } ∧
      s.returnIfFree.door.dry = some { x with openedBy := .user, vent := 0, attState := .none, window := 0, rest := 0 } ∧
      (s.returnIfFree.load .doorActuator).own = none ∧ (f.fan = true → (s.returnIfFree.load .fan).own = some 0) ∧
      s.returnIfFree.link = s.link.post (s.notice .dryOpened 5 p.tag 0)) ∧
    (h.stage = .vent →
      ((x.openedBy = .actuator ∨ x.openedBy = .user) → s.door.closed = true → rest = [] →
        s.returnIfFree.eng.state = .idle ∧ s.returnIfFree.eng.queue = [] ∧ s.returnIfFree.door.dry = none ∧
        (s.returnIfFree.load .fan).own = none ∧
        s.returnIfFree.link = (s.link.post (s.notice .phaseDone 5 p.tag 0)).post
          (s.notice .cycleDone 4 p.tag s.eng.totals.clock)) ∧
      (¬((x.openedBy = .actuator ∨ x.openedBy = .user) ∧ s.door.closed = true) →
        s.returnIfFree.eng = s.returned.eng ∧ s.returnIfFree.door = s.door ∧ s.returnIfFree.link = s.link ∧
        (f.fan = true → (s.returnIfFree.load .fan).own = some 0) ∧
        (f.fan = false → s.returnIfFree.arb = s.arb))) := by
  have head : s.returned.eng.head = some h := hh
  have dry : s.returned.door.dry = some x := hx
  have stage : s.returned.eng.head.map StageRecord.stage = some h.stage := by rw [head]; rfl
  have attempt : s.returned.attemptState = x.attState := by unfold State.attemptState; rw [dry]; rfl
  have openedBy : s.returned.openedBy = x.openedBy := by unfold State.openedBy; rw [dry]; rfl
  have cool : s.returned.coolEnough f = s.coolEnough f := rfl
  have door : s.returned.door = s.door := rfl
  rw [State.return_dry hs he hn hh hq hb]
  refine ⟨fun hst latched => ⟨fun warm => ?_, fun e => ?_⟩, fun hst latched => ?_, fun hst away vents => ?_,
    fun hst => ⟨fun opener closed last => ?_, fun stays => ?_⟩⟩
  · have same : s.returned.returnDry f = (s.returned, false) := by
      unfold State.returnDry
      simp only [stage, hst, door, latched, cool, warm, ne_eq, not_true, decide_false, Bool.false_eq_true, if_false]
    rw [same]
    exact ⟨rfl, rfl, rfl, rfl⟩
  · have opens : s.returned.returnDry f = (s.returned.enterOpening, false) := by
      unfold State.returnDry
      simp only [stage, hst, door, latched, cool, e, ne_eq, not_true, decide_false, Bool.false_eq_true, if_false, if_true]
    obtain ⟨eng, -, -, link, own, doorU⟩ := s.returned.enterOpening_spec
    rw [opens, finishIf_of_false rfl]
    exact ⟨by rw [eng, head]; rfl, own, by rw [doorU, dry]; rfl, link⟩
  · by_cases asked : x.attState = .requested
    · have again : s.returned.returnDry f = (s.returned.request .doorActuator 0, false) := by
        unfold State.returnDry
        simp only [stage, hst, door, latched, attempt, asked, ne_eq, not_true, decide_false, Bool.false_eq_true, if_false, if_true]
      rw [again]
      exact ⟨rfl, rfl, rfl, fun _ => by rw [finishIf_of_false rfl, State.request_own, if_pos rfl], fun e => absurd asked e⟩
    · have same : s.returned.returnDry f = (s.returned, false) := by
        unfold State.returnDry
        simp only [stage, hst, door, latched, attempt, asked, ne_eq, not_true, decide_false, Bool.false_eq_true, if_false]
      rw [same]
      exact ⟨rfl, rfl, rfl, fun e => absurd e asked, fun _ => rfl⟩
  · have opens : s.returned.returnDry f = s.returned.openedByUser f := by
      unfold State.returnDry
      rcases hst with e | e <;>
        simp only [stage, e, door, away, ne_eq, not_false_eq_true, decide_true, if_true]
    obtain ⟨ends, -, eng, doorU, -, -, link, actuator, fan⟩ := s.returned.openedByUser_spec f
    have tag : s.returned.headTag = p.tag := State.headTag_of_queue (s := s.returned) hq
    rw [opens, finishIf_of_false (by rw [ends]; simp [vents])]
    exact ⟨by rw [eng, head]; rfl, by rw [doorU, dry]; rfl, actuator, fan, by rw [link, tag]; rfl⟩
  · have ends : s.returned.returnDry f = (s.returned, true) := by
      unfold State.returnDry
      simp only [stage, hst, door, openedBy, opener, closed, decide_true, Bool.and_self, if_true]
    subst last
    obtain ⟨eng, doorU, fan, -, -, -, -, link⟩ := State.finishDry_last (s := s.returned) hq fun w e => nomatch hb.symm.trans e
    rw [ends]
    exact ⟨by rw [eng], by rw [eng], by rw [doorU], fan, link⟩
  · have vents : s.returned.returnDry f = (if f.fan then s.returned.request .fan 0 else s.returned, false) := by
      unfold State.returnDry
      simp only [stage, hst, door, openedBy]
      rw [if_neg (by simpa using stays)]
    rw [vents, finishIf_of_false rfl]
    cases f.fan
    · exact ⟨rfl, rfl, rfl, nofun, fun _ => rfl⟩
    · exact ⟨rfl, rfl, rfl, fun _ => by rw [if_pos rfl, State.request_own, if_pos rfl], nofun⟩

/-- The stage of a WASH head is entered again on the state in which its dose has been judged (R122, R128). -/
theorem State.return_washDose {w : WashFields} {d : Dose} (hb : p.body = .wash w) (hd : s.dosing.dose = some d) :
    (h.stage = .hold ∨ h.stage = .circulate ∧ (s.fresh .tubTemp = true → s.roleValue .tubTemp < w.setpoint) →
      s.inEffect .machine →
      s.returnIfFree.dosing = s.returned.resumeDose.dosing ∧ s.returnIfFree.link = s.returned.resumeDose.link ∧
      s.returnIfFree.eng.totals = s.returned.resumeDose.eng.totals ∧
      ∀ r, (s.returnIfFree.load (pumpOf r)).own = (s.returned.resumeDose.load (pumpOf r)).own) := by
  have wash : s.washHead = some w := (State.heads_of_wash hq hb).1
  intro hst hm
  have doses := (State.doses.refl s.returned).resumeDose
  have head : s.returned.resumeDose.eng.head = some h := doses.head.trans hh
  have washD : s.returned.resumeDose.washHead = some w := doses.washHead.trans wash
  have fresh : s.returned.resumeDose.fresh .tubTemp = s.fresh .tubTemp := doses.acts.fresh _
  have value : s.returned.resumeDose.roleValue .tubTemp = s.roleValue .tubTemp := doses.acts.roleValue _
  have sound : s.returned.resumeDose.inEffect .machine := by
    have mark : s.returned.resumeDose.trip.faultedMachine = s.trip.faultedMachine := by
      obtain ⟨lt, le⟩ := (State.resumeDose_spec (s := s.returned) hd).1 (by
        rcases hst with e | ⟨e, -⟩ <;> simp [State.runningIn, State.returned, hh, e])
      rcases Nat.lt_or_ge d.done d.total with g | g
      · rw [lt g]; rfl
      · rw [le g, (State.doseDone_spec _ _ _ _).2.2.2.2.2.2.1]; rfl
    have profile : s.returned.resumeDose.eng.profile = s.eng.profile := doses.profile
    unfold State.inEffect State.faulted State.profileSound at hm ⊢
    rw [profile, mark]
    exact hm
  rw [State.returnIfFree_of_free hs he]
  generalize s.returned.resumeDose = z at head washD fresh value sound
  obtain ⟨on, e⟩ : ∃ on, z.reenter = (z.request .circPump w.speed).setThermostat on := by
    rcases hst with e | ⟨e, below⟩
    · exact ⟨_, (State.reenter_hold head e washD).trans (State.holdJudge_of_inEffect (s := z.request .circPump w.speed) sound w)⟩
    · rw [← fresh, ← value] at below
      exact ⟨_, (State.reenter_circulate head e washD).trans
        (State.circulateJudge_below (s := z.request .circPump w.speed) below)⟩
  obtain ⟨engT, -, dosing, -, link, -⟩ := (z.request .circPump w.speed).setThermostat_spec on
  rw [e]
  refine ⟨dosing, link, by rw [engT]; rfl, fun r => ?_⟩
  rw [State.setThermostat_own _ _ (by cases r <;> nofun), State.request_own, if_neg (by cases r <;> nofun)]

theorem State.return_doseRecord {w : WashFields} {d : Dose} (hb : p.body = .wash w) (hd : s.dosing.dose = some d) :
    (h.stage = .hold ∨ h.stage = .circulate ∧ (s.fresh .tubTemp = true → s.roleValue .tubTemp < w.setpoint) →
      s.inEffect .machine →
      (d.done < d.total →
        s.returnIfFree.dosing.dose = some { d with state := .requested, timer := 0 } ∧
        (s.returnIfFree.load (pumpOf d.reservoir)).own = some 0 ∧ s.returnIfFree.link = s.link ∧
        s.returnIfFree.eng.totals = s.returned.eng.totals) ∧
      (d.total ≤ d.done →
        s.returnIfFree.dosing.dose = none ∧ (s.returnIfFree.load (pumpOf d.reservoir)).own = none ∧
        s.returnIfFree.link = s.link.post (s.notice .doseDone 5 d.tag d.done) ∧
        s.returnIfFree.eng.totals = { s.returned.eng.totals with doses := min 65535 (s.eng.totals.doses + 1) })) ∧
    (h.stage = .fill →
      s.returnIfFree.dosing.dose = none ∧ (s.returnIfFree.load (pumpOf d.reservoir)).own = none ∧
      s.returnIfFree.soft.holder = .fill ∧
      s.returnIfFree.eng.totals = { s.returned.eng.totals with doses := min 65535 (s.eng.totals.doses + 1) }) := by
  have spec := State.resumeDose_spec (s := s.returned) hd
  refine ⟨fun hst hm => ?_, fun hst => ?_⟩
  · obtain ⟨dosing, link, totals, own⟩ := State.return_washDose hs he hq hh hb hd hst hm
    obtain ⟨goesOn, ends⟩ := spec.1 (by
      rcases hst with e | ⟨e, -⟩ <;> simp [State.runningIn, State.returned, hh, e])
    rw [dosing, link, totals, own]
    refine ⟨fun lt => ?_, fun le => ?_⟩
    · rw [goesOn lt]
      exact ⟨rfl, by rw [State.request_own, if_pos rfl], rfl, rfl⟩
    · obtain ⟨dose, pump, linkD, engD, -⟩ := s.returned.doseDone_spec d.reservoir d.tag d.done
      rw [ends le]
      exact ⟨dose, pump, linkD, by rw [engD]; rfl⟩
  · have wash : s.washHead = some w := (State.heads_of_wash hq hb).1
    have abandoned : s.returned.resumeDose = s.returned.abandonDose :=
      spec.2 (by simp [State.runningIn, State.returned, hh, hst]) (by simp [State.runningIn, State.returned, hh, hst])
    have doses := (State.doses.refl s.returned).abandonDose
    have head : s.returned.abandonDose.eng.head = some h := doses.head.trans hh
    have washA : s.returned.abandonDose.washHead = some w := doses.washHead.trans wash
    obtain ⟨dose, pump, -, eng, -⟩ := State.abandonDose_some (s := s.returned) hd
    rw [State.returnIfFree_of_free hs he, abandoned, State.reenter_fill head hst washA]
    obtain ⟨softens, holder, -⟩ := State.requestFillPath_spec head
    have notSoft : ¬ ofSoftener (pumpOf d.reservoir) := by cases d.reservoir <;> nofun
    exact ⟨by rw [softens.dosing]; exact dose, by rw [softens.loads _ notSoft]; exact pump, holder,
      by rw [softens.eng]; show s.returned.abandonDose.eng.totals = _; rw [eng]; rfl⟩

end

/-- Settles O32, by the cases of PAUSE, by the two parts of RESUME, and by the return of each kind of head. -/
theorem pauseAndResume : Obligations.PauseAndResume := by
  unfold Obligations.PauseAndResume
  refine ⟨pause_clauses, resume_clauses, fun s p rest h hs he hq hh => ?_⟩
  exact ⟨fun d hb hst hn => State.return_drainRecord hs he hq hh hb hst hn,
    fun f x hb hx hn => State.return_dryRecord hs he hq hh hb hx hn,
    fun w d hb hd => State.return_doseRecord hs he hq hh hb hd⟩

end Sys2Proof.Machine
end

section
/-! ### The soft reset (R23, R39, R55, R110, R129, R145, R165, R177, R190, R203, R204) -/

namespace Sys2Proof.Machine

/-- Every block after a soft reset, before the SET move of a misaligned service column. -/
def State.blocksReset (s : State) (pins : InputPins) : State :=
  { s with
    chan := s.chan.softReset
    bus := s.bus.softReset
    eng := s.eng.softReset
    soft := s.soft.softReset (sideOfLevel pins.selectorHigh)
    dosing := s.dosing.softReset
    door := doorAtReset pins
    arb := s.arb.softReset
    trip := s.trip.softReset
    link := s.link.softReset }

theorem Column.softReset_spec (c : Column) :
    c.softReset.cap = c.cap ∧ c.softReset.due = c.due ∧ c.softReset.saltReduced = c.saltReduced ∧
      c.softReset.state = if c.state = .brine ∨ c.state = .soak ∨ c.state = .rinse then .exhausted else c.state := by
  unfold Column.softReset
  cases h : c.state <;> simp [h]

theorem Column.softReset_service (c : Column) : c.softReset.state = .service ↔ c.state = .service := by
  rw [c.softReset_spec.2.2.2]
  cases c.state <;> simp

theorem State.blocksReset_column (s : State) (pins : InputPins) (c : Side) :
    (s.blocksReset pins).column c = (s.column c).softReset := by
  cases c <;> rfl

theorem State.blocksReset_serviceColumn (s : State) (pins : InputPins) :
    (s.blocksReset pins).serviceColumn = s.serviceColumn := by
  unfold State.serviceColumn
  show (if s.soft.colA.softReset.state = .service then _ else if s.soft.colB.softReset.state = .service then _ else _) = _
  simp only [Column.softReset_service]

theorem State.blocksReset_position (s : State) (pins : InputPins) :
    (s.blocksReset pins).soft.position = if pins.selectorHigh then .a else .b := rfl

theorem State.blocksReset_door (s : State) (pins : InputPins) :
    (s.blocksReset pins).door = { State.reset.door with
      inputs := pins
      closed := pins.doorClosed
      latch := pins.latchEngaged
      state := if pins.doorClosed then (if pins.latchEngaged then .latched else .closedUnlatched) else .open } := by
  show doorAtReset pins = _
  unfold doorAtReset formDoor
  cases pins.doorClosed <;> cases pins.latchEngaged <;> rfl

/-- Outside RUN a move that is created waits (R86). -/
theorem State.createMove_waits {s : State} (h : s.link.mode ≠ .run) (p : MovePurpose) (c : Side) :
    s.createMove p c = { s.useProfile .softener with soft.move := some ((s.useProfile .softener).newMove p c) } := by
  have mode : (s.useProfile .softener).link.mode ≠ .run := by
    rw [(State.softens.refl s).useProfile.mode]
    exact h
  unfold State.createMove
  exact if_neg mode

/-- A service column is one that stands in SERVICE alone. -/
theorem State.serviceColumn_of_only {s : State} {c : Side} (h : (s.column c).state = .service)
    (only : ∀ d, d ≠ c → (s.column d).state ≠ .service) : s.serviceColumn = some c := by
  unfold State.serviceColumn
  cases c with
  | a => exact if_pos h
  | b =>
    have away : s.soft.colA.state ≠ .service := only .a nofun
    rw [if_neg away]
    exact if_pos h

/-- The move that a soft reset makes, with the softener profile in effect or the service column aligned. -/
theorem State.resetMove_spec {s : State} (hm : s.link.mode = .standby) (hn : s.soft.move = none)
    (hp : s.inEffect .softener ∨ ∀ c, s.serviceColumn = some c → c = s.soft.position) :
    ∃ mv, s.resetMove = { s with soft.move := mv } ∧
      (∀ c, s.serviceColumn = some c → s.soft.position ≠ c →
        ∃ m, mv = some m ∧ m.purpose = .set ∧ m.target = c ∧ m.driving = false) ∧
      ((∀ c, s.serviceColumn = some c → s.soft.position = c) → mv = none) := by
  have stays : s = { s with soft.move := none } := by rw [← hn]
  unfold State.resetMove
  split
  · rename_i c hc
    split
    · rename_i aligned
      exact ⟨none, stays, fun d hd away => absurd (aligned.trans (Option.some.inj (hc.symm.trans hd))) away, fun _ => rfl⟩
    · rename_i misaligned
      have sound : s.inEffect .softener := hp.resolve_right fun g => misaligned (g c hc).symm
      rw [State.createMove_waits (by rw [hm]; nofun), State.useProfile_of_inEffect sound]
      exact ⟨_, rfl, fun d hd _ => ⟨_, rfl, rfl, Option.some.inj (hc.symm.trans hd), rfl⟩,
        fun g => absurd (g c hc) misaligned⟩
  · rename_i hc
    exact ⟨none, stays, fun d hd => (nomatch hc.symm.trans hd), fun _ => rfl⟩

theorem exec_softReset {s : State} {pins : InputPins} (h : ((s.blocksReset pins).resetMove).settled) :
    exec (.softReset pins) s = .next (s.blocksReset pins).resetMove :=
  congrArg Host.Outcome.next (State.settle_of_settled _ h)

/-- A soft reset whose SET move finds no damaged profile. -/
theorem softReset_sound (s : State) (pins : InputPins)
    (h : s.soft.profile.sound = true ∨ ∀ c, s.serviceColumn = some c → c = if pins.selectorHigh then .a else .b) :
    ∃ mv, exec (.softReset pins) s = .next { s.blocksReset pins with soft.move := mv } ∧
      (∀ c, s.serviceColumn = some c → (s.blocksReset pins).soft.position ≠ c →
        ∃ m, mv = some m ∧ m.purpose = .set ∧ m.target = c ∧ m.driving = false) ∧
      ((∀ c, s.serviceColumn = some c → (s.blocksReset pins).soft.position = c) → mv = none) := by
  have effect : (s.blocksReset pins).inEffect .softener ∨
      ∀ c, (s.blocksReset pins).serviceColumn = some c → c = (s.blocksReset pins).soft.position := by
    rw [State.blocksReset_serviceColumn, State.blocksReset_position]
    exact h.imp_left fun sound => .inr sound
  obtain ⟨mv, e, move, none⟩ := State.resetMove_spec (s := s.blocksReset pins) rfl rfl effect
  rw [State.blocksReset_serviceColumn] at move none
  exact ⟨mv, by rw [exec_softReset (by rw [e]; rfl), e], move, none⟩

/-- A soft reset whose SET move finds the softener profile damaged (R176; log 72). -/
theorem softReset_damaged (s : State) (pins : InputPins) (c : Side) (hp : s.soft.profile.sound = false)
    (hc : s.serviceColumn = some c) (away : c ≠ if pins.selectorHigh then .a else .b) :
    ∃ t : State, exec (.softReset pins) s = .next t ∧ t.trip.faultedSoftener = true ∧ t.softener = .default ∧
      t.trip.integrity = some { table := .profile, bank := none, index := 1 } ∧
      t.link.notices.map Notice.kind = [.integrityError, .profileFault] ∧
      t.soft.move = some { purpose := .set, target := c, timer := 0, driving := false, limit := 8 } ∧
      (∀ d, (t.column d).cap = (s.column d).cap ∧ (t.column d).due = decide ((s.column d).cap ≤ 1200)) ∧
      t.link.mode = .standby ∧ t.eng.state = .idle ∧ t.eng.queue = [] ∧ ∀ l, (t.load l).grant = none := by
  have damaged : ¬ (s.blocksReset pins).inEffect .softener := by
    rintro (e | e)
    · exact nomatch e
    · exact nomatch hp.symm.trans e
  obtain ⟨softener, columns⟩ := State.useSoftener_of_damaged damaged
  have faulted : ((s.blocksReset pins).useProfile .softener).trip.faultedSoftener = true := State.useProfile_faulted damaged
  obtain ⟨eng, arb⟩ := State.useProfile_eng_arb (s := s.blocksReset pins) (p := .softener) nofun
  have found := State.integrityError_of_none (s := s.blocksReset pins) rfl .profile none (profileCode .softener)
  have used := State.useProfile_of_damaged damaged
  rw [found] at used
  have moved : (s.blocksReset pins).resetMove = { (s.blocksReset pins).useProfile .softener with
      soft.move := some (((s.blocksReset pins).useProfile .softener).newMove .set c) } := by
    rw [← State.createMove_waits (s := s.blocksReset pins) nofun]
    unfold State.resetMove
    rw [State.blocksReset_serviceColumn, hc]
    exact if_neg (Ne.symm away)
  have calm : (s.blocksReset pins).resetMove.settled := by rw [moved]; exact congrArg ArbiterUnit.evalDue arb
  refine ⟨_, exec_softReset calm, ?_⟩
  rw [moved]
  refine ⟨faulted, softener, by rw [used]; rfl, by rw [used]; rfl, ?_, fun d => ?_, by rw [used]; rfl,
    congrArg EngineUnit.state eng, congrArg EngineUnit.queue eng, fun l => ?_⟩
  · show some (State.newMove _ .set c) = _
    unfold State.newMove
    rw [softener]
    rfl
  · have column : State.column { (s.blocksReset pins).useProfile .softener with
        soft.move := some (((s.blocksReset pins).useProfile .softener).newMove .set c) } d =
        ((s.blocksReset pins).useProfile .softener).column d := by cases d <;> rfl
    obtain ⟨cap, -⟩ := (s.column d).softReset_spec
    rw [column, columns, State.blocksReset_column, cap]
    exact ⟨rfl, rfl⟩
  · show (((s.blocksReset pins).useProfile .softener).load l).grant = none
    unfold State.load
    rw [arb]
    show ((Vector.replicate 11 LoadState.idle)[loadIndex l]).grant = none
    simp [LoadState.idle]

/-- Settles O46, block by block, with the SET move of a misaligned service column. -/
theorem softResetKeepsAndClears : Obligations.SoftResetKeepsAndClears := by
  unfold Obligations.SoftResetKeepsAndClears
  refine ⟨fun s pins h => ?_, softReset_damaged⟩
  obtain ⟨mv, e, move, none⟩ := softReset_sound s pins h
  have column : ∀ c, State.column { s.blocksReset pins with soft.move := mv } c = (s.column c).softReset := fun c => by
    cases c <;> rfl
  refine ⟨_, e, rfl, rfl, rfl, fun c => by rw [column]; exact (s.column c).softReset_spec, rfl, rfl, rfl, rfl, rfl, rfl, rfl,
    rfl, rfl, rfl, rfl, rfl, rfl, rfl, rfl, rfl, rfl, rfl, rfl, fun c hc only away => ?_, none, rfl, rfl, rfl,
    s.blocksReset_door pins, rfl, rfl, rfl, rfl⟩
  have alone : ∀ d, d ≠ c → (s.column d).state ≠ .service := fun d hd g => only d hd (by
    rw [column]
    exact (s.column d).softReset_service.mpr g)
  rw [column] at hc
  exact move c (State.serviceColumn_of_only ((s.column c).softReset_service.mp hc) alone) away

end Sys2Proof.Machine
end

section
/-! ### The trip latch: its causes, its setting and its clear (R166 to R174) -/

namespace Sys2Proof.Machine

/-! #### A cause -/

theorem State.restartQuiet_on {s : State} (h : s.link.mode ≠ .standby) (c : Cause) :
    s.restartQuiet c = { s with trip.flowQuiet := if c.reason = .inletFlow then some 0 else s.trip.flowQuiet } := by
  unfold State.restartQuiet
  by_cases e : c.reason = .inletFlow
  · rw [if_pos ⟨e, .inr h⟩, if_pos e]
  · rw [if_neg (fun g => e g.1), if_neg e]

theorem State.tripCause_standby {s : State} (h : s.link.mode = .standby) (c : Cause) :
    s.tripCause c = if c.reason = .inletFlow ∧ s.trip.latch = true then { s with trip.flowQuiet := some 0 } else s := by
  have quiet : s.restartQuiet c =
      if c.reason = .inletFlow ∧ s.trip.latch = true then { s with trip.flowQuiet := some 0 } else s := by
    unfold State.restartQuiet
    simp only [h, ne_eq, not_true, or_false]
  have mode : (s.restartQuiet c).link.mode = .standby := by
    rw [quiet]
    split <;> exact h
  unfold State.tripCause
  exact (if_pos mode).trans quiet

theorem State.tripCause_again {s : State} (h : s.link.mode ≠ .standby) (hl : s.trip.latch = true) (c : Cause) :
    s.tripCause c = { s with
      trip.flowQuiet := if c.reason = .inletFlow then some 0 else s.trip.flowQuiet
      trip.record.secondary :=
        if s.trip.record.secondary = .none ∧
            (c.reason ≠ s.trip.record.reason ∨ c.reason = .sensorLost ∧ c.lost ≠ s.trip.lostRole) then c.reason
        else s.trip.record.secondary } := by
  unfold State.tripCause
  rw [State.restartQuiet_on h]
  dsimp only
  rw [if_neg h, if_pos hl]
  unfold State.fillsSecondary
  by_cases e : s.trip.record.secondary = .none ∧
      (c.reason ≠ s.trip.record.reason ∨ c.reason = .sensorLost ∧ c.lost ≠ s.trip.lostRole)
  · rw [if_pos e, if_pos (by simpa using e)]
  · rw [if_neg e, if_neg (by simpa using e)]

theorem State.tripCause_first {s : State} (h : s.link.mode ≠ .standby) (hl : s.trip.latch = false) (c : Cause) :
    s.tripCause c =
      State.setLatch { s with trip.flowQuiet := if c.reason = .inletFlow then some 0 else s.trip.flowQuiet } c := by
  unfold State.tripCause
  rw [State.restartQuiet_on h]
  dsimp only
  rw [if_neg h, if_neg (by simp [hl])]

theorem State.abortNotice_eq (s : State) : s.abortNotice =
    s.soft.regen.toList.map (fun g => s.notice .regenAborted 4 (sideCode g.column) (regenStageCode g.stage)) := by
  unfold State.abortNotice
  cases s.soft.regen <;> rfl

theorem State.shortNotice_eq (s : State) : s.shortNotice =
    s.dosing.dose.toList.map (fun d => s.notice .doseShort 3 d.tag d.done) := by
  unfold State.shortNotice
  cases s.dosing.dose <;> rfl

/-- What a cause that sets the latch leaves in every block (R170). -/
theorem State.tripCause_sets {s : State} (h : s.link.mode ≠ .standby) (hl : s.trip.latch = false) (c : Cause) :
    (s.tripCause c).trip = { s.trip with
        latch := true
        record := s.recordOf c
        flowQuiet := if c.reason = .inletFlow then some 0 else s.trip.flowQuiet
        tableMark := s.trip.tableMark || decide (c.reason = .table)
        lostRole := c.lost
        lossOpen := decide (c.reason = .sensorLost) && s.lossCounts } ∧
      (s.tripCause c).eng = { s.eng with
        state := if s.link.mode = .run then .tripped else .idle, queue := [], head := none, susp := .empty
        totals := { s.eng.totals with
          part := 0, held := false
          doses := if s.dosing.dose = none then s.eng.totals.doses else min 65535 (s.eng.totals.doses + 1) } } ∧
      (s.tripCause c).soft.regen = none ∧ (s.soft.regen ≠ none → (s.tripCause c).soft.holder ≠ .regen) ∧
      (s.tripCause c).dosing.dose = none ∧
      (s.tripCause c).arb.flood = (s.arb.flood || decide (c.reason = .flood)) ∧ (s.tripCause c).arb.evalDue = true ∧
      (s.tripCause c).chan = s.chan ∧ (s.tripCause c).bus = s.bus ∧
      (∀ d, s.dosing.dose = some d → ((s.tripCause c).load (pumpOf d.reservoir)).own = none) ∧
      (∀ g, s.soft.regen = some g →
        (s.tripCause c).column g.column = { s.column g.column with state := .exhausted }) ∧
      ∃ ns : List Notice, ns.Perm (s.tripNotices c) ∧ (s.tripCause c).link = ns.foldl LinkUnit.post s.link := by
  rw [State.tripCause_first h hl]
  obtain ⟨q, hq⟩ : ∃ q : State, q = { s with trip.flowQuiet := if c.reason = .inletFlow then some 0 else s.trip.flowQuiet } :=
    ⟨_, rfl⟩
  rw [← hq]
  obtain ⟨u, ns, hu, perm, e⟩ := q.setLatch_spec c
  have trip : (q.setLatch c).trip = u.trip := (congrArg (fun x : State => x.trip) e :)
  have eng : (q.setLatch c).eng = u.eng := (congrArg (fun x : State => x.eng) e :)
  have soft : (q.setLatch c).soft = u.soft := (congrArg (fun x : State => x.soft) e :)
  have dosing : (q.setLatch c).dosing = u.dosing := (congrArg (fun x : State => x.dosing) e :)
  have flood : (q.setLatch c).arb.flood = (q.arb.flood || decide (c.reason = .flood)) :=
    (congrArg (fun x : State => x.arb.flood) e :)
  have due : (q.setLatch c).arb.evalDue = true := (congrArg (fun x : State => x.arb.evalDue) e :)
  have chan : (q.setLatch c).chan = u.chan := (congrArg (fun x : State => x.chan) e :)
  have bus : (q.setLatch c).bus = u.bus := (congrArg (fun x : State => x.bus) e :)
  have loads : ∀ l, (q.setLatch c).load l = u.load l := fun l => (congrArg (fun x : State => x.load l) e :)
  have column : ∀ d, (q.setLatch c).column d = u.column d := fun d => by unfold State.column; rw [soft]
  have link : (q.setLatch c).link = ns.foldl LinkUnit.post u.link := (congrArg (fun x : State => x.link) e :)
  have lossCounts : q.lossCounts = s.lossCounts := by rw [hq]; rfl
  have dose : q.dosing = s.dosing := by rw [hq]
  have regen : q.soft = s.soft := by rw [hq]
  have columns : ∀ d, q.column d = s.column d := fun d => by unfold State.column; rw [regen]
  refine ⟨?_, ?_, ?_, fun g => ?_, ?_, ?_, due, ?_, ?_, fun d hd => ?_, fun g hg => ?_, ns, ?_, ?_⟩
  · rw [trip, hu.trip, hq]; rfl
  · rw [eng, hu.eng, hq]; rfl
  · rw [soft, hu.regen]
  · rw [soft]; exact hu.holder (by rw [← regen] at g; exact g)
  · rw [dosing, hu.dose]
  · rw [flood, hq]
  · rw [chan, hu.chan, hq]; rfl
  · rw [bus, hu.bus, hq]; rfl
  · rw [loads]; exact hu.pump d (by rw [← dose] at hd; exact hd)
  · rw [column, ← columns]; exact hu.column g (by rw [← regen] at hg; exact hg)
  · rw [hq] at perm; exact perm
  · rw [link, hu.link, hq]; rfl

/-! #### The causes that the blocks judge -/

theorem State.latch_of_tripCause {s : State} (h : s.link.mode ≠ .standby) (hl : s.trip.latch = false) (c : Cause) :
    (s.tripCause c).trip.latch = true ∧ (s.tripCause c).trip.record = s.recordOf c ∧ (s.tripCause c).trip.lostRole = c.lost ∧
      (s.tripCause c).trip.tableMark = (s.trip.tableMark || decide (c.reason = .table)) := by
  obtain ⟨trip, -⟩ := State.tripCause_sets h hl c
  rw [trip]
  exact ⟨rfl, rfl, rfl, rfl⟩

theorem State.lossCounts_iff (s : State) : s.lossCounts = true ↔
    s.link.mode = .run ∧ s.underWay = true ∨ s.link.mode = .service ∧ ∃ l, s.isGranted l = true := by
  have grants : s.noGrant = false ↔ ∃ l, s.isGranted l = true := by
    unfold State.noGrant State.isGranted
    rw [List.all_eq_false]
    constructor
    · rintro ⟨l, -, h⟩
      exact ⟨l, by cases e : (s.load l).grant <;> simp [e] at h ⊢⟩
    · rintro ⟨l, h⟩
      exact ⟨l, mem_allLoads l, by cases e : (s.load l).grant <;> simp [e] at h ⊢⟩
  unfold State.lossCounts
  rw [← grants]
  simp

/-- SENSOR_LOST of a role that is lost from FRESH (R168). -/
theorem State.judgeLoss_spec {s : State} (h : s.link.mode ≠ .standby) (hl : s.trip.latch = false) (ho : s.trip.lossOpen = false)
    (r : Role) (source : Option Nat) (value : Int) :
    ((s.judgeLoss r source value).trip.latch = true ↔ s.lossCounts = true) ∧
      ((s.judgeLoss r source value).trip.latch = true →
        (s.judgeLoss r source value).trip.record = s.recordOf (lostCause r source value) ∧
        (s.judgeLoss r source value).trip.lostRole = some r) := by
  unfold State.judgeLoss
  rw [ho, Bool.or_false]
  cases e : s.lossCounts with
  | false => exact ⟨⟨fun g => (nomatch hl.symm.trans g), nofun⟩, fun g => (nomatch hl.symm.trans g)⟩
  | true =>
    obtain ⟨latch, record, lost, -⟩ := State.latch_of_tripCause h hl (lostCause r source value)
    exact ⟨⟨fun _ => rfl, fun _ => latch⟩, fun _ => ⟨record, lost⟩⟩

theorem State.tellLost_spec {s : State} (h : s.link.mode ≠ .standby) (hl : s.trip.latch = false) (ho : s.trip.lossOpen = false)
    {r : Role} (hr : r = .tubTemp ∨ r = .tubLevel) (source : Option Nat) (value : Int) :
    ((s.tellLost r .fresh source value).trip.latch = true ↔
      s.link.mode = .run ∧ s.underWay = true ∨ s.link.mode = .service ∧ ∃ l, s.isGranted l = true) ∧
    ((s.tellLost r .fresh source value).trip.latch = true →
      (s.tellLost r .fresh source value).trip.record.reason = .sensorLost ∧
      (s.tellLost r .fresh source value).trip.record.source = source ∧
      (s.tellLost r .fresh source value).trip.record.value = BitVec.ofInt 32 value ∧
      (s.tellLost r .fresh source value).trip.lostRole = some r) := by
  have told : ∃ x : State, s.tellLost r .fresh source value = x.judgeLoss r source value ∧ x.link.mode = s.link.mode ∧
      x.trip.latch = s.trip.latch ∧ x.trip.lossOpen = s.trip.lossOpen ∧ x.lossCounts = s.lossCounts := by
    rcases hr with rfl | rfl
    · refine ⟨s.engineTempLost, rfl, ?_⟩
      unfold State.engineTempLost
      split
      · have acts := s.setThermostat_acts false
        have eng := (s.setThermostat_spec false).1
        have way : (s.setThermostat false).underWay = s.underWay := by unfold State.underWay; rw [eng]
        have grants : (s.setThermostat false).noGrant = s.noGrant := by
          unfold State.noGrant
          simp only [fun l => (acts.stands l).1]
        have lossOpen : (s.setThermostat false).trip.lossOpen = s.trip.lossOpen :=
          (congrArg (fun x : State => x.trip.lossOpen) acts.rest :)
        exact ⟨acts.mode, acts.latch, lossOpen, by unfold State.lossCounts; rw [acts.mode, way, grants]⟩
      · exact ⟨rfl, rfl, rfl, rfl⟩
    · exact ⟨s.markEval, rfl, rfl, rfl, rfl, rfl⟩
  obtain ⟨x, e, mode, latch, lossOpen, counts⟩ := told
  obtain ⟨sets, record⟩ := State.judgeLoss_spec (s := x) (by rw [mode]; exact h) (by rw [latch]; exact hl)
    (by rw [lossOpen]; exact ho) r source value
  rw [e, ← s.lossCounts_iff, ← counts]
  refine ⟨sets, fun g => ?_⟩
  obtain ⟨rec, lost⟩ := record g
  rw [rec]
  exact ⟨rfl, rfl, rfl, lost⟩

/-- The excess flow that the accounting reports (R98): the trip unit and the mode stand. -/
theorem State.flowHandoff_stray {s : State} {total v : Nat} {before : Freshness} (h : (s.flowHandoff total before).2 = .stray v) :
    (s.flowHandoff total before).1.link.mode = s.link.mode ∧
      (s.flowHandoff total before).1.trip.latch = s.trip.latch := by
  obtain ⟨x, hx⟩ : ∃ x : State, s.acts (fun _ => False) x ∧ ∃ n, s.flowHandoff total before =
      if x.inletTo .fill then (x.fillAccount n, .volume n)
      else if x.inletTo .regen then (x.regenAccount n, .nothing) else x.strayAccount n :=
    ⟨_, (((State.acts.refl _ s).useProfile .softener).units _ _ _ _ _), _, rfl⟩
  obtain ⟨acts, n, e⟩ := hx
  rw [e] at h ⊢
  split at h
  · cases h
  · split at h
    · cases h
    · rename_i noFill noRegen
      rw [if_neg noFill, if_neg noRegen]
      have accounts : x.acts (fun _ => False) (x.strayAccount n).1 := by
        have noted := (State.acts.refl (fun _ => False) x).units x.eng { x.soft with stray := min 65535 (x.soft.stray + n) }
          x.dosing x.door.dry x.door.settle
        unfold State.strayAccount
        dsimp only
        split
        · exact noted
        · split
          · exact noted.useProfile .machine
          · exact noted.useProfile .machine
      have both := acts.trans accounts
      exact ⟨both.mode, both.latch⟩

theorem State.flowHand_stray {s : State} (hm : s.link.mode ≠ .standby) {total v : Nat} {before : Freshness}
    (h : (s.flowHandoff total before).2 = .stray v) :
    (s.flowHand total before).trip.flowQuiet = some 0 ∧ (s.flowHand total before).trip.latch = true ∧
      (s.trip.latch = false →
        (s.flowHand total before).trip.record.reason = .inletFlow ∧
        (s.flowHand total before).trip.record.value = BitVec.ofInt 32 v) := by
  obtain ⟨mode, latch⟩ := State.flowHandoff_stray h
  have hand : s.flowHand total before =
      (s.flowHandoff total before).1.tripCause ((s.flowHandoff total before).1.inletFlowCause v) := by
    unfold State.flowHand
    dsimp only
    rw [h]
  rw [hand]
  generalize (s.flowHandoff total before).1 = x at mode latch
  rw [← mode] at hm
  rw [← latch]
  cases hl : x.trip.latch with
  | true =>
    rw [State.tripCause_again hm hl]
    exact ⟨rfl, hl, nofun⟩
  | false =>
    obtain ⟨trip, -⟩ := State.tripCause_sets hm hl (x.inletFlowCause v)
    rw [trip]
    exact ⟨rfl, rfl, fun _ => ⟨rfl, rfl⟩⟩

/-- The causes as the consumers of a hand-off judge them (R167 to R169). -/
theorem trip_causes (s : State) (hm : s.link.mode ≠ .standby) (hp : s.inEffect .machine) :
    s.judgeOvertemp =
      (if (s.machine.tripTemp : Int) ≤ s.roleValue .tubTemp then
        s.tripCause
          { reason := .overtemp, source := s.roleSource .tubTemp, value := s.roleValue .tubTemp, lost := none }
      else s) ∧
    s.judgeOverfill =
      (if (s.machine.overfill : Int) ≤ s.roleValue .tubLevel then
        s.tripCause { reason := .flood, source := s.roleSource .tubLevel, value := s.roleValue .tubLevel, lost := none }
      else s) ∧
    s.leakChange false = { s with trip.leakTold := false } ∧
    (∀ i, s.bound .leak = some i →
      s.leakChange true =
        State.tripCause { s with trip.leakTold := true }
          { reason := .flood, source := some i.val, value := s.chan.run[i].converted, lost := none }) := by
  refine ⟨?_, ?_, rfl, fun i hi => ?_⟩
  · unfold State.judgeOvertemp
    rw [if_neg hm, State.useProfile_of_inEffect hp]
    rfl
  · unfold State.judgeOverfill
    rw [if_neg hm, State.useProfile_of_inEffect hp]
    rfl
  · obtain ⟨t, ht⟩ : ∃ t : State, t = { s with trip.leakTold := true } := ⟨_, rfl⟩
    have bound : t.bound .leak = some i := by rw [ht]; exact hi
    have chan : t.chan = s.chan := by rw [ht]
    have cause : t.leakCause = { reason := .flood, source := some i.val, value := s.chan.run[i].converted, lost := none } := by
      unfold State.leakCause State.roleSource State.roleConverted
      rw [bound, chan]
      rfl
    have told : s.leakChange true = t.tripCause t.leakCause := by rw [ht]; rfl
    rw [told, cause, ht]

/-! #### TRIP_CLEAR -/

theorem exec_tripClear (s : State) (hr : s.ready) (hp : s.inEffect .machine) :
    (s.trip.latch = true → s.condition s.trip.record.reason = true →
      exec (.tripClear []) s =
        .next (s.respond 0x49 .causePresent [BitVec.ofNat 8 (reasonCode s.trip.record.reason)])) ∧
    (s.trip.latch = false →
      exec (.tripClear []) s =
        .next ({ s with trip.integrity := none, trip.more := false }.respond 0x49 .ok [])) ∧
    (s.trip.latch = true → s.condition s.trip.record.reason = false →
      ∃ u : State, exec (.tripClear []) s = .next (u.settle.respond 0x49 .ok []) ∧
        u.trip.latch = false ∧ u.trip.record = .empty ∧ u.trip.flowQuiet = none ∧ u.trip.tableMark = false ∧
        u.trip.lostRole = none ∧ u.eng.state = .idle ∧ u.eng.queue = [] ∧ u.arb.flood = false ∧
        u.soft.stray = 0 ∧ u.arb.evalDue = true ∧ u.chan = s.chan ∧ u.bus = s.bus ∧ u.dosing = s.dosing ∧
        u.door = s.door ∧ (s.inEffect .softener → u.trip.integrity = none ∧ u.trip.more = false)) := by
  have used : s.useForClear = s := by
    unfold State.useForClear
    rw [State.useProfile_of_inEffect hp, ite_self]
  have present : s.causePresent = (s.trip.latch && s.condition s.trip.record.reason) := by
    unfold State.causePresent
    rw [State.useProfile_of_inEffect hp]
  have refused (h : s.causePresent = true) : judgeTripClear [] s =
      refuseWith s .causePresent (u8 (reasonCode s.trip.record.reason)) := by
    unfold judgeTripClear
    rw [if_neg (by simp), used]
    exact if_pos h
  have accepted (h : s.causePresent = false) : judgeTripClear [] s = acceptBare s.tripClear := by
    unfold judgeTripClear
    rw [if_neg (by simp), used]
    exact if_neg (by simp [h])
  refine ⟨fun hl hc => ?_, fun hl => ?_, fun hl hc => ?_⟩
  · exact exec_of_refuseWith rfl hr (by simp) (refused (by simp [present, hl, hc]))
  · have clear : s.tripClear = { s with trip.integrity := none, trip.more := false } := by
      unfold State.tripClear
      exact if_neg (by simp [State.clearIntegrity, hl])
    have judged := accepted (by simp [present, hl])
    rw [clear] at judged
    exact exec_of_accept_settled rfl hr (by simp) judged hr.2
  · obtain ⟨x, hx⟩ : ∃ x : State, x = { s.clearIntegrity with
        trip.latch := false
        trip.record := .empty
        trip.flowQuiet := none
        trip.tableMark := false
        trip.lostRole := none
        eng.state := .idle
        eng.queue := []
        arb.flood := false
        soft.stray := 0 } := ⟨_, rfl⟩
    have clear : s.tripClear = x.autoCheck.markEval := by
      rw [hx]
      unfold State.tripClear
      exact if_pos hl
    have softens := (State.softens.refl x).autoCheck
    have kept := (State.fillKept.refl x).autoCheck.account
    simp only [Prod.mk.injEq] at kept
    obtain ⟨-, -, -, stray⟩ := kept
    have rest := softens.rest
    have judged := accepted (by simp [present, hc])
    refine ⟨s.tripClear, exec_of_accept rfl hr (by simp) judged, ?_⟩
    rw [clear]
    refine ⟨softens.latch.trans ?_, (congrArg (fun y : State => y.trip.record) rest :).trans ?_,
      (congrArg (fun y : State => y.trip.flowQuiet) rest :).trans ?_,
      (congrArg (fun y : State => y.trip.tableMark) rest :).trans ?_,
      (congrArg (fun y : State => y.trip.lostRole) rest :).trans ?_,
      (congrArg EngineUnit.state softens.eng).trans ?_, (congrArg EngineUnit.queue softens.eng).trans ?_,
      (congrArg (fun y : State => y.arb.flood) rest :).trans ?_, stray.trans ?_, rfl, softens.chan.trans ?_,
      softens.bus.trans ?_, softens.dosing.trans ?_, softens.door.trans ?_, fun sound => ?_⟩
    · rw [hx]
    · rw [hx]
    · rw [hx]
    · rw [hx]
    · rw [hx]
    · rw [hx]
    · rw [hx]
    · rw [hx]
    · rw [hx]
    · rw [hx]; rfl
    · rw [hx]; rfl
    · rw [hx]; rfl
    · rw [hx]; rfl
    · have effect : x.inEffect .softener := by rw [hx]; exact sound
      show x.autoCheck.trip.integrity = none ∧ x.autoCheck.trip.more = false
      rw [State.autoCheck_trip effect, hx]
      exact ⟨rfl, rfl⟩

/-- Settles O44, by the cases of TRIP_CLEAR, by what a cause that sets the latch leaves in every block, and by the judgement of
each cause. -/
theorem tripClearClearsLatch : Obligations.TripClearClearsLatch := by
  unfold Obligations.TripClearClearsLatch
  refine ⟨exec_tripClear, fun s c hm hl => ?_, fun s c hm hl => State.tripCause_again hm hl c,
    fun s c hm => State.tripCause_standby hm c, fun s hm hp => ?_⟩
  · obtain ⟨trip, eng, regen, holder, dose, flood, due, chan, bus, pump, column, ns, perm, link⟩ := State.tripCause_sets hm hl c
    refine ⟨by rw [trip], by rw [trip]; rfl, by rw [trip], by rw [trip], by rw [trip], by rw [eng], by rw [eng], by rw [eng],
      by rw [eng], regen, holder, dose, flood, due, chan, bus, by rw [eng], pump, column, fun _ => ⟨ns, ?_, link⟩⟩
    rw [← State.abortNotice_eq, ← State.shortNotice_eq]
    exact perm
  · obtain ⟨overtemp, overfill, noLeak, leak⟩ := trip_causes s hm hp
    refine ⟨overtemp, overfill, noLeak, leak, fun r source value hr hl ho => State.tellLost_spec hm hl ho hr source value,
      fun total before v h => State.flowHand_stray hm h, fun l hl hd hc => ?_⟩
    have trips : s.tableTrip l = s.tripCause (tableCause (loadIndex l).val) := by
      unfold State.tableTrip
      exact if_pos (by simp [hl, hd])
    obtain ⟨latch, record, -, mark⟩ := State.latch_of_tripCause hm hc (tableCause (loadIndex l).val)
    rw [trips, latch, record, mark]
    exact ⟨rfl, rfl, rfl, by simp [tableCause]⟩

end Sys2Proof.Machine
end

section
/-! ### The cycle clock, the strokes, the reports of the mains, and the reports of grants -/

namespace Sys2Proof.Machine

/-! #### The cycle clock and the strokes (R53, R119, R122) -/

/-- The stroke that ends with the dosing profile in effect. -/
theorem State.strokeDone_spec {s : State} {d : Dose} (hp : s.inEffect (dosingProfileId d.reservoir)) :
    ((s.strokeDone d).reservoir d.reservoir).estimate =
        (s.reservoir d.reservoir).estimate - (s.dosingProfile d.reservoir).strokeVolume ∧
      (∀ r, r ≠ d.reservoir → (s.strokeDone d).reservoir r = s.reservoir r) ∧
      (d.done + 1 < d.total → (s.strokeDone d).dosing.dose = some { d with done := d.done + 1, timer := 0 } ∧
        (s.strokeDone d).arb = s.arb ∧ (s.strokeDone d).link = s.link ∧ (s.strokeDone d).eng = s.eng) ∧
      (d.total ≤ d.done + 1 → (s.strokeDone d).dosing.dose = none ∧ ((s.strokeDone d).load (pumpOf d.reservoir)).own = none ∧
        (s.strokeDone d).eng.totals.doses = min 65535 (s.eng.totals.doses + 1) ∧
        (s.strokeDone d).link = s.link.post (s.notice .doseDone 5 d.tag (d.done + 1 : Nat))) ∧
      (s.strokeDone d).chan = s.chan ∧ (s.strokeDone d).bus = s.bus ∧ (s.strokeDone d).soft = s.soft ∧
      (s.strokeDone d).door = s.door := by
  obtain ⟨x, hx⟩ : ∃ x : State, x = s.setReservoir d.reservoir { s.reservoir d.reservoir with
      estimate := (s.reservoir d.reservoir).estimate - (s.dosingProfile d.reservoir).strokeVolume } := ⟨_, rfl⟩
  have done : s.strokeDone d = if d.done + 1 < d.total then { x with dosing.dose := some { d with done := d.done + 1, timer := 0 } }
      else x.doseDone d.reservoir d.tag (d.done + 1) := by
    unfold State.strokeDone
    rw [State.useProfile_of_inEffect hp, hx]
  have own : (x.reservoir d.reservoir).estimate =
      (s.reservoir d.reservoir).estimate - (s.dosingProfile d.reservoir).strokeVolume := by
    rw [hx, State.setReservoir_reservoir, if_pos rfl]
  have other : ∀ r, r ≠ d.reservoir → x.reservoir r = s.reservoir r := fun r hr => by
    rw [hx, State.setReservoir_reservoir, if_neg hr]
  have acts : s.acts ofDosing x := by rw [hx]; exact (State.acts.refl _ s).setReservoir _ _
  have rest : x.eng = s.eng ∧ x.soft = s.soft ∧ x.link = s.link ∧ x.arb = s.arb ∧ x.door = s.door := by
    rw [hx]
    cases d.reservoir <;> exact ⟨rfl, rfl, rfl, rfl, rfl⟩
  obtain ⟨eng, soft, link, arb, door⟩ := rest
  obtain ⟨dose, pump, linkD, engD, softD, doorD, -, reservoirD⟩ := x.doseDone_spec d.reservoir d.tag (d.done + 1)
  have ended := (State.doses.refl x).doseDone d.reservoir d.tag (d.done + 1)
  rw [done]
  split
  · rename_i more
    have kept : ∀ r, State.reservoir { x with dosing.dose := some { d with done := d.done + 1, timer := 0 } } r = x.reservoir r :=
      fun r => by cases r <;> rfl
    exact ⟨by rw [kept, own], fun r hr => by rw [kept, other r hr], fun _ => ⟨rfl, arb, link, eng⟩,
      fun le => absurd more (Nat.not_lt.mpr le), acts.chan, acts.bus, soft, door⟩
  · rename_i last
    refine ⟨by rw [reservoirD, own], fun r hr => by rw [reservoirD, other r hr], fun lt => absurd lt last,
      fun _ => ⟨dose, pump, by rw [engD, eng], ?_⟩, ended.acts.chan.trans acts.chan, ended.acts.bus.trans acts.bus,
      softD.trans soft, doorD.trans door⟩
    rw [linkD, link, State.notice_of_timeTag (s := s) (t := x) (by rw [link])]

/-- Settles O53, by whether the clock runs, and by whether a stroke runs and is the dose's last. -/
theorem clockAndStrokes : Obligations.ClockAndStrokes := by
  unfold Obligations.ClockAndStrokes
  intro s hs
  have settled : s.settle = s := State.settle_of_settled s hs
  refine ⟨fun way held => ?_, fun away => ?_, fun none => ?_, fun d hd stands => ?_, fun d hd runs hp => ?_⟩
  · have runs : s.clockRuns = true := by simp [State.clockRuns, way, held]
    exact congrArg Host.Outcome.next (if_pos runs)
  · have stands : s.clockRuns = false := by rcases away with e | e <;> simp [State.clockRuns, e]
    exact congrArg Host.Outcome.next (if_neg (by simp [stands]))
  · have same : s.strokeExpiry = s := by unfold State.strokeExpiry; rw [none]
    show Host.Outcome.next s.strokeExpiry.settle = _
    rw [same, settled]
  · have same : s.strokeExpiry = s := by
      unfold State.strokeExpiry
      rw [hd]
      exact if_neg (by simp [stands])
    show Host.Outcome.next s.strokeExpiry.settle = _
    rw [same, settled]
  · have done : s.strokeExpiry = s.strokeDone d := by
      unfold State.strokeExpiry
      rw [hd]
      exact if_pos runs
    exact ⟨s.strokeDone d, congrArg (fun x : State => Host.Outcome.next x.settle) done, State.strokeDone_spec hp⟩

/-! #### The loss of mains and its return (R108, R183, R184) -/

/-- A stage that is left touches no report of the mains and no hold set. -/
theorem State.phases.leaveRunning {s t : State} (h : s.phases t) : s.phases t.leaveRunning := by
  have begun : s.phases { t with eng.state := .suspended } := h.quiet rfl rfl
  have freed : s.phases (if t.runningIn .fill then State.fillGiveBack { t with eng.state := .suspended }
      else { t with eng.state := .suspended }) := by
    split
    · exact begun.softens (.routes (.fillGiveBack _))
    · exact begun
  unfold State.leaveRunning
  dsimp only
  generalize (if t.runningIn .fill then State.fillGiveBack { t with eng.state := .suspended }
      else { t with eng.state := .suspended }) = x at freed
  have stopped : s.phases x.releaseEngine.stopDry :=
    ((((freed.release .heater).release .circPump).release .drainPump).release .fan |>.release .doorActuator).withDry _
  exact stopped.doses (State.doses.refl _).pauseDose

/-- MAINS joins the suspension set of a cycle under way (R183). -/
theorem State.addMains_spec (s : State) :
    (s.underWay = true → (s.addReason .mains).eng.state = .suspended ∧
      (s.addReason .mains).eng.susp = { s.eng.susp with mains := true }) ∧
    (s.underWay = false → (s.addReason .mains).eng = s.eng ∧ (s.addReason .mains).soft = s.soft) ∧
    (s.addReason .mains).eng.queue = s.eng.queue ∧ (s.addReason .mains).soft.hold = s.soft.hold ∧
    (s.addReason .mains).chan = s.chan ∧ (s.addReason .mains).link = s.link ∧
    (s.addReason .mains).arb.mainsReports = s.arb.mainsReports := by
  by_cases way : s.underWay = true
  · have states : s.eng.state = .running ∨ s.eng.state = .suspended := by simpa [State.underWay] using way
    rcases states with e | e
    · rw [State.addReason_running e]
      obtain ⟨t, ht⟩ : ∃ t : State, t = { s with eng.susp := s.eng.susp.put .mains true } := ⟨_, rfl⟩
      have kept := (State.phases.refl t).leaveRunning
      obtain ⟨eng, link, chan, -⟩ := t.leaveRunning_spec
      have engT : t.eng = { s.eng with susp := { s.eng.susp with mains := true } } := by rw [ht]; rfl
      have rest : t.link = s.link ∧ t.chan = s.chan ∧ t.soft = s.soft ∧ t.arb = s.arb := by
        rw [ht]; exact ⟨rfl, rfl, rfl, rfl⟩
      obtain ⟨linkT, chanT, softT, arbT⟩ := rest
      rw [← ht, eng, link, chan, kept.hold, kept.mains, engT, linkT, chanT, softT, arbT]
      exact ⟨fun _ => ⟨rfl, rfl⟩, fun away => absurd (way.symm.trans away) nofun, rfl, rfl, rfl, rfl, rfl⟩
    · rw [State.addReason_suspended e]
      exact ⟨fun _ => ⟨e, rfl⟩, fun away => absurd (way.symm.trans away) nofun, rfl, rfl, rfl, rfl, rfl⟩
  · rw [State.addReason_away (Bool.eq_false_of_not_eq_true way)]
    exact ⟨fun e => absurd e way, fun _ => ⟨rfl, rfl⟩, rfl, rfl, rfl, rfl, rfl⟩

/-- The hold set becomes non-empty (R108). -/
theorem State.setHold_held {s : State} {x : HoldSet} (hx : x.isEmpty = false) :
    (s.soft.hold.isEmpty = true → (s.setHold x).soft.holder ≠ .regen ∧ (s.setHold x).soft.waiting = false) ∧
      (s.setHold x).link = s.link ∧ ∀ c, (s.setHold x).column c = s.column c := by
  obtain ⟨t, ht⟩ : ∃ t : State, t = { s with soft.hold := x } := ⟨_, rfl⟩
  have link : t.link = s.link := by rw [ht]
  have column : ∀ c, t.column c = s.column c := fun c => by rw [ht]; cases c <;> rfl
  unfold State.setHold
  dsimp only
  rw [← ht, hx]
  cases he : s.soft.hold.isEmpty with
  | false => exact ⟨nofun, link, column⟩
  | true =>
    obtain ⟨-, linkG, -, -, -, -, -, holder, waiting, columns, -⟩ := t.regenGiveBack_spec
    exact ⟨fun _ => ⟨holder, waiting⟩, linkG.trans link, fun c => (columns c).trans (column c)⟩

/-- The last reason leaves the hold set: a regeneration in need of water requests the path (R108). -/
theorem State.setHold_freed {s : State} {x : HoldSet} (hs : s.soft.hold.isEmpty = false) (hx : x.isEmpty = true) {r : Regen}
    (hr : s.soft.regen = some r) (water : r.stage ≠ .soak) (free : s.soft.holder = .none) :
    (s.setHold x).soft.holder = .regen := by
  obtain ⟨t, ht⟩ : ∃ t : State, t = { s with soft.hold := x } := ⟨_, rfl⟩
  have regen : t.soft.regen = some r := by rw [ht]; exact hr
  have holder : t.soft.holder = .none := by rw [ht]; exact free
  have stays : (t.regenRequestPath).autoCheck = t.regenRequestPath := by
    have begun : t.regenRequestPath.soft.regen ≠ none := by
      obtain ⟨f, hf⟩ := (State.routes.regenRequestPath t).regen_eq_some regen
      rw [hf]
      nofun
    unfold State.autoCheck
    split
    · rfl
    · rw [if_neg (by
        cases e : t.regenRequestPath.soft.regen with
        | none => exact absurd e begun
        | some g => simp)]
  have e : s.setHold x = t.regenRequestPath.autoCheck := by
    unfold State.setHold
    dsimp only
    rw [← ht, hs, hx, hr]
    simp [Regen.needsWater, water]
  rw [e, stays]
  exact t.regenRequestPath_holder.1 holder

/-- Settles O60, by the four reports of the mains: a reason that joins or leaves the suspension set and the hold set. -/
theorem mainsReportsReachBlocks : Obligations.MainsReportsReachBlocks := by
  unfold Obligations.MainsReportsReachBlocks
  intro s
  refine ⟨⟨_, rfl, ?_⟩, ⟨_, rfl, ?_⟩, ⟨_, rfl, ?_⟩, ⟨_, rfl, ?_⟩⟩
  · obtain ⟨joins, away, queue, hold, chan, link, mains⟩ := State.addMains_spec
      { s with arb.mainsReports := { s.arb.mainsReports with lossEngine := false } }
    exact ⟨by rw [mains], joins, away, queue, hold, chan, link⟩
  · obtain ⟨t, ht⟩ : ∃ t : State, t = { s with arb.mainsReports := { s.arb.mainsReports with lossSoftener := false } } := ⟨_, rfl⟩
    have soft : t.soft = s.soft := by rw [ht]
    have column : ∀ c, t.column c = s.column c := fun c => by rw [ht]; cases c <;> rfl
    have mains : t.arb.mainsReports.lossSoftener = false := by rw [ht]
    have rest : t.eng = s.eng ∧ t.chan = s.chan ∧ t.link = s.link := by rw [ht]; exact ⟨rfl, rfl, rfl⟩
    obtain ⟨eng, chan, link⟩ := rest
    rw [← ht, ← soft, ← eng, ← chan, ← link]
    simp only [← column]
    obtain ⟨softens, -⟩ := t.setHold_spec { t.soft.hold with mains := true }
    obtain ⟨off, linkS, columns⟩ := State.setHold_held (s := t) (x := { t.soft.hold with mains := true })
      (by simp [HoldSet.isEmpty])
    exact ⟨(congrArg MainsReports.lossSoftener (State.acts.softens softens).mainsReports).trans mains, softens.holdSet, off,
      columns, softens.eng, softens.chan, linkS⟩
  · obtain ⟨t, ht⟩ : ∃ t : State, t = { s with
        arb.mainsReports.backEngine := false, eng.susp := { s.eng.susp with mains := false } } := ⟨_, rfl⟩
    have acts : State.removeReason { s with arb.mainsReports := { s.arb.mainsReports with backEngine := false } } .mains =
        t.returnIfFree := by rw [ht]; rfl
    have kept := (State.phases.refl t).returnIfFree
    have rest : t.arb.mainsReports.backEngine = false ∧ t.eng = { s.eng with susp := { s.eng.susp with mains := false } } ∧
        t.soft = s.soft ∧ t.bus = s.bus := by rw [ht]; exact ⟨rfl, rfl, rfl, rfl⟩
    obtain ⟨back, eng, soft, bus⟩ := rest
    rw [acts]
    refine ⟨by rw [kept.mains, back], by rw [ht], fun held => ?_, Bool.eq_false_of_not_eq_true fun e => ?_,
      kept.hold.trans (by rw [soft]), kept.bus.trans bus⟩
    · rw [State.returnIfFree_of_held (.inr (by rw [eng]; exact held)), eng]
    · have joined := kept.susp.mains e
      rw [eng] at joined
      exact nomatch joined
  · obtain ⟨t, ht⟩ : ∃ t : State, t = { s with arb.mainsReports := { s.arb.mainsReports with backSoftener := false } } := ⟨_, rfl⟩
    have soft : t.soft = s.soft := by rw [ht]
    have rest : t.arb.mainsReports.backSoftener = false ∧ t.eng = s.eng ∧ t.chan = s.chan := by rw [ht]; exact ⟨rfl, rfl, rfl⟩
    obtain ⟨mains, eng, chan⟩ := rest
    rw [← ht, ← soft, ← eng, ← chan]
    obtain ⟨softens, -⟩ := t.setHold_spec { t.soft.hold with mains := false }
    exact ⟨(congrArg MainsReports.backSoftener (State.acts.softens softens).mainsReports).trans mains, softens.holdSet,
      fun r hold hr water free => State.setHold_freed (by rw [hold]; rfl) (by rw [hold]; rfl) hr water free, softens.eng,
      softens.chan⟩

end Sys2Proof.Machine
end

section
/-! ### The reports of the arbiter (R95, R118 to R120, R139 to R141, R149) -/

namespace Sys2Proof.Machine

/-- What an owner's answer leaves alone. -/
structure State.answers (s t : State) : Prop where
  acts : s.acts (fun _ => True) t
  queue : t.eng.queue = s.eng.queue
  state : t.eng.state = s.eng.state

namespace State.answers

variable {s t : State}

theorem of_eng (h : s.acts (fun _ => True) t) (e : t.eng = s.eng) : s.answers t := ⟨h, by rw [e], by rw [e]⟩

theorem refl (s : State) : s.answers s := of_eng (.refl _ s) rfl

theorem softenerReport (s : State) (l : LoadId) : s.answers (s.softenerReport l) := by
  have same := State.acts.refl (fun _ => True) s
  have soft : ∀ x : SoftenerUnit, s.acts (fun _ => True) { s with soft := x } := fun x =>
    same.units s.eng x s.dosing s.door.dry s.door.settle
  unfold State.softenerReport
  split
  · split
    · exact of_eng (soft _) rfl
    · exact refl s
  · split
    · split
      · split
        · exact of_eng (same.request trivial 0) rfl
        · exact of_eng (same.release trivial) (by simp)
      · exact refl s
    · exact refl s
  · split
    · exact of_eng (soft _).markEval rfl
    · split
      · exact refl s
      · dsimp only
        split
        · exact of_eng (soft _) rfl
        · exact of_eng (soft _).markEval rfl
  · exact refl s

theorem engineInlet (s : State) : s.answers s.engineInlet := by
  unfold State.engineInlet
  split
  · exact ⟨(State.acts.refl _ s).withHead _, rfl, rfl⟩
  · exact refl s

theorem trans {u : State} (h : s.answers t) (g : t.answers u) : s.answers u :=
  ⟨h.acts.trans g.acts, g.queue.trans h.queue, g.state.trans h.state⟩

theorem dosingReport (s : State) (r : Reservoir) : s.answers (s.dosingReport r) := by
  have doses := (State.doses.refl s).dosingReport r
  exact ⟨doses.acts.mono fun _ _ => trivial, doses.queue, doses.engineState⟩

theorem actuatorReport (s : State) : s.answers s.actuatorReport := by
  have dry : ∀ g, s.answers (s.withDry g) := fun g => of_eng ((State.acts.refl _ s).withDry g) rfl
  unfold State.actuatorReport
  split
  · split
    · split
      · exact dry _
      · exact refl s
    · split
      · exact dry _
      · exact refl s
  · exact refl s

theorem ownerReport (s : State) (l : LoadId) : s.answers (s.ownerReport l) := by
  cases l with
  | inletValve => exact (softenerReport s .inletValve).trans (engineInlet _)
  | routeValve => exact softenerReport s .routeValve
  | selectorValve => exact softenerReport s .selectorValve
  | brineValve => exact softenerReport s .brineValve
  | doseDet => exact dosingReport s .det
  | doseRinse => exact dosingReport s .rinse
  | doorActuator => exact actuatorReport s
  | heater => exact refl s
  | circPump => exact refl s
  | drainPump => exact refl s
  | fan => exact refl s

end State.answers

/-! #### Each owner's answer -/

theorem State.doseEmpty_spec (s : State) (r : Reservoir) (tag : Nat) :
    (s.doseEmpty r tag).dosing.dose = none ∧ ((s.doseEmpty r tag).load (pumpOf r)).own = none ∧
      (s.doseEmpty r tag).link = s.link.post (s.notice .doseEmpty 2 tag (reservoirCode r)) := by
  have own : ((s.release (pumpOf r)).load (pumpOf r)).own = none := by rw [State.release_own, if_pos rfl]
  have link : (s.release (pumpOf r)).link = s.link := by simp
  unfold State.doseEmpty
  generalize s.release (pumpOf r) = x at own link
  refine ⟨rfl, own, ?_⟩
  show x.link.post (x.notice .doseEmpty 2 tag (reservoirCode r)) = _
  rw [State.notice_of_timeTag (s := s) (t := x) (by rw [link]), link]

/-- A dose that waits for a report takes it (R118, R120). -/
theorem State.dosingReport_spec {s : State} {d : Dose} (hd : s.dosing.dose = some d) (hp : d.state ≠ .paused) :
    (s.granted (pumpOf d.reservoir) = false →
      (s.dosingReport d.reservoir).dosing.dose = some { d with state := .requested, timer := 0 }) ∧
    (s.granted (pumpOf d.reservoir) = true → (0 < d.done ∨ s.reservoirEmpty d.reservoir = false) →
      (s.dosingReport d.reservoir).dosing.dose = some { d with state := .stroking, timer := 0 } ∧
        (s.dosingReport d.reservoir).link = s.link) ∧
    (s.granted (pumpOf d.reservoir) = true → d.done = 0 → s.reservoirEmpty d.reservoir = true →
      (s.dosingReport d.reservoir).dosing.dose = none ∧
        ((s.dosingReport d.reservoir).load (pumpOf d.reservoir)).own = none ∧
        (s.dosingReport d.reservoir).link = s.link.post (s.notice .doseEmpty 2 d.tag (reservoirCode d.reservoir))) := by
  have report : s.dosingReport d.reservoir =
      if s.granted (pumpOf d.reservoir) then s.startStroke d else { s with dosing.dose := some d.void } := by
    unfold State.dosingReport
    rw [hd]
    exact if_pos ⟨rfl, hp⟩
  rw [report]
  refine ⟨fun g => ?_, fun g more => ?_, fun g first empty => ?_⟩
  · rw [if_neg (by simp [g])]
    rfl
  · have strokes : s.startStroke d = { s with dosing.dose := some { d with state := .stroking, timer := 0 } } := by
      unfold State.startStroke
      refine if_neg ?_
      rcases more with e | e
      · simp [Nat.pos_iff_ne_zero.mp e]
      · simp [e]
    rw [if_pos g, strokes]
    exact ⟨rfl, rfl⟩
  · have ends : s.startStroke d = s.doseEmpty d.reservoir d.tag := by
      unfold State.startStroke
      exact if_pos (by simp [first, empty])
    rw [if_pos g, ends]
    exact s.doseEmpty_spec d.reservoir d.tag

/-- The softener takes the report of INLET_VALVE, and the fill restarts its stall timer (R61, R95). -/
theorem State.inletReport_spec (s : State) :
    (s.ownerReport .inletValve).soft =
        (if s.granted .inletValve = true ∧ s.soft.holder ≠ .none then { s.soft with stray := 0 } else s.soft) ∧
      (s.ownerReport .inletValve).eng = (if s.granted .inletValve = true ∧ s.soft.holder = .fill then
        { s.eng with head := s.eng.head.map (fun h => { h with stallTimer := 0 }) } else s.eng) ∧
      (s.ownerReport .inletValve).link = s.link := by
  obtain ⟨x, hx⟩ : ∃ x : State, x = s.softenerReport .inletValve := ⟨_, rfl⟩
  have report : x = if s.granted .inletValve = true ∧ s.soft.holder ≠ .none then { s with soft.stray := 0 } else s := by
    rw [hx]
    unfold State.softenerReport
    simp only [Bool.and_eq_true, decide_eq_true_eq]
  have holder : x.soft.holder = s.soft.holder := by rw [report]; split <;> rfl
  have granted : x.granted .inletValve = s.granted .inletValve := by rw [report]; split <;> rfl
  have soft : x.soft = if s.granted .inletValve = true ∧ s.soft.holder ≠ .none then { s.soft with stray := 0 } else s.soft := by
    rw [report]; split <;> rfl
  have rest : x.eng = s.eng ∧ x.link = s.link := by rw [report]; split <;> exact ⟨rfl, rfl⟩
  obtain ⟨eng, link⟩ := rest
  have owner : s.ownerReport .inletValve = x.engineInlet := by rw [hx]; rfl
  have filling : x.inletTo .fill = true ↔ s.granted .inletValve = true ∧ s.soft.holder = .fill := by
    unfold State.inletTo
    rw [holder, granted, Bool.and_eq_true, decide_eq_true_eq, and_comm]
  rw [owner, ← soft, ← eng, ← link]
  unfold State.engineInlet
  by_cases e : x.inletTo .fill = true
  · rw [if_pos e, if_pos (filling.mp e)]
    exact ⟨rfl, rfl, rfl⟩
  · rw [if_neg e, if_neg (fun g => e (filling.mpr g))]
    exact ⟨rfl, rfl, rfl⟩

/-- ROUTE_VALVE's report: a pulse starts in full, and a withdrawal or a host's force leaves the route UNSET (R89, R95). -/
theorem State.routeReport_spec (s : State) :
    (∀ p, s.soft.pulse = some p → (s.load .routeValve).forced = none →
      (s.ownerReport .routeValve).soft.pulse = some { p with timer := 0 } ∧
        (s.granted .routeValve = false → (s.ownerReport .routeValve).soft.route = .unset)) ∧
    (s.granted .routeValve = true → (s.load .routeValve).forced ≠ none → (s.ownerReport .routeValve).soft.route = .unset) := by
  have owner : s.ownerReport .routeValve = s.softenerReport .routeValve := rfl
  rw [owner]
  unfold State.softenerReport
  dsimp only
  refine ⟨fun p hp own => ?_, fun granted forced => ?_⟩
  · rw [if_neg (by simp [own]), hp]
    dsimp only
    split
    · rename_i granted
      have granted : s.granted .routeValve = true := granted
      exact ⟨rfl, fun e => absurd (granted.symm.trans e) nofun⟩
    · exact ⟨rfl, fun _ => rfl⟩
  · rw [if_pos (by simp [granted, Option.isSome_iff_ne_none.mpr forced])]
    rfl

/-- INLET_VALVE follows BRINE_VALVE in REGEN_BRINE (R95). -/
theorem State.brineReport_spec {s : State} {g : Regen} (hh : s.soft.holder = .regen) (hr : s.soft.regen = some g)
    (hs : g.stage = .brine) :
    ((s.ownerReport .brineValve).load .inletValve).own = (if s.granted .brineValve = true then some 0 else none) ∧
      (s.ownerReport .brineValve).soft = s.soft ∧ (s.ownerReport .brineValve).link = s.link := by
  have report : s.ownerReport .brineValve =
      if s.granted .brineValve then s.request .inletValve 0 else s.release .inletValve := by
    show s.softenerReport .brineValve = _
    unfold State.softenerReport
    rw [hr]
    exact if_pos (by simp [hh, hs])
  rw [report]
  cases s.granted .brineValve with
  | true => exact ⟨by rw [if_pos rfl, State.request_own, if_pos rfl, if_pos rfl], rfl, rfl⟩
  | false =>
    rw [if_neg nofun, if_neg nofun]
    exact ⟨by rw [State.release_own, if_pos rfl], by simp, by simp⟩

/-- The door unit takes the actuator's report: a grant starts the window, a withdrawal voids the attempt (R139, R141). -/
theorem State.actuatorReport_spec {s : State} {x : DryRecord} (hs : s.runningIn .opening = true) (hx : s.door.dry = some x) :
    (s.granted .doorActuator = true → (x.attState = .requested ∨ x.attState = .pushing) →
      s.actuatorReport.door = { s.door with dry := some { x with attState := .pushing, window := 0 } }) ∧
    (s.granted .doorActuator = false → x.attState = .pushing →
      s.actuatorReport.door = { s.door with dry := some { x with attState := .requested, window := 0 } }) ∧
    (x.attState = .resting → s.actuatorReport.door = s.door) ∧ s.actuatorReport.eng = s.eng ∧
    s.actuatorReport.link = s.link := by
  have attempt : s.attemptState = x.attState := by unfold State.attemptState; rw [hx]; rfl
  have dry : ∀ g : DryRecord → DryRecord, (s.withDry g).door = { s.door with dry := some (g x) } := fun g => by
    unfold State.withDry
    rw [hx]
    rfl
  have moved : ∀ t : State, t = s.actuatorReport → t.eng = s.eng ∧ t.link = s.link := by
    rintro t rfl
    unfold State.actuatorReport
    rw [if_pos hs]
    split
    · split <;> exact ⟨rfl, rfl⟩
    · split <;> exact ⟨rfl, rfl⟩
  obtain ⟨eng, link⟩ := moved _ rfl
  refine ⟨fun granted waits => ?_, fun void pushing => ?_, fun rests => ?_, eng, link⟩
  · unfold State.actuatorReport
    rw [if_pos hs, if_pos granted, attempt, if_pos waits, dry]
  · unfold State.actuatorReport
    rw [if_pos hs, if_neg (by simp [void]), attempt, if_pos pushing, dry]
  · unfold State.actuatorReport
    rw [if_pos hs, attempt, rests]
    split <;> rfl

/-- Settles O58, by the owner of each load and its answer to the report. -/
theorem grantReportReachesOwner : Obligations.GrantReportReachesOwner := by
  unfold Obligations.GrantReportReachesOwner
  intro s l hs
  refine ⟨fun none => ?_, fun waits => ?_⟩
  · have same : s.takeReport l = s := if_neg (by rw [none]; nofun)
    show Host.Outcome.next (s.takeReport l).settle = _
    rw [same, State.settle_of_settled s hs]
  · obtain ⟨t, ht⟩ : ∃ t : State, t = { s with arb.reports := s.arb.reports.erase l } := ⟨_, rfl⟩
    have taken : s.takeReport l = t.ownerReport l := by rw [ht]; exact if_pos waits
    have rest : t.soft = s.soft ∧ t.eng = s.eng ∧ t.link = s.link ∧ t.dosing = s.dosing ∧ t.door = s.door ∧
        t.chan = s.chan ∧ t.bus = s.bus := by rw [ht]; exact ⟨rfl, rfl, rfl, rfl, rfl, rfl, rfl⟩
    obtain ⟨soft, eng, link, dosing, door, chan, bus⟩ := rest
    have granted : ∀ k, t.granted k = s.granted k := fun k => by rw [ht]; rfl
    have load : ∀ k, t.load k = s.load k := fun k => by rw [ht]; rfl
    have empty : ∀ r, t.reservoirEmpty r = s.reservoirEmpty r := fun r => by rw [ht]; cases r <;> rfl
    have opening : t.runningIn .opening = s.runningIn .opening := by rw [ht]; rfl
    have notice : ∀ k n m v, t.notice k n m v = s.notice k n m v := fun k n m v => by rw [ht]; rfl
    have reports : t.arb.reports = s.arb.reports.erase l := by rw [ht]
    have answers := State.answers.ownerReport t l
    refine ⟨t.ownerReport l, congrArg (fun x : State => Host.Outcome.next x.settle) taken, ?_⟩
    rw [← ht, ← soft, ← eng, ← link, ← dosing, ← door, ← chan, ← bus, ← opening, ← reports]
    simp only [← granted, ← load, ← empty, ← notice]
    refine ⟨answers.acts.reports, trivial, fun k => (answers.acts.stands k).1, ?_, ?_, ?_, ?_, ?_, ?_, ?_, answers.acts.chan,
      answers.acts.bus, answers.queue, answers.state⟩
    · rintro d r rfl hd rfl hp
      have owner : t.ownerReport (pumpOf d.reservoir) = t.dosingReport d.reservoir := by cases d.reservoir <;> rfl
      rw [owner]
      exact State.dosingReport_spec hd hp
    · rintro p rfl
      exact t.routeReport_spec.1 p
    · rintro rfl
      exact t.routeReport_spec.2
    · rintro rfl
      exact t.inletReport_spec
    · rintro g rfl hh hr hst
      exact State.brineReport_spec hh hr hst
    · rintro x rfl hr hx
      exact State.actuatorReport_spec hr hx
    · rintro (rfl | rfl | rfl | rfl | rfl) <;> rfl

end Sys2Proof.Machine
end

section
/-! ### The zero-cross watch and the output pins (R162 to R164) -/

namespace Sys2Proof.Machine

/-! #### An accepted crossing -/

/-- The watch after an accepted crossing outside PRESENT whose run is `n`. -/
def State.crossed (s : State) (n : Nat) : State :=
  { s with arb.zc := { s.arb.zc with last := some s.now, run := n, phase := !s.arb.zc.phase } }

theorem State.acceptCrossing_present {s : State} (h : s.arb.zc.presence = .present) (g : Option Nat) :
    s.acceptCrossing g = { s with
      arb.zc := { s.arb.zc with last := some s.now, misses := 0, phase := !s.arb.zc.phase } } := by
  unfold State.acceptCrossing
  dsimp only
  rw [h]

/-- The run that an accepted crossing leaves outside PRESENT (R162). -/
def State.crossingRun (s : State) : Option Nat → Nat
  | some g => if g ≤ 120 then s.arb.zc.run + g else 0
  | none => 0

theorem State.acceptCrossing_away {s : State} (h : s.arb.zc.presence ≠ .present) (g : Option Nat) :
    s.acceptCrossing g =
      if 20000 ≤ s.crossingRun g then (s.crossed (s.crossingRun g)).mainsPresent else s.crossed (s.crossingRun g) := by
  unfold State.acceptCrossing
  dsimp only
  split
  · rename_i e
    exact absurd e h
  · cases g <;> rfl

theorem State.mainsPresent_spec (s : State) :
    s.mainsPresent.arb.zc = { s.arb.zc with presence := .present, misses := 0, run := 0 } ∧
      s.mainsPresent.arb.evalDue = true ∧
      (s.arb.zc.presence = .absent →
        s.mainsPresent.arb.mainsReports.backEngine = true ∧ s.mainsPresent.arb.mainsReports.backSoftener = true ∧
          s.mainsPresent.link = s.link.post (s.notice .mainsBack 4 0 s.outage)) ∧
      (s.arb.zc.presence = .unknown →
        s.mainsPresent.link = s.link ∧ s.mainsPresent.arb.mainsReports = s.arb.mainsReports) := by
  unfold State.mainsPresent
  cases e : s.arb.zc.presence with
  | absent => exact ⟨rfl, rfl, fun _ => ⟨rfl, rfl, rfl⟩, nofun⟩
  | unknown => exact ⟨rfl, rfl, nofun, fun _ => ⟨rfl, rfl⟩⟩
  | present => exact ⟨rfl, rfl, nofun, nofun⟩

/-! #### ZERO_CROSS_PULSE -/

section
variable {s : State}

theorem State.zeroCross_after {last : Nat} (hl : s.arb.zc.last = some last) :
    s.zeroCross = if s.now - last < 70 then s else s.acceptCrossing (some (s.now - last)) := by
  unfold State.zeroCross
  rw [hl]
  rfl

theorem State.zeroCross_first (hl : s.arb.zc.last = none) : s.zeroCross = s.acceptCrossing none := by
  unfold State.zeroCross
  rw [hl]

theorem exec_zeroCross_settled {t : State} (e : s.zeroCross = t) (ht : t.settled) : exec .zeroCrossPulse s = .next t := by
  show Host.Outcome.next s.zeroCross.settle = _
  rw [e, State.settle_of_settled t ht]

variable (hs : s.settled)
include hs

/-- A pulse that is not noise (R162). -/
theorem exec_zeroCross_accepted {last : Nat} (hl : s.arb.zc.last = some last) (gap : 70 ≤ s.now - last) :
    (s.arb.zc.presence = .present →
      exec .zeroCrossPulse s =
        .next { s with arb.zc := { s.arb.zc with last := some s.now, misses := 0, phase := !s.arb.zc.phase } }) ∧
    (s.arb.zc.presence ≠ .present → s.now - last ≤ 120 → s.arb.zc.run + (s.now - last) < 20000 →
      exec .zeroCrossPulse s =
        .next { s with
          arb.zc := { s.arb.zc with
            last := some s.now, run := s.arb.zc.run + (s.now - last), phase := !s.arb.zc.phase } }) ∧
    (s.arb.zc.presence ≠ .present → 120 < s.now - last →
      exec .zeroCrossPulse s =
        .next { s with arb.zc := { s.arb.zc with last := some s.now, run := 0, phase := !s.arb.zc.phase } }) ∧
    (s.arb.zc.presence ≠ .present → s.now - last ≤ 120 → 20000 ≤ s.arb.zc.run + (s.now - last) →
      ∃ u : State, exec .zeroCrossPulse s = .next u.settle ∧ u.arb.zc.presence = .present ∧
        u.arb.zc.misses = 0 ∧ u.arb.zc.last = some s.now ∧ u.arb.zc.phase = !s.arb.zc.phase ∧ u.arb.evalDue = true ∧
        (s.arb.zc.presence = .absent →
          u.arb.mainsReports.backEngine = true ∧ u.arb.mainsReports.backSoftener = true ∧
          u.link = s.link.post (s.notice .mainsBack 4 0 s.outage)) ∧
        (s.arb.zc.presence = .unknown → u.link = s.link ∧ u.arb.mainsReports = s.arb.mainsReports)) := by
  have pulse : s.zeroCross = s.acceptCrossing (some (s.now - last)) := by
    rw [State.zeroCross_after hl, if_neg (Nat.not_lt.mpr gap)]
  have run : s.now - last ≤ 120 → s.crossingRun (some (s.now - last)) = s.arb.zc.run + (s.now - last) :=
    fun near => if_pos near
  refine ⟨fun present => ?_, fun away near short => ?_, fun away far => ?_, fun away near long => ?_⟩
  · exact exec_zeroCross_settled (pulse.trans (State.acceptCrossing_present present _)) hs
  · refine exec_zeroCross_settled (pulse.trans ?_) hs
    rw [State.acceptCrossing_away away, run near, if_neg (Nat.not_le.mpr short)]
    rfl
  · have none : s.crossingRun (some (s.now - last)) = 0 := if_neg (Nat.not_le.mpr far)
    refine exec_zeroCross_settled (pulse.trans ?_) hs
    rw [State.acceptCrossing_away away, none, if_neg (by decide)]
    rfl
  · obtain ⟨zc, due, back, first⟩ := (s.crossed (s.arb.zc.run + (s.now - last))).mainsPresent_spec
    refine ⟨(s.crossed (s.arb.zc.run + (s.now - last))).mainsPresent, ?_, by rw [zc], by rw [zc], by rw [zc]; rfl,
      by rw [zc]; rfl, due, back, first⟩
    show Host.Outcome.next s.zeroCross.settle = _
    rw [pulse, State.acceptCrossing_away away, run near, if_pos long]

theorem exec_zeroCross_first (hl : s.arb.zc.last = none) :
    exec .zeroCrossPulse s =
      .next { s with
        arb.zc :=
          if s.arb.zc.presence = .present then
            { s.arb.zc with last := some s.now, misses := 0, phase := !s.arb.zc.phase }
          else { s.arb.zc with last := some s.now, run := 0, phase := !s.arb.zc.phase } } := by
  refine exec_zeroCross_settled ((State.zeroCross_first hl).trans ?_) hs
  by_cases present : s.arb.zc.presence = .present
  · rw [State.acceptCrossing_present present, if_pos present]
  · have run : s.crossingRun none = 0 := rfl
    rw [State.acceptCrossing_away present, run, if_neg (by decide), if_neg present]
    rfl

end

/-! #### ZERO_CROSS_MISSED (R162, R163) -/

theorem State.dropGrants_load (s : State) (l : LoadId) :
    (allLoads.foldl (fun x k => x.setGrant k none) s).load l = { s.load l with grant := none } := by
  rw [State.foldl_load (g := fun _ x => { x with grant := none }) (fun t k j => by
    unfold State.setGrant
    rw [State.setLoad_load]) allLoads allLoads_nodup, if_pos (mem_allLoads l)]

/-- The loss of mains: every grant falls, and the reports wait (R163). -/
theorem State.mainsLost_spec (s : State) :
    s.mainsLost.arb.zc.presence = .absent ∧ (∀ l, (s.mainsLost.load l).grant = none) ∧
      s.mainsLost.arb.mainsReports.lossEngine = true ∧ s.mainsLost.arb.mainsReports.lossSoftener = true ∧
      s.mainsLost.arb.mainsReports.lossSnapshot = true ∧
      s.mainsLost.link = s.link.post (s.notice .mainsLost 1 0 s.totalWatts) ∧
      (∀ l, s.isGranted l = true → s.mainsLost.arb.reports.contains l = true) ∧
      s.mainsLost.eng = s.eng ∧ s.mainsLost.soft = s.soft ∧ s.mainsLost.dosing = s.dosing ∧ s.mainsLost.door = s.door ∧
      s.mainsLost.chan = s.chan := by
  have beside : s.besideLoads (allLoads.foldl (fun x l => x.setGrant l none) s) :=
    State.foldl_besideLoads (f := fun x l => x.setGrant l none) (fun _ _ => rfl) _ _
  have loads := s.dropGrants_load
  obtain ⟨x, hx⟩ : ∃ x : State, x = allLoads.foldl (fun x l => x.setGrant l none) s := ⟨_, rfl⟩
  rw [← hx] at beside
  have lost : s.mainsLost = State.markEval (State.post
      { x with
        arb.zc := { x.arb.zc with presence := .absent, run := 0, lostAt := some x.now }
        arb.reports := x.arb.reports ++ (allLoads.filter s.isGranted).filter (fun l => !x.arb.reports.contains l)
        arb.mainsReports :=
          { x.arb.mainsReports with lossEngine := true, lossSoftener := true, lossSnapshot := true } }
      .mainsLost 1 0 s.totalWatts) := by rw [hx]; rfl
  have rest : x.link = s.link ∧ x.eng = s.eng ∧ x.soft = s.soft ∧ x.dosing = s.dosing ∧ x.door = s.door ∧ x.chan = s.chan := by
    rw [show x = _ from beside]
    exact ⟨rfl, rfl, rfl, rfl, rfl, rfl⟩
  obtain ⟨link, eng, soft, dosing, door, chan⟩ := rest
  rw [lost]
  refine ⟨rfl, fun l => ?_, rfl, rfl, rfl, ?_, fun l hl => ?_, eng, soft, dosing, door, chan⟩
  · show (x.load l).grant = none
    rw [hx, loads]
  · show x.link.post (x.notice .mainsLost 1 0 s.totalWatts) = _
    rw [State.notice_of_timeTag (s := s) (t := x) (by rw [link]), link]
  · show (x.arb.reports ++ (allLoads.filter s.isGranted).filter (fun l => !x.arb.reports.contains l)).contains l = true
    by_cases told : x.arb.reports.contains l = true
    · exact List.contains_iff_mem.mpr (List.mem_append_left _ (List.contains_iff_mem.mp told))
    · refine List.contains_iff_mem.mpr (List.mem_append_right _ (List.mem_filter.mpr
        ⟨List.mem_filter.mpr ⟨mem_allLoads l, hl⟩, ?_⟩))
      rw [Bool.eq_false_of_not_eq_true told]
      rfl

/-- The misses of the watch (R162). -/
theorem exec_zeroCrossMissed (s : State) (hs : s.settled) :
    (s.arb.zc.presence ≠ .present →
      exec .zeroCrossMissed s = .next { s with arb.zc := { s.arb.zc with run := 0 } }) ∧
    (s.arb.zc.presence = .present → s.arb.zc.misses < 2 →
      exec .zeroCrossMissed s = .next { s with arb.zc := { s.arb.zc with misses := s.arb.zc.misses + 1 } }) ∧
    (s.arb.zc.presence = .present → 2 ≤ s.arb.zc.misses →
      ∃ u : State, exec .zeroCrossMissed s = .next u.settle ∧ u.arb.zc.presence = .absent ∧
        (∀ l, (u.load l).grant = none) ∧ u.arb.mainsReports.lossEngine = true ∧
        u.arb.mainsReports.lossSoftener = true ∧ u.arb.mainsReports.lossSnapshot = true ∧
        u.link = s.link.post (s.notice .mainsLost 1 0 s.totalWatts) ∧
        (∀ l, s.isGranted l = true → u.arb.reports.contains l = true) ∧
        u.eng = s.eng ∧ u.soft = s.soft ∧ u.dosing = s.dosing ∧ u.door = s.door ∧ u.chan = s.chan) := by
  have ends {t : State} (e : s.missCrossing = t) (ht : t.settled) : exec .zeroCrossMissed s = .next t := by
    show Host.Outcome.next s.missCrossing.settle = _
    rw [e, State.settle_of_settled t ht]
  refine ⟨fun away => ends ?_ hs, fun present few => ends ?_ hs, fun present third => ?_⟩
  · unfold State.missCrossing
    dsimp only
    split
    · rename_i e
      exact absurd e away
    · rfl
  · unfold State.missCrossing
    dsimp only
    rw [present]
    exact if_neg (by omega)
  · obtain ⟨x, hx⟩ : ∃ x : State, x = { s with arb.zc := { s.arb.zc with misses := s.arb.zc.misses + 1 } } := ⟨_, rfl⟩
    have lost : s.missCrossing = x.mainsLost := by
      unfold State.missCrossing
      dsimp only
      rw [hx, present]
      exact if_pos (by omega)
    have watts : x.totalWatts = s.totalWatts := by rw [hx]; rfl
    have spec := x.mainsLost_spec
    rw [watts] at spec
    refine ⟨x.mainsLost, congrArg (fun y : State => Host.Outcome.next y.settle) lost, ?_⟩
    rw [hx] at spec ⊢
    exact spec

/-! #### The pins -/

theorem State.drivePin_granted {s : State} {l : LoadId} {g : Step} (hr : s.requested l = true) (hg : (s.load l).grant = some g) :
    s.drivePin l = (decide (g ≠ .half) || s.arb.zc.phase) := by
  unfold State.drivePin State.granted
  rw [hr, hg]
  cases g <;> rfl

/-- The drives, and what an accepted crossing makes of them (R149; log 50). -/
theorem drive_pins (s : State) (l : LoadId) :
    ((s.load l).grant = none → s.drivePin l = false) ∧
    (s.requested l = true → (s.load l).grant = some .full → s.drivePin l = true) ∧
    (s.requested l = true → (s.load l).grant = some .half → s.drivePin l = s.arb.zc.phase) ∧
    (∀ last, s.settled → s.arb.zc.presence = .present → s.arb.zc.last = some last → 70 ≤ s.now - last →
      ∃ t : State, exec .zeroCrossPulse s = .next t ∧
        t.drivePin l = (if (s.load l).grant = some .half then s.requested l && !s.arb.zc.phase else s.drivePin l)) := by
  refine ⟨fun e => ?_, fun hr hg => by rw [State.drivePin_granted hr hg]; rfl,
    fun hr hg => by rw [State.drivePin_granted hr hg]; rfl, fun last hs present hl gap => ?_⟩
  · unfold State.drivePin State.granted
    rw [e]
    simp
  · refine ⟨_, (exec_zeroCross_accepted hs hl gap).1 present, ?_⟩
    have pin : ∀ z : ZeroCross, State.drivePin { s with arb.zc := z } l =
        (s.granted l && (decide ((s.load l).grant ≠ some .half) || z.phase)) := fun _ => rfl
    rw [pin]
    unfold State.drivePin State.granted
    split
    · rename_i e
      rw [e]
      simp
    · rename_i e
      simp [e]

theorem line_pins (s : State) :
    s.pumpSpeed = (if s.granted .circPump = true then s.argument .circPump else none) ∧
    (s.rtdirPin = true ↔ s.argument .routeValve = some 1) ∧ (s.seldirPin = true ↔ s.argument .selectorValve = some 0) ∧
    (s.attnPin = true ↔ s.link.attn = false) ∧ (s.hdirPin = true ↔ s.link.response ≠ none) ∧
    (s.sdirPin = true ↔ ∃ x, s.bus.tx = some x ∧ x.waiting = false) := by
  refine ⟨rfl, decide_eq_true_iff, decide_eq_true_iff, by simp [State.attnPin],
    by simp [State.hdirPin, Option.isSome_iff_ne_none], ?_⟩
  unfold State.sdirPin
  cases s.bus.tx with
  | none => simp
  | some x => simp

/-- Settles O59, by the noise, the run and the misses of the watch, and by the pins. -/
theorem zeroCrossWatch : Obligations.ZeroCrossWatch := by
  unfold Obligations.ZeroCrossWatch
  refine ⟨fun s hs => ⟨fun last hl noise => ?_, fun last hl gap => exec_zeroCross_accepted hs hl gap,
    fun hl => exec_zeroCross_first hs hl, exec_zeroCrossMissed s hs⟩, drive_pins, line_pins⟩
  refine exec_zeroCross_settled ?_ hs
  rw [State.zeroCross_after hl, if_pos noise]

end Sys2Proof.Machine
end

section
/-! ### The selector: what its position and its travel timeouts end (R85, R86, R91, R92) -/

namespace Sys2Proof.Machine

/-! #### The automatic start check, seen from a column and from a fill on the path -/

/-- Capacities stand, and a column stands in SERVICE just when it did. -/
theorem State.startRegen_service {s : State} {c : Side} (h : (s.column c).state = .exhausted) (d : Side) :
    ((s.startRegen c).column d).cap = (s.column d).cap ∧
      (((s.startRegen c).column d).state = .service ↔ (s.column d).state = .service) := by
  obtain ⟨⟨a, own⟩, ⟨b, other⟩, -⟩ := s.startRegen_spec c
  by_cases e : d = c
  · subst e
    rw [own, h]
    exact ⟨rfl, nofun, nofun⟩
  · have side : d = otherSide c := by cases c <;> cases d <;> simp_all [otherSide]
    rw [side, other]
    exact ⟨rfl, Iff.rfl⟩

theorem State.autoCheck_service (s : State) (d : Side) :
    (s.autoCheck.column d).cap = (s.column d).cap ∧
      ((s.autoCheck.column d).state = .service ↔ (s.column d).state = .service) := by
  obtain ⟨b, used⟩ := s.useSoftener_column d
  rcases s.autoCheck_cases with e | ⟨-, e⟩ | ⟨c, -, -, exhausted, e⟩
  · rw [e]
    exact ⟨rfl, Iff.rfl⟩
  · rw [e, used]
    exact ⟨rfl, Iff.rfl⟩
  · obtain ⟨b', usedC⟩ := s.useSoftener_column c
    have started := State.startRegen_service (s := s.useProfile .softener) (c := c) (by rw [usedC]; exact exhausted) d
    rw [used] at started
    rw [e]
    exact started

theorem State.startRegen_link {s : State} (h : s.soft.saltLow = false) (c : Side) : (s.startRegen c).link = s.link := by
  obtain ⟨x, hx⟩ : ∃ x : State, x = State.setColumn { s with
    soft.regen := some { column := c, stage := .brine, flowing := false, volume := 0, soakTimer := 0 } } c
      { s.column c with state := .brine, saltReduced := s.soft.saltLow } := ⟨_, rfl⟩
  have salt : x.soft.saltLow = false := by rw [hx, ← h]; cases c <;> rfl
  have link : x.link = s.link := by rw [hx]; cases c <;> rfl
  have started : s.startRegen c = (if x.soft.saltLow then
      (x.useProfile .softener).post .regenSaltLow 3 (sideCode c) (restoredCapacity (x.useProfile .softener).softener true)
      else x).regenRequestPath := by rw [hx]; rfl
  rw [started, if_neg (by simp [salt]), (State.routes.regenRequestPath x).link, link]

theorem State.autoCheck_link {s : State} (h : s.inEffect .softener) (hs : s.soft.saltLow = false) : s.autoCheck.link = s.link := by
  rcases s.autoCheck_cases with e | ⟨-, e⟩ | ⟨c, -, -, -, e⟩
  · rw [e]
  · rw [e, State.useProfile_of_inEffect h]
  · rw [e, State.useProfile_of_inEffect h, State.startRegen_link hs]

/-- What a fill on the path needs to go on: the holder, its progress, the pulse, the route and whether a flip was tried. -/
def State.fillPlace (s : State) : Holder × Progress × Option RoutePulse × Route × Bool :=
  (s.soft.holder, s.soft.progress, s.soft.pulse, s.soft.route, s.soft.flipTried)

theorem State.setColumn_fillPlace (s : State) (c : Side) (x : Column) : (s.setColumn c x).fillPlace = s.fillPlace := by
  cases c <;> rfl

theorem State.useSoftener_fillPlace (s : State) : (s.useProfile .softener).fillPlace = s.fillPlace := by
  obtain ⟨a, b, e⟩ := s.useSoftener_soft
  unfold State.fillPlace
  rw [e]

theorem State.startRegen_fillPlace {s : State} (h : s.soft.holder = .fill) (c : Side) :
    (s.startRegen c).fillPlace = s.fillPlace := by
  obtain ⟨x, hx⟩ : ∃ x : State, x = State.setColumn { s with
    soft.regen := some { column := c, stage := .brine, flowing := false, volume := 0, soakTimer := 0 } } c
      { s.column c with state := .brine, saltReduced := s.soft.saltLow } := ⟨_, rfl⟩
  have place : x.fillPlace = s.fillPlace := by rw [hx, State.setColumn_fillPlace]; rfl
  obtain ⟨y, hy⟩ : ∃ y : State, y = if x.soft.saltLow then
      (x.useProfile .softener).post .regenSaltLow 3 (sideCode c) (restoredCapacity (x.useProfile .softener).softener true)
      else x := ⟨_, rfl⟩
  have placeY : y.fillPlace = s.fillPlace := by
    rw [hy]
    split
    · exact x.useSoftener_fillPlace.trans place
    · exact place
  have started : s.startRegen c = y.regenRequestPath := by rw [hy, hx]; rfl
  have holder : y.soft.holder = .fill := (congrArg Prod.fst placeY).trans h
  have path : y.regenRequestPath = { y with
      soft.waiting := true, soft.regen := y.soft.regen.map (fun r => { r with flowing := false }) } := by
    unfold State.regenRequestPath
    rw [holder]
  rw [started, path, ← placeY]
  rfl

theorem State.autoCheck_fillPlace {s : State} (h : s.soft.holder = .fill) : s.autoCheck.fillPlace = s.fillPlace := by
  rcases s.autoCheck_cases with e | ⟨-, e⟩ | ⟨c, -, -, -, e⟩
  · rw [e]
  · rw [e, State.useSoftener_fillPlace]
  · have holder : (s.useProfile .softener).soft.holder = .fill := (congrArg Prod.fst s.useSoftener_fillPlace).trans h
    rw [e, State.startRegen_fillPlace holder, State.useSoftener_fillPlace]

/-- The automatic start check puts no fill on the path. -/
theorem State.autoCheck_notFill {s : State} (h : s.soft.holder ≠ .fill) : s.autoCheck.soft.holder ≠ .fill := by
  have used : (s.useProfile .softener).soft.holder = s.soft.holder := congrArg Prod.fst s.useSoftener_fillPlace
  rcases s.autoCheck_cases with e | ⟨-, e⟩ | ⟨c, -, -, -, e⟩
  · rw [e]; exact h
  · rw [e, used]; exact h
  · obtain ⟨-, -, -, -, free, -⟩ := (s.useProfile .softener).startRegen_spec c
    rw [e]
    cases hh : s.soft.holder with
    | none => rw [free (used.trans hh)]; nofun
    | fill => exact absurd hh h
    | regen =>
      unfold State.startRegen
      dsimp only
      have stays : ∀ y : State, y.soft.holder = .regen → y.regenRequestPath.soft.holder ≠ .fill := fun y hy => by
        rw [y.regenRequestPath_holder.2.2 hy, hy]
        nofun
      have holder : ∀ x : State, x.fillPlace = (s.useProfile .softener).fillPlace → x.soft.holder = .regen := fun x hx =>
        (congrArg Prod.fst hx).trans (used.trans hh)
      refine stays _ (holder _ ?_)
      split
      · exact (State.useSoftener_fillPlace _).trans (State.setColumn_fillPlace ..)
      · exact State.setColumn_fillPlace ..

/-! #### A flip that has arrived -/

section
variable {s : State} {c : Side} (ready : (s.column c).state = .ready)
include ready

/-- The columns switch: the old service column is exhausted, the ready one in SERVICE, and the notice follows (R91). -/
theorem State.confirmFlip_eq : ∃ x : State, s.confirmFlip c = x.autoCheck ∧
    (x.column c) = { s.column c with state := .service } ∧ (x.column (otherSide c)).cap = (s.column (otherSide c)).cap ∧
      (x.column (otherSide c)).state ≠ .service ∧ x.fillPlace = s.fillPlace ∧ x.soft.saltLow = s.soft.saltLow ∧
      x.link = s.link.post (s.notice .columnSwitched 5 (sideCode c) (s.column c).cap) ∧
      (s.inEffect .softener → x.inEffect .softener) := by
  obtain ⟨y, hy⟩ : ∃ y : State, y = if (s.column (otherSide c)).state = .service then
      s.setColumn (otherSide c) { s.column (otherSide c) with state := .exhausted } else s := ⟨_, rfl⟩
  have away : c ≠ otherSide c := fun e => otherSide_ne c e.symm
  have column : y.column c = s.column c ∧ (y.column (otherSide c)).cap = (s.column (otherSide c)).cap ∧
      (y.column (otherSide c)).state ≠ .service ∧ s.softens y ∧ y.fillPlace = s.fillPlace ∧ y.link = s.link := by
    rw [hy]
    split
    · rw [State.setColumn_column, State.setColumn_column, if_neg away, if_pos rfl, State.setColumn_fillPlace]
      exact ⟨rfl, rfl, nofun, (State.softens.refl s).setColumn _ _, rfl, by cases c <;> rfl⟩
    · rename_i notService
      exact ⟨rfl, rfl, notService, .refl s, rfl, rfl⟩
  obtain ⟨same, cap, off, softens, place, link⟩ := column
  have switched := (softens.setColumn c { y.column c with state := .service }).post .columnSwitched 5 (sideCode c)
    ((y.setColumn c { y.column c with state := .service }).column c).cap
  refine ⟨(y.setColumn c { y.column c with state := .service }).post .columnSwitched 5 (sideCode c)
      ((y.setColumn c { y.column c with state := .service }).column c).cap, ?_, ?_, ?_, ?_, ?_, switched.saltLow, ?_,
    switched.inEffect⟩
  · unfold State.confirmFlip
    dsimp only
    rw [if_pos ready, ← hy]
  · show (y.setColumn c { y.column c with state := .service }).column c = _
    rw [State.setColumn_column, if_pos rfl, same]
  · show ((y.setColumn c { y.column c with state := .service }).column (otherSide c)).cap = _
    rw [State.setColumn_column, if_neg (otherSide_ne c), cap]
  · show ((y.setColumn c { y.column c with state := .service }).column (otherSide c)).state ≠ _
    rw [State.setColumn_column, if_neg (otherSide_ne c)]
    exact off
  · exact (State.setColumn_fillPlace ..).trans place
  · have linkX : (y.setColumn c { y.column c with state := .service }).link = s.link := by rw [← link]; cases c <;> rfl
    have capX : ((y.setColumn c { y.column c with state := .service }).column c).cap = (s.column c).cap := by
      rw [State.setColumn_column, if_pos rfl, same]
    rw [capX]
    show (y.setColumn c { y.column c with state := .service }).link.post (State.notice _ _ _ _ _) = _
    rw [State.notice_of_timeTag (s := s) (by rw [linkX]), linkX]

theorem State.confirmFlip_columns :
    ((s.confirmFlip c).column c).state = .service ∧ ((s.confirmFlip c).column c).cap = (s.column c).cap ∧
      ((s.confirmFlip c).column (otherSide c)).state ≠ .service ∧
      ((s.confirmFlip c).column (otherSide c)).cap = (s.column (otherSide c)).cap := by
  obtain ⟨x, e, own, cap, off, -⟩ := State.confirmFlip_eq ready
  obtain ⟨capC, serviceC⟩ := x.autoCheck_service c
  obtain ⟨capO, serviceO⟩ := x.autoCheck_service (otherSide c)
  rw [e, capC, capO, own]
  exact ⟨serviceC.mpr (by rw [own]), rfl, fun g => off (serviceO.mp g), cap⟩

end

/-- What the arrival of a move leaves of the path: a fill stands, and none is put on it. -/
theorem State.moveArrived_place (s : State) (m : SelectorMove) :
    (s.soft.holder = .fill → (s.moveArrived m).fillPlace = s.fillPlace) ∧
      (s.soft.holder ≠ .fill → (s.moveArrived m).soft.holder ≠ .fill) := by
  have same : (s.soft.holder = .fill → s.fillPlace = s.fillPlace) ∧ (s.soft.holder ≠ .fill → s.soft.holder ≠ .fill) :=
    ⟨fun _ => rfl, id⟩
  unfold State.moveArrived
  split
  · by_cases ready : (s.column m.target).state = .ready
    · obtain ⟨x, e, -, -, -, place, -⟩ := State.confirmFlip_eq ready
      have holder : x.soft.holder = s.soft.holder := congrArg Prod.fst place
      rw [e, ← holder]
      exact ⟨fun h => (State.autoCheck_fillPlace h).trans place, State.autoCheck_notFill⟩
    · have stays : s.confirmFlip m.target = s := if_neg ready
      rw [stays]
      exact same
  · exact same
  · exact same

/-! #### The path is served -/

/-- Where no flip is to be judged, serving the path touches the path alone (R92). -/
theorem State.servePath_routes {s : State} (h : s.soft.holder = .fill → s.soft.progress = .selecting → s.soft.flipTried = true) :
    s.routes s.servePath := by
  unfold State.servePath
  split
  · exact .refl s
  · split
    · exact .refl s
    · exact .refl s
    · rename_i hh hp
      have tried := h hh hp
      have noFlip : s.judgeFlip = s := by
        have target : s.flipTarget = none := by
          unfold State.flipTarget
          split
          · rfl
          · exact if_neg (by simp [tried])
        unfold State.judgeFlip
        rw [target]
      dsimp only
      rw [noFlip]
      split
      · exact .refl s
      · exact .routeHolder s
    · exact .routeHolder s

/-- A fill that waits in SELECTING, its flip tried, goes on to SET or to a pulse toward TUB (R92). -/
theorem State.servePath_fill {s : State} (hh : s.soft.holder = .fill) (hp : s.soft.progress = .selecting)
    (tried : s.soft.flipTried = true) (noMove : s.soft.move = none) (noPulse : s.soft.pulse = none) :
    s.servePath.soft.holder = .fill ∧
      (s.soft.route = .tub → s.servePath.soft.progress = .set ∧ s.servePath.soft.pulse = none ∧
        (s.servePath.load .inletValve).own = some 0) ∧
      (s.soft.route ≠ .tub → s.servePath.soft.progress = .routing ∧
        s.servePath.soft.pulse = some { target := .tub, timer := 0 } ∧ (s.servePath.load .routeValve).own = some 1) := by
  have target : s.flipTarget = none := by
    unfold State.flipTarget
    split
    · rfl
    · exact if_neg (by simp [tried])
  have noFlip : s.judgeFlip = s := by unfold State.judgeFlip; rw [target]
  have served : s.servePath = s.routeHolder := by
    unfold State.servePath
    rw [if_neg (by simp [noMove, noPulse]), hh, hp]
    dsimp only
    rw [noFlip, if_neg (by simp [noMove])]
  rw [served]
  refine ⟨by rw [State.routeHolder_holder, hh], fun onTub => ?_, fun off => ?_⟩
  · have becomes : s.routeHolder = (State.markEval { s with soft.progress := .set }).request .inletValve 0 := by
      unfold State.routeHolder
      rw [hh]
      refine (if_pos onTub).trans ?_
      unfold State.becomeSet
      dsimp only
      rw [show (State.markEval { s with soft.progress := .set }).soft.holder = .fill from hh]
    rw [becomes]
    exact ⟨rfl, noPulse, by rw [State.request_own, if_pos rfl]⟩
  · have pulses : s.routeHolder = State.startPulse { s with soft.progress := .routing } .tub := by
      unfold State.routeHolder
      rw [hh]
      exact if_neg off
    rw [pulses]
    exact ⟨rfl, rfl, by unfold State.startPulse; rw [State.request_own, if_pos rfl]; rfl⟩

end Sys2Proof.Machine
end

section
/-! ### Settling the selector's moves -/

namespace Sys2Proof.Machine

/-! #### A position that no move explains (R85) -/

theorem State.positionCheck_spec (s : State) :
    (∀ c, s.serviceColumn = some c → c ≠ s.soft.position →
      s.positionCheck.column c = { s.column c with state := .offline }) ∧
    (s.serviceColumn = none ∨ s.serviceColumn = some s.soft.position → s.positionCheck = s) ∧
    s.positionCheck.link = s.link ∧ s.positionCheck.soft.move = s.soft.move ∧ s.positionCheck.eng = s.eng ∧
    s.positionCheck.arb = s.arb ∧ s.positionCheck.chan = s.chan ∧ s.positionCheck.soft.position = s.soft.position := by
  unfold State.positionCheck
  cases h : s.serviceColumn with
  | none => exact ⟨nofun, fun _ => rfl, rfl, rfl, rfl, rfl, rfl, rfl⟩
  | some c =>
    dsimp only
    split
    · rename_i e
      exact ⟨fun d hd away => absurd ((Option.some.inj hd).symm.trans e.symm) away, fun _ => rfl, rfl, rfl, rfl, rfl, rfl, rfl⟩
    · rename_i e
      refine ⟨fun d hd _ => ?_, fun hd => ?_, ?_⟩
      · cases hd
        rw [State.setColumn_column, if_pos rfl]
      · rcases hd with hd | hd
        · cases hd
        · exact absurd (Option.some.inj hd).symm e
      · cases c <;> exact ⟨rfl, rfl, rfl, rfl, rfl, rfl⟩

/-- The state in which the softener takes a reading of the other side. -/
def State.read (s : State) (side : Side) : State :=
  { s with door := s.door.setSelector side, soft.position := side }

theorem State.read_column (s : State) (side c : Side) : (s.read side).column c = s.column c := by cases c <;> rfl

theorem State.selectorReading_unexpected {s : State} {side : Side} (away : s.soft.position ≠ side)
    (h : ∀ m, s.soft.move = some m → m.driving = false ∨ m.target ≠ side) :
    s.selectorReading side = (s.read side).positionCheck.post .selectorFault 2 (sideCode side) 2 := by
  unfold State.selectorReading
  dsimp only
  rw [if_neg away]
  unfold State.positionChange
  dsimp only
  split
  · rename_i m hm
    rw [if_neg (by rcases h m hm with e | e <;> simp [e])]
    rfl
  · rfl

/-! #### The arrival of a move -/

/-- The state in which a move that has arrived takes effect. -/
def State.arrived (s : State) (side : Side) : State := State.release { s.read side with soft.move := none } .selectorValve

theorem State.selectorReading_arrives {s : State} {side : Side} {m : SelectorMove} (away : s.soft.position ≠ side)
    (hm : s.soft.move = some m) (driving : m.driving = true) (target : m.target = side) :
    s.selectorReading side = ((s.arrived side).moveArrived m).servePath := by
  unfold State.selectorReading
  dsimp only
  rw [if_neg away]
  unfold State.positionChange
  dsimp only
  rw [hm]
  exact if_pos (by simp [driving, target])

theorem State.arrived_spec (s : State) (side : Side) :
    (s.arrived side).soft = { s.soft with position := side, move := none } ∧ (s.arrived side).eng = s.eng ∧
      (s.arrived side).chan = s.chan ∧ (s.arrived side).link = s.link ∧ ((s.arrived side).load .selectorValve).own = none ∧
      (s.inEffect .softener → (s.arrived side).inEffect .softener) ∧ ∀ c, (s.arrived side).column c = s.column c := by
  have soft : (s.arrived side).soft = { s.soft with position := side, move := none } := by
    unfold State.arrived
    rw [State.release_soft]
    rfl
  have trip : (s.arrived side).trip = s.trip := by
    unfold State.arrived
    rw [State.release_trip]
    rfl
  refine ⟨soft, by unfold State.arrived; simp [State.read], by unfold State.arrived; simp [State.read],
    by unfold State.arrived; simp [State.read], by unfold State.arrived; rw [State.release_own, if_pos rfl], fun h => ?_,
    fun c => by unfold State.column; rw [soft]⟩
  unfold State.inEffect State.faulted State.profileSound at h ⊢
  rw [trip, soft]
  exact h

section
variable {s : State} {side : Side} {m : SelectorMove}

/-- What the arrival of a move leaves whatever holds the path. -/
theorem State.moveArrived_common (target : m.target = side) :
    ((s.arrived side).moveArrived m).soft.position = side ∧ ((s.arrived side).moveArrived m).soft.move = none ∧
      (((s.arrived side).moveArrived m).load .selectorValve).own = none ∧
      (m.purpose = .flip → (s.column side).state = .ready →
        (((s.arrived side).moveArrived m).column side).state = .service ∧
        (((s.arrived side).moveArrived m).column side).cap = (s.column side).cap ∧
        (((s.arrived side).moveArrived m).column (otherSide side)).state ≠ .service ∧
        (((s.arrived side).moveArrived m).column (otherSide side)).cap = (s.column (otherSide side)).cap) ∧
      (m.purpose ≠ .flip → (s.arrived side).moveArrived m = s.arrived side) ∧
      ((s.arrived side).moveArrived m).eng = s.eng ∧ ((s.arrived side).moveArrived m).chan = s.chan := by
  obtain ⟨soft, eng, chan, link, own, -, column⟩ := s.arrived_spec side
  have softens := (State.softens.refl (s.arrived side)).moveArrived m
  have kept := (s.arrived side).moveArrived_selectorKept m
  refine ⟨softens.position.trans (by rw [soft]), kept.move.trans (by rw [soft]), kept.own.trans own, fun flip ready => ?_,
    fun other => ?_, softens.eng.trans eng, softens.chan.trans chan⟩
  · have flips : (s.arrived side).moveArrived m = (s.arrived side).confirmFlip side := by
      unfold State.moveArrived
      rw [flip, target]
    rw [← column side] at ready
    obtain ⟨service, cap, off, capO⟩ := State.confirmFlip_columns ready
    rw [flips]
    exact ⟨service, cap.trans (by rw [column]), off, capO.trans (by rw [column])⟩
  · unfold State.moveArrived
    cases e : m.purpose with
    | flip => exact absurd e other
    | set => rfl
    | back => rfl

/-- A move that arrives while the path serves nobody (R86, R91). -/
theorem State.arrival_free (target : m.target = side) (free : s.soft.holder = .none) {u : State}
    (hu : u = ((s.arrived side).moveArrived m).servePath) :
    u.soft.position = side ∧ u.soft.move = none ∧ (u.load .selectorValve).own = none ∧
      (m.purpose = .flip → (s.column side).state = .ready →
        (u.column side).state = .service ∧ (u.column side).cap = (s.column side).cap ∧
        (u.column (otherSide side)).state ≠ .service ∧
        (u.column (otherSide side)).cap = (s.column (otherSide side)).cap) ∧
      (m.purpose ≠ .flip → u.soft.colA = s.soft.colA ∧ u.soft.colB = s.soft.colB ∧ u.link = s.link) ∧
      u.eng = s.eng ∧ u.chan = s.chan := by
  obtain ⟨position, move, own, flip, other, eng, chan⟩ := State.moveArrived_common (s := s) (m := m) target
  obtain ⟨soft, -, -, link, -, -, column⟩ := s.arrived_spec side
  have notFill : ((s.arrived side).moveArrived m).soft.holder ≠ .fill :=
    ((s.arrived side).moveArrived_place m).2 (by rw [soft, free]; nofun)
  have routes := State.servePath_routes (s := (s.arrived side).moveArrived m) fun e => absurd e notFill
  have kept := State.selectorKept.routes routes
  rw [hu]
  refine ⟨(State.softens.routes routes).position.trans position, kept.move.trans move, kept.own.trans own, fun hf ready => ?_,
    fun hf => ?_, routes.eng.trans eng, routes.chan.trans chan⟩
  · rw [routes.column, routes.column]
    exact flip hf ready
  · have a : _ = s.column .a := ((routes.column .a).trans (by rw [other hf])).trans (column .a)
    have b : _ = s.column .b := ((routes.column .b).trans (by rw [other hf])).trans (column .b)
    exact ⟨a, b, routes.link.trans (by rw [other hf]; exact link)⟩

/-- A move that arrives under a fill that waits in SELECTING, its flip tried (R92). -/
theorem State.arrival_fill (target : m.target = side) (fill : s.soft.holder = .fill) (selecting : s.soft.progress = .selecting)
    (tried : s.soft.flipTried = true) (noPulse : s.soft.pulse = none) {u : State}
    (hu : u = ((s.arrived side).moveArrived m).servePath) :
    u.soft.position = side ∧ u.soft.move = none ∧ (u.load .selectorValve).own = none ∧ u.soft.holder = .fill ∧
      (s.soft.route = .tub → u.soft.progress = .set ∧ u.soft.pulse = none ∧ (u.load .inletValve).own = some 0) ∧
      (s.soft.route ≠ .tub → u.soft.progress = .routing ∧ u.soft.pulse = some { target := .tub, timer := 0 } ∧
        (u.load .routeValve).own = some 1) ∧
      (m.purpose = .flip → (s.column side).state = .ready →
        (u.column side).state = .service ∧ (u.column side).cap = (s.column side).cap ∧
        (u.column (otherSide side)).state ≠ .service) ∧
      (m.purpose ≠ .flip → u.soft.colA = s.soft.colA ∧ u.soft.colB = s.soft.colB ∧ u.link = s.link) ∧
      u.eng = s.eng ∧ u.chan = s.chan := by
  obtain ⟨position, move, own, flip, other, eng, chan⟩ := State.moveArrived_common (s := s) (m := m) target
  obtain ⟨soft, -, -, link, -, -, column⟩ := s.arrived_spec side
  have place := ((s.arrived side).moveArrived_place m).1 (by rw [soft, fill])
  have same : (s.arrived side).fillPlace = s.fillPlace := by unfold State.fillPlace; rw [soft]
  rw [same] at place
  simp only [State.fillPlace, Prod.mk.injEq] at place
  obtain ⟨holder, progress, pulse, route, flipTried⟩ := place
  obtain ⟨fillU, onTub, off⟩ := State.servePath_fill (s := (s.arrived side).moveArrived m) (holder.trans fill)
    (progress.trans selecting) (flipTried.trans tried) move (pulse.trans noPulse)
  have routes := State.servePath_routes (s := (s.arrived side).moveArrived m) fun _ _ => flipTried.trans tried
  have kept := State.selectorKept.routes routes
  rw [route] at onTub off
  rw [hu]
  refine ⟨(State.softens.routes routes).position.trans position, kept.move.trans move, kept.own.trans own, fillU, onTub, off,
    fun hf ready => ?_, fun hf => ?_, routes.eng.trans eng, routes.chan.trans chan⟩
  · obtain ⟨service, cap, away, -⟩ := flip hf ready
    rw [routes.column, routes.column]
    exact ⟨service, cap, away⟩
  · have a : _ = s.column .a := ((routes.column .a).trans (by rw [other hf])).trans (column .a)
    have b : _ = s.column .b := ((routes.column .b).trans (by rw [other hf])).trans (column .b)
    exact ⟨a, b, routes.link.trans (by rw [other hf]; exact link)⟩

/-- The one notice of a flip that is confirmed (R91). -/
theorem State.arrival_notice (target : m.target = side) (flip : m.purpose = .flip) (ready : (s.column side).state = .ready)
    (tried : s.soft.progress = .selecting → s.soft.flipTried = true) (noSalt : s.soft.saltLow = false)
    (effect : s.inEffect .softener) :
    (((s.arrived side).moveArrived m).servePath).link =
      s.link.post (s.notice .columnSwitched 5 (sideCode side) (s.column side).cap) := by
  obtain ⟨soft, -, -, link, -, inEffect, column⟩ := s.arrived_spec side
  have flips : (s.arrived side).moveArrived m = (s.arrived side).confirmFlip side := by
    unfold State.moveArrived
    rw [flip, target]
  have readyA : ((s.arrived side).column side).state = .ready := by rw [column]; exact ready
  obtain ⟨x, e, -, -, -, place, saltLow, linkX, inX⟩ := State.confirmFlip_eq readyA
  have holderX : x.soft.holder = s.soft.holder := (congrArg Prod.fst place).trans (by unfold State.fillPlace; rw [soft])
  have routes := State.servePath_routes (s := (s.arrived side).moveArrived m) (by
    rw [flips, e]
    intro hh hp
    by_cases fill : x.soft.holder = .fill
    · have still := (State.autoCheck_fillPlace fill).trans place
      simp only [State.fillPlace, Prod.mk.injEq] at still
      obtain ⟨-, progress, -, -, flipTried⟩ := still
      rw [soft] at progress flipTried
      rw [progress] at hp
      rw [flipTried]
      exact tried hp
    · exact absurd hh (State.autoCheck_notFill fill))
  rw [routes.link, flips, e, State.autoCheck_link (inX (inEffect effect)) (saltLow.trans (by rw [soft]; exact noSalt)), linkX, link,
    column, State.notice_of_timeTag (s := s) (t := s.arrived side) (by rw [link])]

end

/-! #### The travel timeouts (R86) -/

theorem State.driveBack_spec {s : State} {m : SelectorMove} (hp : s.inEffect .softener) (hb : m.purpose ≠ .back) :
    (s.travelTimeout m).soft = { s.soft with
        move := some { purpose := .back, target := otherSide m.target, timer := 0, driving := true
                       limit := s.softener.travelTimeout } } ∧
      ((s.travelTimeout m).load .selectorValve).own = some (sideCode (otherSide m.target)) ∧
      (s.travelTimeout m).link = s.link.post (s.notice .selectorFault 2 (sideCode m.target) 1) ∧
      (s.travelTimeout m).eng = s.eng ∧ (s.travelTimeout m).chan = s.chan := by
  obtain ⟨x, hx⟩ : ∃ x : State, x = (s.post .selectorFault 2 (sideCode m.target) 1).release .selectorValve := ⟨_, rfl⟩
  have rest : x.soft = s.soft ∧ x.link = s.link.post (s.notice .selectorFault 2 (sideCode m.target) 1) ∧ x.eng = s.eng ∧
      x.chan = s.chan ∧ x.trip = s.trip := by
    rw [hx]
    refine ⟨by simp, ?_, by simp, by simp, by simp⟩
    rw [State.release_link]
    rfl
  obtain ⟨soft, link, eng, chan, trip⟩ := rest
  have effect : x.inEffect .softener := by
    unfold State.inEffect State.faulted State.profileSound at hp ⊢
    rw [trip, soft]
    exact hp
  have softener : x.softener = s.softener := by unfold State.softener; rw [trip, soft]
  have drives : s.travelTimeout m = x.drive (x.newMove .back (otherSide m.target)) := by
    unfold State.travelTimeout
    cases e : m.purpose with
    | back => exact absurd e hb
    | flip =>
      dsimp only
      rw [← hx, State.useProfile_of_inEffect effect]
    | set =>
      dsimp only
      rw [← hx, State.useProfile_of_inEffect effect]
  rw [drives]
  refine ⟨?_, by unfold State.drive; rw [State.request_own, if_pos rfl]; rfl, link, eng, chan⟩
  rw [← soft, ← softener]
  rfl

/-- The end of a BACK move, before the path is served (R86; log 12). -/
theorem State.backEnds (s : State) {m : SelectorMove} (hb : m.purpose = .back) :
    ∃ x : State, s.travelTimeout m = x.servePath ∧ x.soft.move = none ∧ (x.load .selectorValve).own = none ∧
      x.fillPlace = s.fillPlace ∧ x.soft.position = s.soft.position ∧ x.eng = s.eng ∧ x.chan = s.chan ∧
      (s.soft.position = m.target → x.link = s.link ∧ x.soft = { s.soft with move := none }) ∧
      (s.soft.position ≠ m.target →
        (∃ subject : Fin 256, x.link = s.link.post (s.notice .selectorFault 2 subject.val 3)) ∧
        (∀ c, s.serviceColumn = some c → c ≠ s.soft.position → x.column c = { s.column c with state := .offline })) := by
  obtain ⟨y, hy⟩ : ∃ y : State, y = State.release { s with soft.move := none } .selectorValve := ⟨_, rfl⟩
  have rest : y.soft = { s.soft with move := none } ∧ y.link = s.link ∧ y.eng = s.eng ∧ y.chan = s.chan := by
    rw [hy]
    exact ⟨by simp, by simp, by simp, by simp⟩
  obtain ⟨soft, link, eng, chan⟩ := rest
  have own : (y.load .selectorValve).own = none := by rw [hy, State.release_own, if_pos rfl]
  have column : ∀ c, y.column c = s.column c := fun c => by unfold State.column; rw [soft]
  have service : y.serviceColumn = s.serviceColumn := by unfold State.serviceColumn; rw [soft]
  have ends : s.travelTimeout m = (if y.soft.position = m.target then y
      else (y.draw.positionCheck).post .selectorFault 2 (Config.selectorFaultSubject y.draws).val 3).servePath := by
    unfold State.travelTimeout
    rw [hb]
    dsimp only
    rw [← hy]
  have position : y.soft.position = s.soft.position := by rw [soft]
  refine ⟨_, ends, ?_⟩
  by_cases e : s.soft.position = m.target
  · rw [if_pos (position.trans e)]
    exact ⟨by rw [soft], own, by unfold State.fillPlace; rw [soft], position, eng, chan, fun _ => ⟨link, soft⟩,
      fun g => absurd e g⟩
  · rw [if_neg (by rw [position]; exact e)]
    obtain ⟨offline, -, linkC, moveC, engC, arbC, chanC, positionC⟩ := y.draw.positionCheck_spec
    have place : y.draw.positionCheck.fillPlace = y.fillPlace := by
      unfold State.positionCheck
      split
      · rfl
      · split
        · rfl
        · exact State.setColumn_fillPlace ..
    refine ⟨moveC.trans (by show y.soft.move = none; rw [soft]), ?_, place.trans (by unfold State.fillPlace; rw [soft]),
      positionC.trans position, engC.trans eng, chanC.trans chan, fun g => absurd g e, fun _ => ⟨⟨Config.selectorFaultSubject y.draws, ?_⟩, fun c hc away => ?_⟩⟩
    · show (y.draw.positionCheck.load .selectorValve).own = none
      unfold State.load
      rw [arbC]
      exact own
    · show y.draw.positionCheck.link.post (State.notice _ _ _ _ _) = _
      have told : y.draw.positionCheck.link = s.link := linkC.trans link
      rw [State.notice_of_timeTag (s := s) (by rw [told]), told]
    · have off := offline c (service.trans hc) (by show c ≠ y.soft.position; rw [position]; exact away)
      show y.draw.positionCheck.column c = _
      rw [off]
      show { y.column c with state := .offline } = _
      rw [column]

/-- Settles O54, by what a reading of the selector is to the move under way, and by the purpose of a move that times out. -/
theorem selectorMovesEnd : Obligations.SelectorMovesEnd := by
  unfold Obligations.SelectorMovesEnd
  refine ⟨fun s side hs => ⟨fun same => ?_, fun away h => ?_, fun m away hm driving target free => ?_,
    fun m away hm driving target fill selecting tried noPulse => ?_,
    fun m away hm driving target flip ready tried noSalt effect => ?_⟩,
    fun s m hs hm hp => ⟨fun stands => ?_, fun runs hb => ?_, fun runs hb free => ?_, fun runs hb fill selecting tried noPulse => ?_⟩⟩
  · have reads : s.selectorReading side = { s with door := s.door.setSelector side } := if_pos same
    refine ⟨{ s with door := s.door.setSelector side }, ?_, rfl⟩
    show Host.Outcome.next (s.selectorReading side).settle = _
    rw [reads, State.settle_of_settled { s with door := s.door.setSelector side } hs]
  · obtain ⟨offline, stays, link, move, eng, arb, chan, -⟩ := (s.read side).positionCheck_spec
    have reads := State.selectorReading_unexpected away h
    have calm : ((s.read side).positionCheck.post .selectorFault 2 (sideCode side) 2).settled :=
      (congrArg ArbiterUnit.evalDue arb).trans hs
    refine ⟨(s.read side).positionCheck.post .selectorFault 2 (sideCode side) 2, ?_,
      (s.read side).positionCheck_spec.2.2.2.2.2.2.2, fun c hc hd => ?_, fun hc => ?_, ?_, move, eng, arb, chan⟩
    · show Host.Outcome.next (s.selectorReading side).settle = _
      rw [reads, State.settle_of_settled _ calm]
    · exact (offline c hc hd).trans (by rw [State.read_column])
    · exact congrArg State.soft (stays hc)
    · show (s.read side).positionCheck.link.post (State.notice _ _ _ _ _) = _
      rw [State.notice_of_timeTag (s := s) (by rw [link]; rfl), link]
      rfl
  · exact ⟨_, rfl, State.arrival_free target free (State.selectorReading_arrives away hm driving target)⟩
  · exact ⟨_, rfl, State.arrival_fill target fill selecting tried noPulse (State.selectorReading_arrives away hm driving target)⟩
  · refine ⟨_, rfl, ?_⟩
    rw [State.selectorReading_arrives away hm driving target]
    exact State.arrival_notice target flip ready tried noSalt effect
  · have same : s.travelExpiry = s := by
      unfold State.travelExpiry
      rw [hm]
      exact if_neg (by simp [stands])
    show Host.Outcome.next s.travelExpiry.settle = _
    rw [same, State.settle_of_settled s hs]
  · have times : s.travelExpiry = s.travelTimeout m := by
      unfold State.travelExpiry
      rw [hm]
      exact if_pos runs
    exact ⟨s.travelTimeout m, congrArg (fun x : State => Host.Outcome.next x.settle) times, State.driveBack_spec hp hb⟩
  · have times : s.travelExpiry = s.travelTimeout m := by
      unfold State.travelExpiry
      rw [hm]
      exact if_pos runs
    obtain ⟨x, e, move, own, place, -, eng, chan, atTarget, offTarget⟩ := s.backEnds hb
    have holder : x.soft.holder = .none := (congrArg Prod.fst place).trans free
    have served : x.servePath = x := by
      unfold State.servePath
      split
      · rfl
      · rw [holder]
    rw [served] at e
    refine ⟨x, ?_, move, own, atTarget, offTarget, eng, chan⟩
    show Host.Outcome.next s.travelExpiry.settle = _
    rw [times, e]
  · have times : s.travelExpiry = s.travelTimeout m := by
      unfold State.travelExpiry
      rw [hm]
      exact if_pos runs
    obtain ⟨x, e, move, own, place, position, eng, chan, -, -⟩ := s.backEnds hb
    simp only [State.fillPlace, Prod.mk.injEq] at place
    obtain ⟨holder, progress, pulse, route, flipTried⟩ := place
    have routes := State.servePath_routes (s := x) fun _ _ => flipTried.trans tried
    have kept := State.selectorKept.routes routes
    obtain ⟨fillU, onTub, off⟩ := State.servePath_fill (s := x) (holder.trans fill) (progress.trans selecting)
      (flipTried.trans tried) move (pulse.trans noPulse)
    rw [route] at onTub off
    refine ⟨x.servePath, ?_, kept.move.trans move, kept.own.trans own, fillU,
      (State.softens.routes routes).position.trans position, onTub, off, routes.eng.trans eng, routes.chan.trans chan⟩
    show Host.Outcome.next s.travelExpiry.settle = _
    rw [times, e]

end Sys2Proof.Machine
end

section
/-! ### HOLD: its timers, its thermostat and its exit test (R68 to R72) -/

namespace Sys2Proof.Machine

/-- What the end of HOLD leaves (R71, R72). -/
theorem State.endHold_spec {s : State} {h : StageRecord} (hh : s.eng.head = some h) (hr : s.eng.state = .running)
    (w : WashFields) :
    (s.endHold w).eng.head = some { h.draining with captured := s.extraResult w } ∧
      ((s.endHold w).load .drainPump).own = some 0 ∧ ((s.endHold w).load .circPump).own = none ∧
      ((s.endHold w).load .heater).own = none ∧ (s.endHold w).dosing.dose = none ∧
      (s.endHold w).eng.queue = s.eng.queue ∧ (s.endHold w).eng.state = .running ∧ (s.endHold w).chan = s.chan ∧
      (s.endHold w).soft = s.soft ∧ (s.endHold w).door = s.door := by
  obtain ⟨x, hx⟩ : ∃ x : State, x = s.withHead (fun h => { h with captured := s.extraResult w }) := ⟨_, rfl⟩
  have e : s.endHold w = x.abandonDose.enterDrain := by rw [hx]; rfl
  have head : x.eng.head = some { h with captured := s.extraResult w } := by
    rw [hx]
    unfold State.withHead
    rw [hh]
    rfl
  have doses := (State.doses.refl x).abandonDose
  have running : x.abandonDose.eng.state = .running := doses.engineState.trans (by rw [hx]; exact hr)
  have noDose : x.abandonDose.dosing.dose = none := by
    cases hd : x.dosing.dose with
    | none => rw [x.abandonDose_none hd, hd]
    | some d => exact (State.abandonDose_some hd).1
  obtain ⟨circ, heater, drain, -⟩ := x.abandonDose.enterDrain_own
  obtain ⟨-, -, -, -, -, -, dosing⟩ := x.abandonDose.enterDrain_units
  obtain ⟨chan, -, -, soft, door⟩ := s.endHold_units w
  have eng := x.abandonDose.enterDrain_eng
  have queue : x.abandonDose.eng.queue = s.eng.queue := doses.queue.trans (by rw [hx]; rfl)
  refine ⟨?_, by rw [e]; exact drain running, by rw [e, circ], by rw [e, heater], by rw [e, dosing, noDose],
    by rw [e, eng]; exact queue, by rw [e, eng]; exact running, chan, soft, door⟩
  rw [e, eng]
  show x.abandonDose.eng.head.map StageRecord.draining = _
  rw [doses.head, head]
  rfl

section
variable {s : State} {h : StageRecord} {w : WashFields} (hr : s.runningIn .hold = true) (hh : s.eng.head = some h)
  (hw : s.washHead = some w)
include hr hh hw

theorem State.minimumHold_running :
    s.minimumHold = { s with eng.head := some { h with holdTimer := max h.holdTimer (w.minHold * 10000) } } := by
  unfold State.minimumHold
  rw [hw]
  dsimp only
  rw [if_pos hr]
  unfold State.withHead
  rw [hh]
  rfl

/-- A TUB_TEMP hand-off in HOLD judges the thermostat (R69). -/
theorem State.engineTemp_hold (hp : s.inEffect .machine) :
    s.engineTemp = s.setThermostat (s.holdDecision w h.thermostat) := by
  have stage : h.stage = .hold := by
    obtain ⟨-, e⟩ := (s.runningIn_iff .hold).mp hr
    rw [hh] at e
    exact Option.some.inj e
  have notCirc : s.runningIn .circulate = false := by simp [State.runningIn, hh, stage]
  unfold State.engineTemp
  rw [hw]
  dsimp only
  rw [if_neg (by simp [notCirc]), if_pos hr, State.holdJudge_of_inEffect hp, hh]
  rfl

theorem State.roleUpdate_eq (r : Role) :
    s.roleUpdate r = match w.exitTest with
      | none => s
      | some x => if x.subject = .role r ∧ w.minHold * 10000 ≤ h.holdTimer ∧ x.cond.holds (s.roleValue r) x.threshold = true
          then s.endHold w else s := by
  unfold State.roleUpdate State.exitUpdate
  rw [hh, hw]
  dsimp only
  cases w.exitTest with
  | none => rfl
  | some x =>
    dsimp only
    by_cases e : x.subject = .role r
    · rw [e]
      have cond : (s.runningIn .hold && decide (w.minHold * Config.second ≤ h.holdTimer) && decide (Subject.role r = .role r) &&
          x.cond.holds (s.subjectValue (.role r)) x.threshold) = true ↔
          Subject.role r = .role r ∧ w.minHold * 10000 ≤ h.holdTimer ∧ x.cond.holds (s.roleValue r) x.threshold = true := by
        simp [hr, Config.second, State.subjectValue]
      by_cases c : Subject.role r = .role r ∧ w.minHold * 10000 ≤ h.holdTimer ∧ x.cond.holds (s.roleValue r) x.threshold = true
      · rw [if_pos (cond.mpr c), if_pos c]
      · rw [if_neg (fun g => c (cond.mp g)), if_neg c]
    · rw [if_neg (by simp [e]), if_neg (fun g => e g.1)]

end

theorem State.holdDecision_eq (s : State) (w : WashFields) (on : Bool) :
    s.holdDecision w on = (s.fresh .tubTemp && decide (w.setpoint ≠ 0) &&
      (if on then decide (s.roleValue .tubTemp < w.setpoint)
        else decide (s.roleValue .tubTemp ≤ (w.setpoint : Int) - s.machine.hysteresis))) := by
  unfold State.holdDecision
  cases s.fresh .tubTemp <;> by_cases e : w.setpoint = 0 <;> simp [e]

/-- Settles O51, by the two hold timers, by the thermostat's decision, and by the exit test. -/
theorem holdTimersEndHold : Obligations.HoldTimersEndHold := by
  unfold Obligations.HoldTimersEndHold
  refine ⟨fun s hs => ⟨fun away => ⟨?_, ?_⟩, fun h w hr hh hw => ⟨?_, ?_⟩⟩,
    fun s h w hr hh hw hp => ⟨fun on hon => ?_, fun x r hx => ⟨fun hsub hmin hold => ?_, fun no => ?_⟩, fun none r => ?_⟩⟩
  · have same : s.minimumHold = s := by
      unfold State.minimumHold
      split
      · rfl
      · exact if_neg (by simp [away])
    exact congrArg Host.Outcome.next same
  · have same : s.holdExpiry = s := by
      unfold State.holdExpiry
      split
      · rfl
      · exact if_neg (by simp [away])
    show Host.Outcome.next s.holdExpiry.settle = _
    rw [same, State.settle_of_settled s hs]
  · exact congrArg Host.Outcome.next (State.minimumHold_running hr hh hw)
  · obtain ⟨t, ht⟩ : ∃ t : State, t = s.withHead (fun h => { h with holdTimer := w.holdTime * Config.second }) := ⟨_, rfl⟩
    have ends : s.holdExpiry = t.endHold w := by
      rw [ht]
      unfold State.holdExpiry
      rw [hw]
      exact if_pos hr
    have headT : t.eng.head = some { h with holdTimer := w.holdTime * 10000 } := by
      rw [ht]
      unfold State.withHead
      rw [hh]
      rfl
    have running : t.eng.state = .running := by rw [ht]; exact ((s.runningIn_iff .hold).mp hr).1
    have result : t.extraResult w = s.extraResult w := by rw [ht]; rfl
    have rest : t.eng.queue = s.eng.queue ∧ t.chan = s.chan ∧ t.soft = s.soft ∧ t.door = s.door := by
      rw [ht]; exact ⟨rfl, rfl, rfl, rfl⟩
    obtain ⟨queueT, chanT, softT, doorT⟩ := rest
    obtain ⟨head, drain, circ, heater, dose, queue, state, chan, soft, door⟩ := State.endHold_spec headT running w
    exact ⟨t.endHold w, congrArg (fun x : State => Host.Outcome.next x.settle) ends, by rw [head, result]; rfl, drain, circ, heater,
      dose, queue.trans queueT, state, chan.trans chanT, soft.trans softT, door.trans doorT⟩
  · have decision : s.holdDecision w h.thermostat = on := by rw [hon, s.holdDecision_eq]
    obtain ⟨-, -, -, -, link, heater, -⟩ := s.setThermostat_spec on
    rw [State.engineTemp_hold hr hh hw hp, decision]
    exact ⟨State.setThermostat_eng hh on, heater, link⟩
  · have running := ((s.runningIn_iff .hold).mp hr).1
    obtain ⟨head, drain, -, -, dose, -⟩ := State.endHold_spec hh running w
    have ends : s.roleUpdate r = s.endHold w := by
      rw [State.roleUpdate_eq hr hh hw, hx]
      exact if_pos ⟨hsub, hmin, hold⟩
    rw [ends, head]
    exact ⟨rfl, drain, dose⟩
  · rw [State.roleUpdate_eq hr hh hw, hx]
    refine if_neg ?_
    rintro ⟨hsub, hmin, hold⟩
    rcases no with e | e | e
    · exact e hsub
    · omega
    · exact nomatch hold.symm.trans e
  · rw [State.roleUpdate_eq hr hh hw, none]

end Sys2Proof.Machine
end

section
/-! ### A drain whose next head ends in the event in which it starts (R77, R78, R138, R142) -/

namespace Sys2Proof.Machine

/-- A DRAIN record whose end pair holds at once, in front of a DRY record with no time to vent. -/
def State.ventless : State :=
  { State.reset with
    chan.active := Vector.replicate 32 { contents := { ChannelEntry.blank with enabled := true, role := .tubLevel }, sound := true }
    chan.run := Vector.replicate 32 { ChannelRun.blank with freshness := .fresh }
    door.state := .open
    eng.state := .running
    eng.head := some (StageRecord.start .drain 0 false)
    eng.queue :=
      [ { tag := 1, setMask := 0, clearMask := 0, body := .drain { endLevel := 100, minTime := 0 } },
        { tag := 2, setMask := 1, clearMask := 0
          body := .dry { openTemp := 300, condenseMax := 600, fan := false, ventTime := 0 } } ] }

/-- The masks of the DRY record are applied in the event that ends the drain. -/
theorem State.ventless_flags : State.ventless.drainMinimum.chan.flags = 1 := by decide

/-- Refutes O52: its clause on the flags takes any door state, and with the door open a DRY record with no time to vent starts and
ends in the event that ends the drain before it (R138, R142), so that its masks are applied beside those of that phase. -/
theorem not_drainTimersEndDrain : ¬ Obligations.DrainTimersEndDrain := by
  unfold Obligations.DrainTimersEndDrain
  intro h
  obtain ⟨-, down⟩ := h.1 State.ventless (StageRecord.start .drain 0 false) { endLevel := 100, minTime := 0 } rfl rfl rfl rfl
  obtain ⟨u, e, -, -, done⟩ := down (by decide) (by decide)
  obtain ⟨chan, -⟩ := done _ _ rfl rfl (fun w g => nomatch g)
  have same : u.settle.chan = State.ventless.drainMinimum.settle.chan :=
    congrArg State.chan (Host.Outcome.next.inj e).symm
  rw [State.settle_chan, State.settle_chan, chan] at same
  have flags := (congrArg ChannelUnit.flags same).trans State.ventless_flags
  exact absurd flags (by decide)

end Sys2Proof.Machine
end

section
/-! ### FILL and CIRCULATE: how each goes on, ends, and times out (R59 to R66) -/

namespace Sys2Proof.Machine

/-! #### What the ways through CIRCULATE and HOLD leave alone -/

/-- The head is in stage `st`, and the engine's state and queue, the channels, the bus and the door stand. -/
structure State.movesTo (st : Option Stage) (s t : State) : Prop where
  stage : t.eng.head.map StageRecord.stage = st
  state : t.eng.state = s.eng.state
  queue : t.eng.queue = s.eng.queue
  chan : t.chan = s.chan
  bus : t.bus = s.bus
  door : t.door = s.door

namespace State.movesTo

variable {s t u : State} {st : Option Stage}

theorem doses (h : s.movesTo st t) (g : t.doses u) : s.movesTo st u :=
  ⟨by rw [g.head, h.stage], g.engineState.trans h.state, g.queue.trans h.queue, g.acts.chan.trans h.chan,
    g.acts.bus.trans h.bus, g.door.trans h.door⟩

theorem setThermostat (h : s.movesTo st t) (on : Bool) : s.movesTo st (t.setThermostat on) := by
  obtain ⟨eng, -, -, door, -⟩ := t.setThermostat_spec on
  have acts := t.setThermostat_acts on
  have stage : (t.setThermostat on).eng.head.map StageRecord.stage = t.eng.head.map StageRecord.stage := by
    rw [eng]
    cases t.eng.head <;> rfl
  exact ⟨stage.trans h.stage, by rw [eng, ← h.state], by rw [eng, ← h.queue], acts.chan.trans h.chan, acts.bus.trans h.bus,
    door.trans h.door⟩

theorem reachDosePoint (h : s.movesTo st t) (w : WashFields) (p : DosePoint) : s.movesTo st (t.reachDosePoint w p) := by
  have begun : s.movesTo st (t.withHead (fun h => { h with doseBegun := true })) := by
    refine ⟨Eq.trans ?_ h.stage, h.state, h.queue, h.chan, h.bus, h.door⟩
    unfold State.withHead
    cases t.eng.head <;> rfl
  unfold State.reachDosePoint
  split
  · exact h
  · split
    · exact begun.doses (.startDose (.refl _) ..)
    · exact h

end State.movesTo

/-- The state in which HOLD has been entered, before its dose point (R66, R68). -/
def State.holding (s : State) (on : Bool) : State :=
  ((s.withHead (fun h => { h with stage := .hold, holdTimer := 0 })).setThermostat on).doseStageChange

theorem State.enterHold_eq (s : State) (w : WashFields) (on : Bool) :
    s.enterHold w on = if w.holdTime = 0 then ((s.holding on).reachDosePoint w .atSetpoint).endHold w
      else (s.holding on).reachDosePoint w .atSetpoint := rfl

theorem State.enterHold_movesTo {s : State} {h : StageRecord} (hh : s.eng.head = some h) (hr : s.eng.state = .running)
    (w : WashFields) (on : Bool) :
    s.movesTo (some (if w.holdTime = 0 then .drain else .hold)) (s.enterHold w on) := by
  have entered : s.movesTo (some .hold) (s.withHead (fun h => { h with stage := .hold, holdTimer := 0 })) := by
    refine ⟨?_, rfl, rfl, rfl, rfl, rfl⟩
    unfold State.withHead
    rw [hh]
    rfl
  have held := ((entered.setThermostat on).doses (.doseStageChange (.refl _))).reachDosePoint w .atSetpoint
  have held : s.movesTo (some .hold) ((s.holding on).reachDosePoint w .atSetpoint) := held
  rw [State.enterHold_eq]
  generalize (s.holding on).reachDosePoint w .atSetpoint = t at held
  split
  · cases ht : t.eng.head with
    | none =>
      have stage := held.stage
      rw [ht] at stage
      exact nomatch stage
    | some r =>
      obtain ⟨head, -, -, -, -, queue, state, chan, -, door⟩ := State.endHold_spec ht (held.state.trans hr) w
      obtain ⟨-, bus, -⟩ := t.endHold_units w
      exact ⟨by rw [head]; rfl, state.trans hr.symm, queue.trans held.queue, chan.trans held.chan, bus.trans held.bus,
        door.trans held.door⟩
  · exact held

/-- A dose that can go on keeps its dose and its notices through the move to HOLD (R118, R121). -/
theorem State.doseStageChange_goesOn {s : State}
    (h : ∀ d, s.dosing.dose = some d → 0 < d.done ∨ s.reservoirEmpty d.reservoir = false) :
    s.doseStageChange.link = s.link ∧ s.doseStageChange.eng = s.eng ∧
      ∀ k, (s.doseStageChange.load k).own = (s.load k).own := by
  unfold State.doseStageChange
  split
  · exact ⟨rfl, rfl, fun _ => rfl⟩
  · rename_i d hd
    split
    · exact ⟨rfl, rfl, fun _ => rfl⟩
    · split
      · have strokes : s.startStroke d = { s with dosing.dose := some { d with state := .stroking, timer := 0 } } := by
          unfold State.startStroke
          refine if_neg ?_
          rcases h d hd with e | e
          · simp [Nat.pos_iff_ne_zero.mp e]
          · simp [e]
        rw [strokes]
        exact ⟨rfl, rfl, fun _ => rfl⟩
      · exact ⟨rfl, rfl, fun _ => rfl⟩

theorem State.reachDosePoint_skips {s : State} {w : WashFields} {p : DosePoint}
    (h : w.dose = none ∨ w.dosePoint ≠ p ∨ s.eng.head.map StageRecord.doseBegun = some true) : s.reachDosePoint w p = s := by
  unfold State.reachDosePoint
  split
  · rfl
  · rename_i r hr
    refine if_neg ?_
    rintro ⟨point, begun⟩
    rcases h with e | e | e
    · exact nomatch hr.symm.trans e
    · exact e point
    · exact nomatch begun.symm.trans e

/-- HOLD is entered without a dose point and with time to hold. -/
theorem State.enterHold_quiet {s : State} {h : StageRecord} (hh : s.eng.head = some h) {w : WashFields} (on : Bool)
    (ht : w.holdTime ≠ 0) (hp : w.dose = none ∨ w.dosePoint ≠ .atSetpoint ∨ h.doseBegun = true)
    (hd : ∀ d, s.dosing.dose = some d → 0 < d.done ∨ s.reservoirEmpty d.reservoir = false) :
    (s.enterHold w on).eng = { s.eng with head := some { h with stage := .hold, holdTimer := 0, thermostat := on } } ∧
      (s.enterHold w on).link = s.link ∧ ((s.enterHold w on).load .heater).own =
        ((s.withHead (fun h => { h with stage := .hold, holdTimer := 0 })).setThermostat on |>.load .heater).own := by
  obtain ⟨x, hx⟩ : ∃ x : State, x = s.withHead (fun h => { h with stage := .hold, holdTimer := 0 }) := ⟨_, rfl⟩
  have headX : x.eng.head = some { h with stage := .hold, holdTimer := 0 } := by
    rw [hx]
    unfold State.withHead
    rw [hh]
    rfl
  have rest : x.dosing = s.dosing ∧ x.link = s.link ∧ x.eng = { s.eng with head := x.eng.head } := by
    rw [hx]; exact ⟨rfl, rfl, rfl⟩
  obtain ⟨dosingX, linkX, engX⟩ := rest
  obtain ⟨-, -, dosing, -, link, -⟩ := x.setThermostat_spec on
  have eng := State.setThermostat_eng headX on
  have empty : ∀ r, (x.setThermostat on).reservoirEmpty r = s.reservoirEmpty r := fun r => by
    unfold State.reservoirEmpty
    rw [State.reservoir_of_dosing (dosing.trans dosingX) r]
  obtain ⟨linkD, engD, own⟩ := State.doseStageChange_goesOn (s := x.setThermostat on) fun d hdose => by
    rw [empty]
    exact hd d (by rw [← dosingX, ← dosing]; exact hdose)
  have holding : s.holding on = (x.setThermostat on).doseStageChange := by rw [hx]; rfl
  have skips : (s.holding on).reachDosePoint w .atSetpoint = s.holding on :=
    State.reachDosePoint_skips (hp.imp_right fun e => e.imp_right fun g => by
      rw [holding, engD, eng]
      exact congrArg some g)
  rw [State.enterHold_eq, if_neg ht, skips, holding, engD, linkD, own, ← hx]
  exact ⟨by rw [eng, engX], link.trans linkX, rfl⟩

end Sys2Proof.Machine
end

section
/-! ### Settling FILL and CIRCULATE -/

namespace Sys2Proof.Machine

/-! #### The two timeouts (R61, R66) -/

theorem State.fillStall_spec {s : State} (hr : s.stallRuns = true) (hp : s.inEffect .machine) :
    s.fillStall.eng = { s.eng with
        state := .suspended
        susp := { s.eng.susp with noWater := true }
        head := s.eng.head.map (fun h => { h with stallTimer := s.machine.fillStall * 10000 }) } ∧
      s.fillStall.soft.holder ≠ .fill ∧ (s.fillStall.load .circPump).own = none ∧ (s.fillStall.load .heater).own = none ∧
      s.fillStall.link = s.link.post (s.notice .fillStalled 3 s.headTag s.soft.vFill) ∧ s.fillStall.chan = s.chan ∧
      s.fillStall.bus = s.bus := by
  have filling : s.runningIn .fill = true := (Bool.and_eq_true_iff.mp hr).1
  obtain ⟨running, stage⟩ := (s.runningIn_iff .fill).mp filling
  obtain ⟨x, hx⟩ : ∃ x : State, x =
      ((s.withHead (fun h => { h with stallTimer := s.stallLimit })).post .fillStalled 3 s.headTag s.soft.vFill) := ⟨_, rfl⟩
  have rest : x.eng = { s.eng with head := s.eng.head.map (fun h => { h with stallTimer := s.machine.fillStall * 10000 }) } ∧
      x.link = s.link.post (s.notice .fillStalled 3 s.headTag s.soft.vFill) ∧ x.chan = s.chan ∧ x.bus = s.bus := by
    rw [hx]; exact ⟨rfl, rfl, rfl, rfl⟩
  obtain ⟨engX, linkX, chanX, busX⟩ := rest
  have stalls : s.fillStall = x.addReason .noWater := by
    unfold State.fillStall
    rw [if_pos hr, State.useProfile_of_inEffect hp, hx]
    rfl
  have runningX : x.eng.state = .running := by rw [engX]; exact running
  obtain ⟨y, hy⟩ : ∃ y : State, y = { x with eng.susp := x.eng.susp.put .noWater true } := ⟨_, rfl⟩
  have engY : y.eng = { x.eng with susp := { x.eng.susp with noWater := true } } := by rw [hy]; rfl
  have restY : y.link = x.link ∧ y.chan = x.chan ∧ y.bus = x.bus := by rw [hy]; exact ⟨rfl, rfl, rfl⟩
  obtain ⟨linkY, chanY, busY⟩ := restY
  have fillingY : y.runningIn .fill = true := by
    rw [State.runningIn_iff, engY]
    refine ⟨runningX, ?_⟩
    show x.eng.head.map StageRecord.stage = _
    rw [engX, ← stage]
    cases s.eng.head <;> rfl
  obtain ⟨eng, link, chan, bus, holder, -, own⟩ := y.leaveRunning_spec
  rw [stalls, State.addReason_running runningX, ← hy]
  refine ⟨by rw [eng, engY, engX], holder fillingY, own .circPump (.inr (.inl rfl)), own .heater (.inl rfl),
    by rw [link, linkY, linkX], by rw [chan, chanY, chanX], by rw [bus, busY, busX]⟩

/-- The heat timeout moves the head on with its decision as it stands (R66). -/
theorem State.setpointMiss_spec {s : State} {w : WashFields} (hr : s.heatRuns = true) (hw : s.washHead = some w) :
    s.setpointMiss.eng.head.map StageRecord.stage = some (if w.holdTime = 0 then .drain else .hold) ∧
      s.setpointMiss.eng.state = .running ∧ s.setpointMiss.eng.queue = s.eng.queue ∧
      ((w.dose = none ∨ w.dosePoint = .atCirculate) → w.holdTime ≠ 0 →
        (∀ d, s.dosing.dose = some d → 0 < d.done ∨ s.reservoirEmpty d.reservoir = false) →
        s.setpointMiss.link = s.link.post (s.notice .setpointMissed 3 s.headTag (s.roleValue .tubTemp)) ∧
        s.setpointMiss.eng.head = s.eng.head.map (fun h =>
          { h with heatTimer := w.heatTimeout * 10000, stage := .hold, holdTimer := 0 })) ∧
      s.setpointMiss.chan = s.chan ∧ s.setpointMiss.bus = s.bus ∧ s.setpointMiss.door = s.door := by
  have heating : s.runningIn .circulate = true := by
    unfold State.heatRuns at hr
    simp only [Bool.and_eq_true] at hr
    exact hr.1.1
  obtain ⟨running, stage⟩ := (s.runningIn_iff .circulate).mp heating
  obtain ⟨h, hh⟩ : ∃ h, s.eng.head = some h := by
    cases e : s.eng.head with
    | none => rw [e] at stage; exact nomatch stage
    | some h => exact ⟨h, rfl⟩
  obtain ⟨x, hx⟩ : ∃ x : State, x = (s.withHead (fun h => { h with heatTimer := w.heatTimeout * Config.second })).post
      .setpointMissed 3 s.headTag (s.roleValue .tubTemp) := ⟨_, rfl⟩
  have headX : x.eng.head = some { h with heatTimer := w.heatTimeout * 10000 } := by
    rw [hx]
    show s.eng.head.map _ = _
    rw [hh]
    rfl
  have rest : x.eng.state = s.eng.state ∧ x.eng.queue = s.eng.queue ∧ x.chan = s.chan ∧ x.bus = s.bus ∧ x.door = s.door ∧
      x.dosing = s.dosing ∧ x.link = s.link.post (s.notice .setpointMissed 3 s.headTag (s.roleValue .tubTemp)) := by
    rw [hx]; exact ⟨rfl, rfl, rfl, rfl, rfl, rfl, rfl⟩
  obtain ⟨stateX, queueX, chanX, busX, doorX, dosingX, linkX⟩ := rest
  have misses : s.setpointMiss = x.enterHold w h.thermostat := by
    unfold State.setpointMiss
    rw [hw]
    dsimp only
    rw [if_pos hr, hx]
    have decision : (((s.withHead (fun h => { h with heatTimer := w.heatTimeout * Config.second })).eng.head.map
        StageRecord.thermostat).getD false) = h.thermostat := by
      unfold State.withHead
      rw [hh]
      rfl
    rw [decision]
    rfl
  have moves := State.enterHold_movesTo headX (stateX.trans running) w h.thermostat
  rw [misses]
  refine ⟨moves.stage, moves.state.trans (stateX.trans running), moves.queue.trans queueX, fun hd ht goesOn => ?_,
    moves.chan.trans chanX, moves.bus.trans busX, moves.door.trans doorX⟩
  obtain ⟨eng, link, -⟩ := State.enterHold_quiet headX h.thermostat ht
    (hd.imp_right fun e => .inl (by rw [e]; nofun)) (fun d hdose => by
      have empty : x.reservoirEmpty d.reservoir = s.reservoirEmpty d.reservoir := by
        unfold State.reservoirEmpty
        rw [State.reservoir_of_dosing dosingX]
      rw [empty]
      exact goesOn d (by rw [← dosingX]; exact hdose))
  exact ⟨link.trans linkX, by rw [eng, hh]; rfl⟩

/-! #### The volume reports and the level (R59 to R62) -/

theorem State.engineVolume_eq {s : State} {w : WashFields} (hr : s.runningIn .fill = true) (hw : s.washHead = some w) (v : Nat) :
    ∃ x : State, x = { s with
        eng.totals := { s.eng.totals with fillVolume := min 4294967295 (s.eng.totals.fillVolume + v) }
        eng.head := s.eng.head.map (fun h => { h with stallTimer := if 0 < v then 0 else h.stallTimer }) } ∧
      s.engineVolume v = if w.fillCap ≤ s.soft.vFill then
        (x.post .levelNotReached 3 s.headTag (if s.roleFreshness .tubLevel = .noData then 0 else s.roleValue .tubLevel)).endFill w
        else x := by
  refine ⟨_, rfl, ?_⟩
  unfold State.engineVolume
  rw [hw]
  dsimp only
  rw [if_pos hr]
  by_cases e : 0 < v
  · rw [if_pos e]
    simp only [e, if_true]
    rfl
  · have same : s.eng.head.map (fun h => { h with stallTimer := if 0 < v then 0 else h.stallTimer }) = s.eng.head := by
      simp only [e, if_false]
      cases s.eng.head <;> rfl
    rw [if_neg e, same]
    rfl

/-- FILL ends below the setpoint: CIRCULATE begins (R62, R64). -/
theorem State.endFill_spec {s : State} {h : StageRecord} (hh : s.eng.head = some h) {w : WashFields} (hp : w.setpoint ≠ 0)
    (hd : w.dose = none ∨ w.dosePoint = .atSetpoint) (below : s.fresh .tubTemp = true → s.roleValue .tubTemp < w.setpoint) :
    (s.endFill w).eng = { s.eng with head := some { h with stage := .circulate, thermostat := s.fresh .tubTemp } } ∧
      (s.endFill w).link = s.link ∧ (s.endFill w).soft.holder ≠ .fill ∧
      ((s.endFill w).load .circPump).own = some w.speed ∧
      (((s.endFill w).load .heater).own ≠ none ↔ s.fresh .tubTemp = true) ∧ (s.endFill w).chan = s.chan ∧
      (s.endFill w).dosing = s.dosing := by
  have routes := State.routes.fillGiveBack s
  obtain ⟨-, given, -⟩ := s.fillGiveBack_spec
  obtain ⟨x, hx⟩ : ∃ x : State, x = (s.fillGiveBack.setStage .circulate).request .circPump w.speed := ⟨_, rfl⟩
  have rest : x.eng = { s.fillGiveBack.eng with head := s.fillGiveBack.eng.head.map (fun h => { h with stage := .circulate }) } ∧
      x.soft = s.fillGiveBack.soft ∧ x.link = s.fillGiveBack.link ∧ x.chan = s.fillGiveBack.chan ∧
      x.dosing = s.fillGiveBack.dosing ∧ (x.load .circPump).own = some w.speed := by
    rw [hx]
    exact ⟨rfl, rfl, rfl, rfl, rfl, by rw [State.request_own, if_pos rfl]⟩
  obtain ⟨engX, softX, linkX, chanX, dosingX, circX⟩ := rest
  rw [routes.eng, hh] at engX
  have headX : x.eng.head = some { h with stage := .circulate } := by rw [engX]; rfl
  have freshX : x.fresh .tubTemp = s.fresh .tubTemp := by
    unfold State.fresh State.roleFreshness State.bound
    rw [chanX, routes.chan]
  have valueX : x.roleValue .tubTemp = s.roleValue .tubTemp := by
    unfold State.roleValue State.bound
    rw [chanX, routes.chan]
  have ends : s.endFill w = x.setThermostat (s.fresh .tubTemp) := by
    have skips : x.reachDosePoint w .atCirculate = x :=
      State.reachDosePoint_skips (hd.imp_right fun e => .inl (by rw [e]; nofun))
    have enters : s.endFill w = if w.setpoint = 0 then (x.reachDosePoint w .atCirculate).enterHold w false
        else (x.reachDosePoint w .atCirculate).circulateJudge w := by rw [hx]; rfl
    rw [enters, if_neg hp, skips, State.circulateJudge_below (by rw [freshX, valueX]; exact below), freshX]
  obtain ⟨-, soft, dosing, -, link, heater, -⟩ := x.setThermostat_spec (s.fresh .tubTemp)
  have acts := x.setThermostat_acts (s.fresh .tubTemp)
  rw [ends, State.setThermostat_eng headX, State.setThermostat_own _ _ (k := .circPump) nofun]
  exact ⟨by rw [engX], link.trans (linkX.trans routes.link), by rw [soft, softX]; exact given, circX, heater,
    acts.chan.trans (chanX.trans routes.chan), dosing.trans (dosingX.trans routes.dosing)⟩

theorem State.engineLevel_fill {s : State} {w : WashFields} (hr : s.runningIn .fill = true) (hw : s.washHead = some w) :
    s.engineLevel = if (w.fillTarget : Int) ≤ s.roleValue .tubLevel then s.endFill w else s := by
  unfold State.engineLevel
  rw [if_pos hr, hw]

/-- What holds of FILL (R59 to R62). -/
theorem fill_reports (s : State) (w : WashFields) (v : Nat) (hr : s.runningIn .fill = true) (hw : s.washHead = some w) :
    (s.soft.vFill < w.fillCap →
      s.engineVolume v =
        { s with
          eng.totals := { s.eng.totals with fillVolume := min 4294967295 (s.eng.totals.fillVolume + v) }
          eng.head := s.eng.head.map (fun h => { h with stallTimer := if 0 < v then 0 else h.stallTimer }) }) ∧
    (s.roleValue .tubLevel < w.fillTarget → s.engineLevel = s) ∧
    (w.setpoint ≠ 0 → (w.dose = none ∨ w.dosePoint = .atSetpoint) →
      (s.fresh .tubTemp = true → s.roleValue .tubTemp < w.setpoint) →
      (w.fillCap ≤ s.soft.vFill →
        (s.engineVolume v).link = s.link.post (s.notice .levelNotReached 3 s.headTag
          (if s.roleFreshness .tubLevel = .noData then 0 else s.roleValue .tubLevel))) ∧
      ((w.fillTarget : Int) ≤ s.roleValue .tubLevel → s.engineLevel.link = s.link) ∧
      ∀ u, (w.fillCap ≤ s.soft.vFill ∧ u = s.engineVolume v ∨
          (w.fillTarget : Int) ≤ s.roleValue .tubLevel ∧ u = s.engineLevel) →
      u.eng.head.map StageRecord.stage = some .circulate ∧
      u.eng.head.map StageRecord.thermostat = some (s.fresh .tubTemp) ∧ u.eng.state = .running ∧
      u.eng.queue = s.eng.queue ∧ u.soft.holder ≠ .fill ∧ (u.load .circPump).own = some w.speed ∧
      ((u.load .heater).own ≠ none ↔ s.fresh .tubTemp = true) ∧ u.chan = s.chan ∧ u.dosing = s.dosing) := by
  obtain ⟨x, hx, volume⟩ := State.engineVolume_eq hr hw v
  have level := State.engineLevel_fill hr hw
  obtain ⟨running, stage⟩ := (s.runningIn_iff .fill).mp hr
  obtain ⟨h, hh⟩ : ∃ h, s.eng.head = some h := by
    cases e : s.eng.head with
    | none => rw [e] at stage; exact nomatch stage
    | some h => exact ⟨h, rfl⟩
  refine ⟨fun lt => by rw [volume, if_neg (Nat.not_le.mpr lt), hx], fun lt => by rw [level, if_neg (by omega)],
    fun hp hd below => ?_⟩
  obtain ⟨y, hy⟩ : ∃ y : State, y = x.post .levelNotReached 3 s.headTag
      (if s.roleFreshness .tubLevel = .noData then 0 else s.roleValue .tubLevel) := ⟨_, rfl⟩
  have headY : y.eng.head = some { h with stallTimer := if 0 < v then 0 else h.stallTimer } := by
    rw [hy, hx]
    show s.eng.head.map _ = _
    rw [hh]
    rfl
  have rest : y.eng.state = s.eng.state ∧ y.eng.queue = s.eng.queue ∧ y.chan = s.chan ∧ y.dosing = s.dosing ∧
      y.fresh .tubTemp = s.fresh .tubTemp ∧ y.roleValue .tubTemp = s.roleValue .tubTemp ∧
      y.link = s.link.post (s.notice .levelNotReached 3 s.headTag
        (if s.roleFreshness .tubLevel = .noData then 0 else s.roleValue .tubLevel)) := by
    rw [hy, hx]; exact ⟨rfl, rfl, rfl, rfl, rfl, rfl, rfl⟩
  obtain ⟨stateY, queueY, chanY, dosingY, freshY, valueY, linkY⟩ := rest
  have capped := State.endFill_spec headY hp hd (by rw [freshY, valueY]; exact below)
  have filled := State.endFill_spec hh hp hd below
  rw [freshY] at capped
  refine ⟨fun cap => ?_, fun up => ?_, fun u hu => ?_⟩
  · obtain ⟨-, link, -⟩ := capped
    rw [volume, if_pos cap, ← hy, link, linkY]
  · obtain ⟨-, link, -⟩ := filled
    rw [level, if_pos up, link]
  · rcases hu with ⟨cap, hu⟩ | ⟨up, hu⟩
    · obtain ⟨eng, -, holder, circ, heater, chan, dosing⟩ := capped
      rw [hu, volume, if_pos cap, ← hy, eng, chan, dosing, chanY, dosingY]
      exact ⟨rfl, rfl, stateY.trans running, queueY, holder, circ, heater, rfl, rfl⟩
    · obtain ⟨eng, -, holder, circ, heater, chan, dosing⟩ := filled
      rw [hu, level, if_pos up, eng, chan, dosing]
      exact ⟨rfl, rfl, running, rfl, holder, circ, heater, rfl, rfl⟩

/-- Settles O50, by the two timeouts, by what ends FILL, and by the thermostat of CIRCULATE. -/
theorem fillAndHeatTimeouts : Obligations.FillAndHeatTimeouts := by
  unfold Obligations.FillAndHeatTimeouts
  refine ⟨fun s hs => ⟨fun stands => ?_, fun runs hp => ?_, fun stands => ?_, fun w runs hw => ?_⟩, fill_reports,
    fun s w hr hw hf => ⟨fun below => ?_, fun reached ht hd hn => ?_⟩⟩
  · have same : s.fillStall = s := if_neg (by simp [stands])
    show Host.Outcome.next s.fillStall.settle = _
    rw [same, State.settle_of_settled s hs]
  · exact ⟨s.fillStall, rfl, State.fillStall_spec runs hp⟩
  · have same : s.setpointMiss = s := by
      unfold State.setpointMiss
      split
      · rfl
      · exact if_neg (by simp [stands])
    show Host.Outcome.next s.setpointMiss.settle = _
    rw [same, State.settle_of_settled s hs]
  · exact ⟨s.setpointMiss, rfl, State.setpointMiss_spec runs hw⟩
  · have judged : s.engineTemp = s.setThermostat true := by
      unfold State.engineTemp
      rw [hw]
      dsimp only
      rw [if_pos hr, State.circulateJudge_below fun _ => below, hf]
    obtain ⟨eng, -, dosing, -, link, heater, -⟩ := s.setThermostat_spec true
    rw [judged]
    exact ⟨eng, heater.mpr rfl, link, dosing⟩
  · obtain ⟨-, stage⟩ := (s.runningIn_iff .circulate).mp hr
    obtain ⟨h, hh⟩ : ∃ h, s.eng.head = some h := by
      cases e : s.eng.head with
      | none => rw [e] at stage; exact nomatch stage
      | some h => exact ⟨h, rfl⟩
    have judged : s.engineTemp = s.enterHold w false := by
      unfold State.engineTemp
      rw [hw]
      dsimp only
      rw [if_pos hr]
      unfold State.circulateJudge
      rw [if_pos hf, if_pos reached]
    rw [hh] at hd
    obtain ⟨eng, link, heater⟩ := State.enterHold_quiet hh false ht
      (hd.imp_right fun e => .inr (Option.some.inj e)) (fun d g => nomatch hn.symm.trans g)
    obtain ⟨-, -, -, -, -, -, off⟩ :=
      (s.withHead (fun h => { h with stage := .hold, holdTimer := 0 })).setThermostat_spec false
    rw [judged]
    exact ⟨by rw [eng, hh]; rfl, heater.trans (off rfl), link⟩

end Sys2Proof.Machine
end

section
/-! ### The timers of a DRY phase (R137 to R142) -/

namespace Sys2Proof.Machine

/-! #### The next head -/

/-- What the end of a phase leaves before the next head starts (R77). -/
theorem State.completeHead_eq {s : State} {p : PhaseRecord} {rest : List PhaseRecord} (hq : s.eng.queue = p :: rest) :
    s.completeHead = { s with
      chan.flags := applyFlagMasks s.chan.flags p.setMask p.clearMask 0
      link := s.link.post (s.notice .phaseDone 5 p.tag (s.phaseValue p))
      eng := { s.eng with queue := rest, head := none }
      door := { s.door with dry := none } } := by
  unfold State.completeHead
  rw [hq]
  rfl

theorem State.completePhase_next {s : State} {p q : PhaseRecord} {more : List PhaseRecord} (hq : s.eng.queue = p :: q :: more)
    (starts : s.completeHead.startHead.2 = false) : s.completePhase = s.completeHead.startHead.1 := by
  have queue : s.completeHead.eng.queue = q :: more := by rw [State.completeHead_eq hq]
  unfold State.completePhase
  rw [hq]
  show State.finishPhase ((q :: more).length + 1) s = _
  unfold State.finishPhase
  dsimp only
  rw [queue]
  dsimp only
  rw [if_neg (by rw [starts]; nofun)]

/-- A WASH head that starts with the door not LATCHED waits for it (R134). -/
theorem State.startHead_washHeld {s : State} {p : PhaseRecord} {rest : List PhaseRecord} (hq : s.eng.queue = p :: rest)
    {w : WashFields} (hb : p.body = .wash w) (hd : s.door.state ≠ .latched) :
    s.startHead = ({ s with eng := { s.eng with
      head := some (StageRecord.start .fill 0 false), susp := s.eng.susp.put .door true, state := .suspended } }, false) := by
  unfold State.startHead
  rw [State.headRecord_of_queue hq]
  dsimp only
  rw [hb]
  dsimp only
  have held : State.judgeStartDoor { s with eng.head := some (StageRecord.start .fill 0 false) } =
      { s with eng := { s.eng with
        head := some (StageRecord.start .fill 0 false), susp := s.eng.susp.put .door true, state := .suspended } } :=
    if_neg hd
  rw [held, if_neg nofun]

/-! #### The vent timer (R142) -/

theorem applyFlagMasks_noToggle (a b c : Byte) : applyFlagMasks a b c 0 = (a ||| b) &&& ~~~c := by
  unfold applyFlagMasks
  exact BitVec.xor_zero

theorem State.dropDry_eng (s : State) : s.dropDry.eng = s.eng ∧ s.dropDry.chan = s.chan ∧ s.dropDry.soft = s.soft ∧
    s.dropDry.door = { s.door with dry := none } ∧ s.dropDry.link = s.link := by
  unfold State.dropDry
  simp

section
variable {s : State} {p : PhaseRecord} {rest : List PhaseRecord} (hq : s.eng.queue = p :: rest)
include hq

/-- A WASH record behind the DRY phase that ends (R78, R134). -/
theorem State.finishDry_wash {q : PhaseRecord} {more : List PhaseRecord} (hrest : rest = q :: more) {w : WashFields}
    (hb : q.body = .wash w) (hr : s.eng.state = .running) :
    (finishIf (s, true)).door.dry = none ∧ (finishIf (s, true)).eng.queue = rest ∧
      (finishIf (s, true)).chan = { s.chan with flags := (s.chan.flags ||| p.setMask) &&& ~~~p.clearMask } ∧
      (s.door.state = .latched →
        (finishIf (s, true)).eng.state = .running ∧ (finishIf (s, true)).soft.holder = .fill ∧
        (finishIf (s, true)).eng.head = some { StageRecord.start .fill 0 false with runMark := .resumed }) ∧
      (s.door.state ≠ .latched →
        (finishIf (s, true)).eng.state = .suspended ∧ (finishIf (s, true)).eng.susp.door = true ∧
        (finishIf (s, true)).eng.head = some (StageRecord.start .fill 0 false)) := by
  obtain ⟨eng, chan, soft, door, link⟩ := s.dropDry_eng
  obtain ⟨x, hx⟩ : ∃ x : State, x = s.dropDry := ⟨_, rfl⟩
  have finish : finishIf (s, true) = x.completePhase := by rw [hx]; rfl
  rw [← hx] at eng chan soft door link
  subst hrest
  have queue : x.eng.queue = p :: q :: more := by rw [eng, hq]
  obtain ⟨y, hy⟩ : ∃ y : State, y = x.completeHead := ⟨_, rfl⟩
  have done := State.completeHead_eq queue
  rw [← hy] at done
  have queueY : y.eng.queue = q :: more := by rw [done]
  have stateY : y.eng.state = .running := by rw [done]; exact (congrArg EngineUnit.state eng).trans hr
  have doorY : y.door.state = s.door.state := by rw [done, ← show x.door.state = s.door.state by rw [door]]
  have dryY : y.door.dry = none := by rw [done]
  have chanY : y.chan = { s.chan with flags := (s.chan.flags ||| p.setMask) &&& ~~~p.clearMask } := by
    rw [done, ← applyFlagMasks_noToggle, ← chan]
  by_cases hd : s.door.state = .latched
  · obtain ⟨starts, acts, state, queueS, -, -, wash, -, -⟩ := State.startHead_latched queueY stateY (doorY.trans hd)
    obtain ⟨head, holder, -⟩ := wash w hb
    have dry : y.startHead.1.door.dry = none := by
      unfold State.startHead
      rw [State.headRecord_of_queue queueY]
      dsimp only
      rw [hb]
      dsimp only
      have judged : State.judgeStartDoor { y with eng.head := some (StageRecord.start .fill 0 false) } =
          { y with eng.head := some (StageRecord.start .fill 0 false) } := if_pos (doorY.trans hd)
      rw [judged, if_pos stateY]
      have softens := (State.requestFillPath_spec (s := { y with eng.head := some (StageRecord.start .fill 0 false) }) rfl).1
      rw [softens.door]
      exact dryY
    have next : finishIf (s, true) = y.startHead.1 := by
      rw [finish, hy]
      exact State.completePhase_next queue (by rw [← hy]; exact starts)
    rw [next, queueS, acts.chan, chanY]
    exact ⟨dry, rfl, rfl, fun _ => ⟨state, holder, head⟩, fun e => absurd hd e⟩
  · have held := State.startHead_washHeld queueY hb (by rw [doorY]; exact hd)
    have next : finishIf (s, true) = y.startHead.1 := by
      rw [finish, hy]
      exact State.completePhase_next queue (by rw [← hy, held])
    rw [next, held]
    exact ⟨dryY, queueY, chanY, fun e => absurd e hd, fun _ => ⟨rfl, rfl, rfl⟩⟩

end

/-! #### The attempts (R139, R140) -/

section
variable {s : State} {f : DryFields} {d : DryRecord} (hf : s.dryHead = some f) (hx : s.door.dry = some d)
include hf hx

theorem State.condenseExpiry_spec (hr : s.runningIn .condense = true) :
    s.condenseExpiry.eng.head = s.eng.head.map (fun h => { h with stage := .opening }) ∧
      s.condenseExpiry.door.dry = some { d with
        condense := f.condenseMax * 10000
        attempt := 1
        attState := if (s.load .doorActuator).grant = none then .requested else .pushing
        window := 0
        rest := 0 } ∧
      (s.condenseExpiry.load .doorActuator).own = some 0 ∧ s.condenseExpiry.eng.queue = s.eng.queue ∧
      s.condenseExpiry.chan = s.chan ∧ s.condenseExpiry.link = s.link := by
  obtain ⟨x, hX⟩ : ∃ x : State, x = s.withDry (fun d => { d with condense := f.condenseMax * Config.second }) := ⟨_, rfl⟩
  have rest : x.eng = s.eng ∧ x.chan = s.chan ∧ x.link = s.link ∧ x.load = s.load ∧
      x.door.dry = some { d with condense := f.condenseMax * 10000 } := by
    rw [hX]
    refine ⟨rfl, rfl, rfl, rfl, ?_⟩
    unfold State.withDry
    rw [hx]
    rfl
  obtain ⟨engX, chanX, linkX, loadX, dryX⟩ := rest
  have opens : s.condenseExpiry = x.enterOpening := by
    unfold State.condenseExpiry
    rw [hf]
    dsimp only
    rw [if_pos hr, hX]
  obtain ⟨eng, -, -, link, own, door⟩ := x.enterOpening_spec
  rw [opens]
  exact ⟨by rw [eng, engX], by rw [door, dryX, loadX]; rfl, own, by rw [eng, engX],
    (x.enterOpening_acts).chan.trans chanX, link.trans linkX⟩

theorem State.windowExpiry_eq (hp : s.pushing = true) (hc : s.door.closed = true) :
    s.windowExpiry = finishIf (s.attemptFailed f d) := by
  unfold State.windowExpiry
  rw [hf, hx]
  exact if_pos (by simp [hp, hc])

theorem State.firstAttemptFails (hp : s.pushing = true) (hc : s.door.closed = true) (first : d.attempt ≤ 1) :
    s.windowExpiry.door.dry = some { d with attState := .resting, window := 0, rest := 0 } ∧
      (s.windowExpiry.load .doorActuator).own = none ∧ s.windowExpiry.eng = s.eng ∧ s.windowExpiry.chan = s.chan ∧
      s.windowExpiry.link = s.link := by
  obtain ⟨x, hX⟩ : ∃ x : State, x = s.release .doorActuator := ⟨_, rfl⟩
  have rest : x.eng = s.eng ∧ x.chan = s.chan ∧ x.link = s.link ∧ x.door = s.door ∧ (x.load .doorActuator).own = none := by
    rw [hX]
    exact ⟨by simp, by simp, by simp, by simp, by rw [State.release_own, if_pos rfl]⟩
  obtain ⟨eng, chan, link, door, own⟩ := rest
  have rests : s.windowExpiry = x.withDry (fun d => { d with attState := .resting, window := 0, rest := 0 }) := by
    rw [State.windowExpiry_eq hf hx hp hc]
    unfold State.attemptFailed
    dsimp only
    rw [if_pos first, hX]
    rfl
  rw [rests]
  refine ⟨?_, own, eng, chan, link⟩
  show x.door.dry.map _ = _
  rw [door, hx]
  rfl

theorem State.secondAttemptFails (hp : s.pushing = true) (hc : s.door.closed = true) (second : 1 < d.attempt)
    (vents : f.ventTime ≠ 0) :
    s.windowExpiry.eng.head = s.eng.head.map (fun h => { h with stage := .vent }) ∧
      s.windowExpiry.door.dry = some { d with openedBy := .fault, vent := 0, attState := .none, window := 0, rest := 0 } ∧
      s.windowExpiry.link = s.link.post (s.notice .doorActuatorFault 2 s.headTag 2) ∧
      (f.fan = true → (s.windowExpiry.load .fan).own = some 0) ∧ (s.windowExpiry.load .doorActuator).own = none ∧
      s.windowExpiry.eng.queue = s.eng.queue ∧ s.windowExpiry.chan = s.chan := by
  have fails : s.attemptFailed f d =
      (((s.release .doorActuator).withDry (fun d => { d with openedBy := .fault })).post .doorActuatorFault 2 s.headTag 2).enterVent
        f := by
    have tag : ((s.release .doorActuator).withDry (fun d => { d with openedBy := .fault })).headTag = s.headTag := by
      unfold State.headTag State.headRecord State.withDry
      simp
    unfold State.attemptFailed
    dsimp only
    rw [if_neg (Nat.not_le.mpr second), tag]
  obtain ⟨ends, acts, eng, door, -, -, link, own, fan⟩ :=
    s.ventAfter_spec (fun d => { d with openedBy := .fault }) .doorActuatorFault 2 s.headTag 2 f _ fails
  rw [State.windowExpiry_eq hf hx hp hc, finishIf_of_false (by rw [ends]; simp [vents])]
  exact ⟨by rw [eng], by rw [door, hx]; rfl, link, fan, own, by rw [eng], acts.chan⟩

end

theorem State.restExpiry_spec {s : State} {d : DryRecord} (hx : s.door.dry = some d) (hr : s.restRuns = true) :
    s.restExpiry.door.dry = some { d with attempt := 2, attState := .requested, rest := 0 } ∧
      (s.restExpiry.load .doorActuator).own = some 0 ∧ s.restExpiry.eng = s.eng ∧ s.restExpiry.chan = s.chan ∧
      s.restExpiry.link = s.link := by
  have again : s.restExpiry = (s.withDry (fun d => { d with attempt := 2, attState := .requested, rest := 0 })).request
      .doorActuator 0 := if_pos hr
  rw [again]
  refine ⟨?_, by rw [State.request_own, if_pos rfl], rfl, rfl, rfl⟩
  show s.door.dry.map _ = _
  rw [hx]
  rfl

/-- An event that does nothing between two events. -/
theorem next_of_same {s t : State} (hs : s.settled) (e : t = s) :
    (Host.Outcome.next t.settle : Host.Outcome State Fault Refusal) = .next s := by
  rw [e, State.settle_of_settled s hs]

/-- Settles O57, by the timer of each stage and of the attempts, and by what stands behind the DRY phase that ends. -/
theorem dryTimersMoveStages : Obligations.DryTimersMoveStages := by
  unfold Obligations.DryTimersMoveStages
  refine ⟨fun s f d hs hf hx => ⟨fun away => ?_, fun hr => ⟨_, rfl, State.condenseExpiry_spec hf hx hr⟩, fun calm => ?_,
    fun hp hc => ⟨fun first => ⟨_, rfl, State.firstAttemptFails hf hx hp hc first⟩,
      fun second vents => ⟨_, rfl, State.secondAttemptFails hf hx hp hc second vents⟩⟩,
    fun calm => ?_, fun hr => ⟨_, rfl, State.restExpiry_spec hx hr⟩⟩,
    fun s p rest f hs hq hb => ⟨fun away => ?_, fun hr => ?_⟩⟩
  · refine next_of_same hs ?_
    unfold State.condenseExpiry
    rw [hf]
    exact if_neg (by simp [away])
  · refine next_of_same hs ?_
    unfold State.windowExpiry
    rw [hf, hx]
    refine if_neg ?_
    rcases calm with e | e <;> simp [e]
  · exact next_of_same hs (if_neg (by simp [calm]))
  · exact next_of_same hs (if_neg (by simp [away]))
  · have ends : s.ventExpiry = finishIf (s, true) := if_pos hr
    have running := ((s.runningIn_iff .vent).mp hr).1
    refine ⟨finishIf (s, true), congrArg (fun x : State => Host.Outcome.next x.settle) ends, fun last => ?_,
      fun q more w hrest hw => State.finishDry_wash hq hrest hw running⟩
    subst last
    obtain ⟨eng, door, fan, -, chan, -, -, link⟩ := State.finishDry_last hq fun w e => nomatch hb.symm.trans e
    rw [eng, door, chan, applyFlagMasks_noToggle]
    exact ⟨rfl, rfl, rfl, rfl, rfl, fan, link⟩

end Sys2Proof.Machine
end

section
/-! ### The door switches and the settle timer (R130 to R142) -/

namespace Sys2Proof.Machine

theorem State.phases.openedByActuator {s t : State} (h : s.phases t) (f : DryFields) : s.phases (t.openedByActuator f).1 :=
  (((h.release .doorActuator).withDry _).post ..).enterVent f

theorem State.phases.doorDry {s t : State} (h : s.phases t) (f : DryFields) (ajar opened shut left : Bool) :
    s.phases (t.doorDry f ajar opened shut left) := by
  unfold State.doorDry
  split
  · split
    · exact .finishIf (h.openedByUser f)
    · exact h
  · split
    · split
      · exact .finishIf (h.openedByActuator f)
      · split
        · exact .finishIf (h.openedByUser f)
        · exact h
    · split
      · split
        · exact .finishIf (r := (t, true)) h
        · exact h
      · exact h

/-! #### A change of the door state -/

/-- The state in which the engine hears of a new door state (R131 to R133). -/
def State.doorMoved (s : State) (d : DoorUnit) (new : DoorState) : State :=
  { s with
    door := { d with state := new, settle := if s.door.state = .latched then none else d.settle }
    link := s.link.post (s.notice .doorChanged 6 (doorCode new) (doorCode s.door.state))
    arb.evalDue := true }

section
variable {s : State} {sw : DoorSwitch} {level : Bool}

theorem State.doorChange_same (h : s.door.reading sw = level) :
    s.doorChange sw level = { s with door := s.door.setReading sw level } := if_pos h

section
variable (h : s.door.reading sw ≠ level)
include h

theorem State.doorChange_stays {new : DoorState} (hn : new = formDoor (s.door.setReading sw level).closed
    (s.door.setReading sw level).latch s.door.state ((decide (sw = .closed) && !level) && s.pushing)) (stays : new = s.door.state) :
    s.doorChange sw level = { s with door := s.door.setReading sw level } := by
  unfold State.doorChange
  rw [if_neg h]
  exact if_pos (hn.symm.trans stays)

theorem State.doorChange_moves {new : DoorState} (hn : new = formDoor (s.door.setReading sw level).closed
    (s.door.setReading sw level).latch s.door.state ((decide (sw = .closed) && !level) && s.pushing)) (moves : new ≠ s.door.state) :
    ∃ x, x = s.doorMoved (s.door.setReading sw level) new ∧ s.doorChange sw level =
      if x.underWay then
        match x.dryHead with
        | some f => x.doorDry f ((decide (sw = .closed) && !level) && s.pushing) (decide (sw = .closed) && !level)
            (decide (sw = .closed) && level) (decide (s.door.state = .latched))
        | none => x.doorWash (decide (s.door.state = .latched))
      else x := by
  refine ⟨_, rfl, ?_⟩
  unfold State.doorChange
  rw [if_neg h]
  dsimp only
  rw [← hn, if_neg moves]
  by_cases latched : s.door.state = .latched
  · rw [latched]
    unfold State.doorMoved
    rw [latched]
    rfl
  · have left : decide (s.door.state = .latched) = false := decide_eq_false latched
    unfold State.doorMoved
    rw [left, if_neg latched]
    rfl

end
end

/-- What stands when the engine hears of a new door state. -/
theorem State.doorMoved_spec (s : State) (d : DoorUnit) (new : DoorState) :
    (s.doorMoved d new).eng = s.eng ∧ (s.doorMoved d new).chan = s.chan ∧ (s.doorMoved d new).bus = s.bus ∧
      (s.doorMoved d new).underWay = s.underWay ∧ (s.doorMoved d new).dryHead = s.dryHead ∧
      (s.doorMoved d new).headTag = s.headTag ∧ (∀ st, (s.doorMoved d new).runningIn st = s.runningIn st) ∧
      (∀ k, (s.doorMoved d new).granted k = s.granted k) ∧
      (s.doorMoved d new).link = s.link.post (s.notice .doorChanged 6 (doorCode new) (doorCode s.door.state)) ∧
      (s.doorMoved d new).door = { d with state := new, settle := if s.door.state = .latched then none else d.settle } ∧
      (∀ k l n v, (s.doorMoved d new).notice k l n v = s.notice k l n v) :=
  ⟨rfl, rfl, rfl, rfl, rfl, rfl, fun _ => rfl, fun _ => rfl, rfl, rfl, fun k l n v => State.notice_of_timeTag (by
    show (LinkUnit.post _ _).timeTag = _
    exact LinkUnit.post_timeTag ..) k l n v⟩

theorem DoorUnit.setReading_rest (d : DoorUnit) (sw : DoorSwitch) (level : Bool) :
    (d.setReading sw level).state = d.state ∧ (d.setReading sw level).settle = d.settle ∧
      (d.setReading sw level).dry = d.dry := by
  cases sw <;> exact ⟨rfl, rfl, rfl⟩

/-! #### A WASH or DRAIN head, or none (R133, R135) -/

/-- DOOR joins the suspension set of a cycle under way. -/
theorem State.addDoor_spec (s : State) :
    (s.eng.state = .running → (s.addReason .door).eng.state = .suspended ∧
      (s.addReason .door).eng.susp = { s.eng.susp with door := true } ∧
      ((s.addReason .door).load .circPump).own = none ∧ ((s.addReason .door).load .heater).own = none ∧
      ((s.addReason .door).load .drainPump).own = none) ∧
    (s.eng.state = .suspended → (s.addReason .door).eng = { s.eng with susp := { s.eng.susp with door := true } }) ∧
    (s.underWay = false → s.addReason .door = s) ∧ (s.addReason .door).eng.queue = s.eng.queue ∧
    (s.addReason .door).chan = s.chan ∧ (s.addReason .door).link = s.link ∧
    ((s.addReason .door).door.closed, (s.addReason .door).door.latch, (s.addReason .door).door.state) =
      (s.door.closed, s.door.latch, s.door.state) ∧
    (s.door.settle = none → (s.addReason .door).door.settle = none) := by
  by_cases way : s.underWay = true
  · have states : s.eng.state = .running ∨ s.eng.state = .suspended := by simpa [State.underWay] using way
    rcases states with e | e
    · rw [State.addReason_running e]
      obtain ⟨t, ht⟩ : ∃ t : State, t = { s with eng.susp := s.eng.susp.put .door true } := ⟨_, rfl⟩
      have kept := (State.phases.refl t).leaveRunning
      obtain ⟨eng, link, chan, -, -, -, own⟩ := t.leaveRunning_spec
      have rest : t.eng = { s.eng with susp := { s.eng.susp with door := true } } ∧ t.link = s.link ∧ t.chan = s.chan ∧
          t.door = s.door := by
        rw [ht]; exact ⟨rfl, rfl, rfl, rfl⟩
      obtain ⟨engT, linkT, chanT, doorT⟩ := rest
      have door := kept.door
      have settle := kept.settle
      rw [doorT] at door settle
      rw [← ht, door, eng, link, chan, engT, linkT, chanT]
      exact ⟨fun _ => ⟨rfl, rfl, own .circPump (.inr (.inl rfl)), own .heater (.inl rfl), own .drainPump (.inr (.inr (.inl rfl)))⟩,
        fun g => (nomatch e.symm.trans g), fun g => (nomatch way.symm.trans g), rfl, rfl, rfl, rfl,
        fun g => settle.elim (fun i => i.trans g) id⟩
    · rw [State.addReason_suspended e]
      exact ⟨fun g => (nomatch e.symm.trans g), fun _ => rfl, fun g => (nomatch way.symm.trans g), rfl, rfl, rfl, rfl, id⟩
  · have away := Bool.eq_false_of_not_eq_true way
    rw [State.addReason_away away]
    exact ⟨fun g => absurd (by simp [State.underWay, g]) way, fun g => absurd (by simp [State.underWay, g]) way, fun _ => rfl,
      rfl, rfl, rfl, rfl, id⟩

/-- A new door state without a DRY head. -/
theorem doorChange_wash {s : State} {sw : DoorSwitch} {level : Bool} {new : DoorState} (h : s.door.reading sw ≠ level)
    (hn : new = formDoor (s.door.setReading sw level).closed
      (s.door.setReading sw level).latch s.door.state ((decide (sw = .closed) && !level) && s.pushing)) (moves : new ≠ s.door.state)
    (noDry : s.dryHead = none) :
    (s.doorChange sw level).door.state = new ∧
      (s.doorChange sw level).door.closed = (s.door.setReading sw level).closed ∧
      (s.doorChange sw level).door.latch = (s.door.setReading sw level).latch ∧
      (s.doorChange sw level).link = s.link.post (s.notice .doorChanged 6 (doorCode new) (doorCode s.door.state)) ∧
      (s.door.state = .latched → (s.doorChange sw level).door.settle = none) ∧
      (s.eng.state = .running → s.door.state = .latched →
        (s.doorChange sw level).eng.state = .suspended ∧
        (s.doorChange sw level).eng.susp = { s.eng.susp with door := true } ∧
        ((s.doorChange sw level).load .circPump).own = none ∧ ((s.doorChange sw level).load .heater).own = none ∧
        ((s.doorChange sw level).load .drainPump).own = none) ∧
      (s.eng.state = .suspended → s.door.state = .latched →
        (s.doorChange sw level).eng = { s.eng with susp := { s.eng.susp with door := true } }) ∧
      (s.eng.state = .suspended → new = .latched → s.eng.susp.door = true → (s.doorChange sw level).door.settle = some 0) ∧
      (s.underWay = false → (s.doorChange sw level).eng = s.eng) ∧ (s.doorChange sw level).eng.queue = s.eng.queue ∧
      (s.doorChange sw level).chan = s.chan := by
  obtain ⟨x, hx, e⟩ := State.doorChange_moves h hn moves
  obtain ⟨eng, chan, -, way, dry, -, -, -, link, door, -⟩ := s.doorMoved_spec (s.door.setReading sw level) new
  rw [← hx] at eng chan way dry link door
  have wash : s.doorChange sw level = if x.underWay then x.doorWash (decide (s.door.state = .latched)) else x := by
    rw [e, dry, noDry]
  have state : x.door.state = new := by rw [door]
  have closed : x.door.closed = (s.door.setReading sw level).closed := by rw [door]
  have latch : x.door.latch = (s.door.setReading sw level).latch := by rw [door]
  by_cases latched : s.door.state = .latched
  · have settle : x.door.settle = none := by rw [door]; exact if_pos latched
    obtain ⟨running, suspended, away, queue, chanA, linkA, doorA, settleA⟩ := x.addDoor_spec
    have adds : s.doorChange sw level = x.addReason .door := by
      rw [wash, latched]
      by_cases g : x.underWay = true
      · rw [if_pos g]
        rfl
      · rw [if_neg g, away (Bool.eq_false_of_not_eq_true g)]
    simp only [Prod.mk.injEq] at doorA
    obtain ⟨closedA, latchA, stateA⟩ := doorA
    rw [adds, ← eng, ← way, ← chan]
    refine ⟨stateA.trans state, closedA.trans closed, latchA.trans latch, linkA.trans link, fun _ => settleA settle,
      fun g _ => running g, fun g _ => suspended g, fun _ g => absurd (g.trans latched.symm) moves,
      fun g => by rw [away g], queue, chanA⟩
  · have stays : s.doorChange sw level = if x.underWay = true ∧ new = .latched ∧ s.eng.susp.door = true then
        { x with door.settle := some 0 } else x := by
      rw [wash, decide_eq_false latched]
      have judged : x.doorWash false = if x.door.state = .latched ∧ x.eng.susp.door = true then
          { x with door.settle := some 0 } else x := if_neg nofun
      rw [judged, state, eng]
      by_cases g : x.underWay = true
      · rw [if_pos g]
        simp only [g, true_and]
      · rw [if_neg g, if_neg (fun i => g i.1)]
    have suspendedWay : s.eng.state = .suspended → x.underWay = true := fun g => by rw [way]; simp [State.underWay, g]
    rw [stays, ← eng, ← chan]
    split
    · exact ⟨state, closed, latch, link, fun g => absurd g latched, fun _ g => absurd g latched, fun _ g => absurd g latched,
        fun _ _ _ => rfl, fun _ => rfl, rfl, rfl⟩
    · rename_i no
      exact ⟨state, closed, latch, link, fun g => absurd g latched, fun _ g => absurd g latched, fun _ g => absurd g latched,
        fun g i j => absurd ⟨suspendedWay (by rw [← eng]; exact g), i, j⟩ no, fun _ => rfl, rfl, rfl⟩

end Sys2Proof.Machine
end

section
/-! ### Settling the door switches -/

namespace Sys2Proof.Machine

theorem State.runningIn_unique {s : State} {a b : Stage} (h : s.runningIn a = true) (g : s.runningIn b = true) : a = b := by
  rw [State.runningIn_iff] at h g
  exact Option.some.inj (h.2.symm.trans g.2)

theorem State.runningIn_other {s : State} {a b : Stage} (h : s.runningIn a = true) (hab : a ≠ b) : s.runningIn b = false :=
  Bool.eq_false_of_not_eq_true fun g => hab (State.runningIn_unique h g)

theorem State.doorMoved_pushing (s : State) (sw : DoorSwitch) (level : Bool) (new : DoorState) :
    (s.doorMoved (s.door.setReading sw level) new).pushing = s.pushing := by
  cases sw <;> rfl

/-! #### What a new door state is to a DRY head (R138 to R142) -/

section
variable {s : State} (f : DryFields) (ajar opened shut left : Bool)

theorem State.doorDry_condense (h : s.runningIn .condense = true) :
    s.doorDry f ajar opened shut left = if left then finishIf (s.openedByUser f) else s := if_pos h

theorem State.doorDry_opening (h : s.runningIn .opening = true) :
    s.doorDry f ajar opened shut left = if ajar then finishIf (s.openedByActuator f)
      else if (left || opened) && !s.pushing then finishIf (s.openedByUser f) else s := by
  unfold State.doorDry
  rw [if_neg (by rw [State.runningIn_other (b := .condense) h (by nofun)]; nofun)]
  exact if_pos h

theorem State.doorDry_vent (h : s.runningIn .vent = true) :
    s.doorDry f ajar opened shut left = if shut then finishIf (s, true) else s := by
  unfold State.doorDry
  rw [if_neg (by rw [State.runningIn_other (b := .condense) h (by nofun)]; nofun),
    if_neg (by rw [State.runningIn_other (b := .opening) h (by nofun)]; nofun)]
  exact if_pos h

theorem State.doorDry_suspended (h : s.eng.state = .suspended) : s.doorDry f ajar opened shut left = s := by
  have away : ∀ st, s.runningIn st = false := fun st => by simp [State.runningIn, h]
  unfold State.doorDry
  simp only [away, Bool.false_eq_true, if_false]

end

/-- A new door state under a DRY head. -/
theorem doorChange_dry {s : State} {sw : DoorSwitch} {level : Bool} {new : DoorState} {f : DryFields}
    (way : s.underWay = true) (hf : s.dryHead = some f) (h : s.door.reading sw ≠ level)
    (hn : new = formDoor (s.door.setReading sw level).closed
      (s.door.setReading sw level).latch s.door.state ((decide (sw = .closed) && !level) && s.pushing)) (moves : new ≠ s.door.state)
    {told : LinkUnit} (ht : told = s.link.post (s.notice .doorChanged 6 (doorCode new) (doorCode s.door.state))) {u : State}
    (hu : u = s.doorChange sw level) :
    u.door.state = new ∧ u.bus = s.bus ∧
      (s.runningIn .condense = true ∧ s.door.state ≠ .latched ∨
          s.runningIn .opening = true ∧ (decide (sw = .closed) && !level && s.pushing) = false ∧
            (s.pushing = true ∨ ¬(s.door.state = .latched ∨ sw = .closed ∧ level = false)) ∨
          s.runningIn .vent = true ∧ ¬(sw = .closed ∧ level = true) ∨ s.eng.state = .suspended →
        u.eng = s.eng ∧ u.door.dry = s.door.dry ∧ u.link = told ∧ u.chan = s.chan) ∧
      (s.runningIn .condense = true ∧ s.door.state = .latched ∨
          s.runningIn .opening = true ∧ s.pushing = false ∧ (s.door.state = .latched ∨ sw = .closed ∧ level = false) →
        f.ventTime ≠ 0 →
        u.eng.head = s.eng.head.map (fun h => { h with stage := .vent }) ∧ u.eng.queue = s.eng.queue ∧
        u.door.dry =
          s.door.dry.map (fun x => { x with openedBy := .user, vent := 0, attState := .none, window := 0, rest := 0 }) ∧
        (u.load .doorActuator).own = none ∧ (f.fan = true → (u.load .fan).own = some 0) ∧
        u.link = told.post (s.notice .dryOpened 5 s.headTag 0) ∧ u.chan = s.chan) ∧
      (∀ x, (decide (sw = .closed) && !level && s.pushing) = true → f.ventTime ≠ 0 → s.door.dry = some x →
        u.eng.head = s.eng.head.map (fun h => { h with stage := .vent }) ∧ u.eng.queue = s.eng.queue ∧
        u.door.dry = some { x with openedBy := .actuator, vent := 0, attState := .none, window := 0, rest := 0 } ∧
        (u.load .doorActuator).own = none ∧ (f.fan = true → (u.load .fan).own = some 0) ∧
        u.link = told.post (s.notice .dryOpened 5 s.headTag x.attempt) ∧ u.chan = s.chan) ∧
      (∀ p, s.runningIn .vent = true → (sw = .closed ∧ level = true) → s.eng.queue = [p] →
        u.eng.state = .idle ∧ u.eng.queue = [] ∧ u.door.dry = none ∧ (u.load .fan).own = none ∧
        u.chan = { s.chan with flags := (s.chan.flags ||| p.setMask) &&& ~~~p.clearMask } ∧
        u.link = (told.post (s.notice .phaseDone 5 p.tag 0)).post (s.notice .cycleDone 4 p.tag s.eng.totals.clock)) := by
  obtain ⟨x, hx, e⟩ := State.doorChange_moves h hn moves
  have pushing : x.pushing = s.pushing := by rw [hx]; exact s.doorMoved_pushing sw level new
  obtain ⟨eng, chan, bus, wayX, dryX, tag, running, -, link, door, notice⟩ :=
    s.doorMoved_spec (s.door.setReading sw level) new
  rw [← hx] at eng chan bus wayX dryX tag running link door notice
  rw [← ht] at link
  have dry : x.door.dry = s.door.dry := by rw [door]; exact (s.door.setReading_rest sw level).2.2
  have judged : u = x.doorDry f ((decide (sw = .closed) && !level) && s.pushing) (decide (sw = .closed) && !level)
      (decide (sw = .closed) && level) (decide (s.door.state = .latched)) := by
    rw [hu, e, if_pos (wayX.trans way), dryX, hf]
  have kept := (State.phases.refl x).doorDry f ((decide (sw = .closed) && !level) && s.pushing) (decide (sw = .closed) && !level)
    (decide (sw = .closed) && level) (decide (s.door.state = .latched))
  rw [← judged] at kept
  have state : u.door.state = new := by
    have same := kept.door
    simp only [Prod.mk.injEq] at same
    rw [same.2.2, door]
  refine ⟨state, kept.bus.trans bus, fun calm => ?_, fun opens vents => ?_, fun d ajar vents hd => ?_, fun p vent shut hq => ?_⟩
  · have same : u = x := by
      rw [judged]
      rcases calm with ⟨hc, off⟩ | ⟨ho, notAjar, no⟩ | ⟨hv, no⟩ | hs
      · rw [State.doorDry_condense f _ _ _ _ ((running _).trans hc), decide_eq_false off]
        rfl
      · rw [State.doorDry_opening f _ _ _ _ ((running _).trans ho), notAjar, pushing]
        refine (if_neg nofun).trans (if_neg ?_)
        rcases no with g | g
        · simp [g]
        · simp only [not_or, not_and, Bool.not_eq_false] at g
          obtain ⟨off, closed⟩ := g
          by_cases hsw : sw = .closed
          · simp [off, closed hsw]
          · simp [off, hsw]
      · rw [State.doorDry_vent f _ _ _ _ ((running _).trans hv)]
        exact if_neg (by simpa using no)
      · exact State.doorDry_suspended f _ _ _ _ (by rw [eng]; exact hs)
    rw [same]
    exact ⟨eng, dry, link, chan⟩
  · have byUser : u = finishIf (x.openedByUser f) := by
      rw [judged]
      rcases opens with ⟨hc, latched⟩ | ⟨ho, free, user⟩
      · rw [State.doorDry_condense f _ _ _ _ ((running _).trans hc), decide_eq_true latched]
        rfl
      · rw [State.doorDry_opening f _ _ _ _ ((running _).trans ho), free, pushing, free, Bool.and_false]
        refine (if_neg nofun).trans (if_pos ?_)
        rcases user with g | ⟨hsw, hl⟩
        · simp [g]
        · simp [hsw, hl]
    obtain ⟨ends, acts, engU, doorU, -, -, linkU, actuator, fan⟩ := x.openedByUser_spec f
    rw [byUser, finishIf_of_false (by rw [ends]; simp [vents])]
    exact ⟨by rw [engU, eng], by rw [engU, eng], by rw [doorU, dry], actuator, fan, by rw [linkU, link, tag, notice],
      acts.chan.trans chan⟩
  · have pushes : s.pushing = true := (Bool.and_eq_true_iff.mp ajar).2
    have opening : s.runningIn .opening = true := by
      unfold State.pushing at pushes
      simp only [Bool.and_eq_true] at pushes
      exact pushes.1.1
    have byActuator : u = finishIf (x.openedByActuator f) := by
      rw [judged, State.doorDry_opening f _ _ _ _ ((running _).trans opening), ajar]
      rfl
    obtain ⟨ends, acts, engU, doorU, -, -, linkU, actuator, fan⟩ := x.openedByActuator_spec f (dry.trans hd)
    rw [byActuator, finishIf_of_false (by rw [ends]; simp [vents])]
    exact ⟨by rw [engU, eng], by rw [engU, eng], by rw [doorU, dry, hd]; rfl, actuator, fan, by rw [linkU, link, tag, notice],
      acts.chan.trans chan⟩
  · have ends : u = finishIf (x, true) := by
      rw [judged, State.doorDry_vent f _ _ _ _ ((running _).trans vent)]
      exact if_pos (by simp [shut])
    have notWash : ∀ w, p.body ≠ .wash w := fun w hb => by
      have noDry := (State.heads_of_wash hq hb).2.1
      exact nomatch hf.symm.trans noDry
    obtain ⟨engU, doorU, fan, -, chanU, -, -, linkU⟩ := State.finishDry_last (s := x) (by rw [eng]; exact hq) notWash
    rw [ends, engU, doorU, chanU, linkU, link, notice, notice, eng, chan, applyFlagMasks_noToggle]
    exact ⟨rfl, rfl, rfl, fan, rfl, rfl⟩

/-! #### The settle timer (R135) -/

theorem State.settleExpiry_spec {s : State} (h : s.door.settle ≠ none) {x : State}
    (hx : x = { s with door.settle := none, eng.susp := { s.eng.susp with door := false } }) :
    s.settleExpiry = x.returnIfFree ∧ x.returnIfFree.door.settle = none ∧ x.returnIfFree.bus = s.bus ∧
      (x.eng.susp.isEmpty = false → x.returnIfFree = x) ∧
      (∀ h w, s.eng.state = .suspended → x.eng.susp.isEmpty = true → s.eng.head = some h → h.stage = .fill →
        s.washHead = some w → s.dosing.dose = none →
        x.returnIfFree.eng.state = .running ∧ x.returnIfFree.eng.susp = .empty ∧ x.returnIfFree.soft.holder = .fill ∧
        x.returnIfFree.eng.head = some { h with runMark := .resumed } ∧ x.returnIfFree.eng.queue = s.eng.queue) := by
  have kept := (State.phases.refl x).returnIfFree
  have rest : x.door.settle = none ∧ x.bus = s.bus ∧ x.eng.state = s.eng.state ∧ x.eng.head = s.eng.head ∧
      x.eng.queue = s.eng.queue ∧ x.washHead = s.washHead ∧ x.dosing = s.dosing := by
    rw [hx]; exact ⟨rfl, rfl, rfl, rfl, rfl, rfl, rfl⟩
  obtain ⟨settle, bus, state, head, queue, wash, dosing⟩ := rest
  refine ⟨?_, kept.settle.elim (fun e => e.trans settle) id, kept.bus.trans bus, fun held => State.returnIfFree_of_held (.inr held),
    fun r w hs he hh hst hw hn => ?_⟩
  · rw [hx]
    exact if_pos (Option.isSome_iff_ne_none.mpr h)
  · obtain ⟨eng, holder⟩ := State.return_fill (state.trans hs) he (by rw [dosing]; exact hn) (head.trans hh) hst (wash.trans hw)
    rw [eng]
    exact ⟨rfl, SuspSet.eq_empty he, holder, rfl, queue⟩

/-- Settles O56, by the reading, by the kind of head that hears of the door, and by the settle timer. -/
theorem doorSwitchesAndSettling : Obligations.DoorSwitchesAndSettling := by
  unfold Obligations.DoorSwitchesAndSettling
  refine ⟨fun s sw level hs free => ⟨fun same => ?_, fun h stays => ?_, fun h moves noDry => ?_⟩,
    fun s sw level f hs way hf h => ?_, fun s hs => ⟨fun none => ?_, fun runs => ?_⟩⟩
  · show Host.Outcome.next (s.doorChange sw level).settle = _
    rw [State.doorChange_same same, State.settle_of_settled { s with door := s.door.setReading sw level } hs]
  · show Host.Outcome.next (s.doorChange sw level).settle = _
    rw [State.doorChange_stays h (by rw [free]; simp [formDoor]) stays,
      State.settle_of_settled { s with door := s.door.setReading sw level } hs]
  · exact ⟨_, rfl, doorChange_wash h (by rw [free]; simp [formDoor]) moves noDry⟩
  · intro d ajar new told user shut moves
    have formed : new = formDoor (s.door.setReading sw level).closed (s.door.setReading sw level).latch s.door.state
        ((decide (sw = .closed) && !level) && s.pushing) := by simp [new, formDoor, d, ajar]
    exact ⟨_, rfl, doorChange_dry way hf h formed moves rfl rfl⟩
  · exact next_of_same hs (if_neg (by simp [none]))
  · obtain ⟨e, settle, bus, held, fill⟩ := State.settleExpiry_spec runs rfl
    exact ⟨_, congrArg (fun x : State => Host.Outcome.next x.settle) e, settle, rfl, held, fill, bus⟩

end Sys2Proof.Machine
end

section
/-! ### The sump bus: a due entry, and the bytes of a response (R25, R30 to R32) -/

namespace Sys2Proof.Machine

/-- A free bus takes the lowest entry of the due set (R31). -/
theorem State.takeIfFree_lowest {s : State} {i : Fin 16} (mode : s.link.mode ≠ .standby) (free : s.bus.tx = none)
    (due : s.bus.run[i].inDueSet = true) (least : ∀ j : Fin 16, j < i → s.bus.run[j].inDueSet = false) :
    s.takeIfFree = s.take i := by
  rcases s.takeIfFree_cases with ⟨why, -⟩ | ⟨k, -, -, taken, lowest, e⟩
  · rcases why with off | busy | nobody
    · exact absurd (of_decide_eq_false off) (fun h => h mode)
    · exact absurd free busy
    · exact nomatch due.symm.trans (nobody i)
  · have same : k = i := by
      rcases Nat.lt_trichotomy k.val i.val with hlt | heq | hgt
      · exact nomatch taken.symm.trans (least k hlt)
      · exact Fin.ext heq
      · exact nomatch due.symm.trans (lowest i hgt)
    rw [e, same]

/-- A bus in use, or a due set that is empty, takes nothing (R31). -/
theorem State.takeIfFree_waits {s : State}
    (h : s.link.mode = .standby ∨ s.bus.tx ≠ none ∨ ∀ i : Fin 16, s.bus.run[i].inDueSet = false) : s.takeIfFree = s := by
  rcases s.takeIfFree_cases with ⟨-, e⟩ | ⟨k, on, free, taken, -, -⟩
  · exact e
  · rcases h with off | busy | nobody
    · exact absurd off (of_decide_eq_true on)
    · exact absurd free busy
    · exact nomatch taken.symm.trans (nobody k)

theorem State.pollDue_joins {s : State} {i : Fin 16} (mode : s.link.mode ≠ .standby) (on : s.bus.poll[i].enabled = true)
    (due : s.bus.run[i].due ≠ none) :
    s.pollDue i = (s.withPoll i (fun r => { r with due := none, inDueSet := true })).takeIfFree :=
  if_pos (by
    have polling : s.polling = true := decide_eq_true mode
    rw [polling, on, Option.isSome_iff_ne_none.mpr due]
    rfl)

theorem State.pollDue_void {s : State} {i : Fin 16}
    (h : s.link.mode = .standby ∨ s.bus.poll[i].enabled = false ∨ s.bus.run[i].due = none) : s.pollDue i = s :=
  if_neg (by
    simp only [State.polling, Bool.and_eq_true, decide_eq_true_eq]
    rintro ⟨⟨mode, on⟩, due⟩
    rcases h with e | e | e
    · exact mode e
    · exact nomatch on.symm.trans e
    · rw [e] at due
      exact nomatch due)

/-- An entry that becomes due on a free bus is taken at once where none before it is in the due set (R30, R31). -/
theorem State.pollDue_taken {s : State} {i : Fin 16} (mode : s.link.mode ≠ .standby) (on : s.bus.poll[i].enabled = true)
    (due : s.bus.run[i].due ≠ none) (free : s.bus.tx = none) (least : ∀ j : Fin 16, j < i → s.bus.run[j].inDueSet = false) :
    s.pollDue i = (s.withPoll i (fun r => { r with due := none, inDueSet := true })).take i := by
  have run := fun j => State.withPoll_run s i j (fun r => { r with due := none, inDueSet := true })
  rw [State.pollDue_joins mode on due]
  refine State.takeIfFree_lowest mode free ?_ fun j hj => ?_
  · rw [run, if_pos rfl]
  · rw [run, if_neg (Fin.ne_of_lt hj)]
    exact least j hj

/-! #### The receiver of the sump bus -/

/-- No byte follows the one that ends reception (R25). -/
theorem endsReception_last {heard more : List Byte} (h : endsReception heard = true)
    (g : endsReception (heard ++ more) = true) : more = [] := by
  rcases heard with _ | ⟨a, _ | ⟨b, _ | ⟨len, rest⟩⟩⟩
  iterate 3 exact nomatch h
  simp only [endsReception, List.cons_append] at h g
  split at h
  next big =>
    rw [if_pos big] at g
    exact (List.append_eq_nil_iff.mp (List.isEmpty_iff.mp g)).2
  next fits =>
    rw [if_neg fits] at g
    have e := (of_decide_eq_true h).trans (of_decide_eq_true g).symm
    rw [List.length_append] at e
    exact List.eq_nil_of_length_eq_zero (by omega)

theorem State.sumpListening_iff (s : State) :
    s.sumpListening = true ↔ (∃ x, s.bus.tx = some x ∧ x.waiting = true) ∧ s.pending.any endsAttempt = false := by
  unfold State.sumpListening
  cases e : s.bus.tx <;> simp

/-- A byte that comes in time is taken by the receiver (R25). -/
theorem State.hearSump_inTime {s : State} (listens : s.sumpListening = true)
    (soon : s.bus.heard = [] ∨ s.bus.byteTimer ≤ 10) (b : Byte) :
    s.hearSump b =
      { s with
        bus.heard := (sumpReceive s.bus.heard b).1
        bus.byteTimer := 0
        pending := s.pending ++ ((sumpReceive s.bus.heard b).2.map (fun f => Instr.sumpFrameEnd f.tail)).toList } := by
  have kept : s.dropSumpLate = s := if_pos (by
    rcases soon with e | e
    · rw [e]; rfl
    · rw [Bool.or_eq_true]
      exact .inr (decide_eq_true e))
  unfold State.hearSump
  rw [if_pos listens, kept]

/-- A byte that comes too late finds the partial frame discarded, and is a first byte (R25). -/
theorem State.hearSump_late {s : State} (listens : s.sumpListening = true) (some : s.bus.heard ≠ [])
    (late : 10 < s.bus.byteTimer) (b : Byte) :
    s.hearSump b =
      { s with
        bus.heard := if b = 0xC3 then [b] else []
        bus.byteTimer := 0
        pending := s.pending.filter (fun c => decide (c ≠ .sumpByteGap s.bus.heard)) } := by
  have dropped : s.dropSumpLate =
      { s with bus.heard := [], pending := s.pending.filter (fun c => decide (c ≠ .sumpByteGap s.bus.heard)) } :=
    if_neg (by
      rw [Bool.or_eq_true, List.isEmpty_iff]
      exact fun h => h.elim some fun e => absurd (of_decide_eq_true e) (Nat.not_le.mpr late))
  unfold State.hearSump
  rw [if_pos listens, dropped]
  simp [sumpReceive, assemble]

theorem sumpReceive_hunting {b : Byte} (h : b ≠ 0xC3) : sumpReceive [] b = ([], none) := assemble_hunting _ _ _ h

/-- Bytes without SYNC are dropped, and SYNC begins a frame (R25). -/
theorem State.hearSump_noise {noise : List Byte} {s : State} (listens : s.sumpListening = true) (hunts : s.bus.heard = [])
    (h : (0xC3 : Byte) ∉ noise) :
    (noise ++ [0xC3]).foldl State.hearSump s = { s with bus.heard := [0xC3], bus.byteTimer := 0 } := by
  induction noise generalizing s with
  | nil =>
    rw [List.nil_append, List.foldl_cons, List.foldl_nil, State.hearSump_inTime listens (.inl hunts), hunts]
    simp [sumpReceive, assemble]
  | cons b noise ih =>
    rw [List.mem_cons, not_or] at h
    obtain ⟨hb, hn⟩ := h
    have dropped : s.hearSump b = { s with bus.heard := [], bus.byteTimer := 0 } := by
      rw [State.hearSump_inTime listens (.inl hunts), hunts]
      simp [sumpReceive_hunting (Ne.symm hb)]
    rw [List.cons_append, List.foldl_cons, dropped, ih (s := { s with bus.heard := [], bus.byteTimer := 0 }) listens rfl hn]

theorem sumpReceive_heard (part : List Byte) (b : Byte) :
    sumpReceive (0xC3 :: part) b =
      if endsReception (part ++ [b]) then ([], some (0xC3 :: (part ++ [b]))) else (0xC3 :: (part ++ [b]), none) :=
  assemble_heard _ _ _ _ (List.cons_ne_nil _ _)

/-- The rest of a frame is heard to its end, which joins the queue (R25). -/
theorem State.hearSump_frame {rest : List Byte} {s : State} {part : List Byte} (listens : s.sumpListening = true)
    (heard : s.bus.heard = 0xC3 :: part) (soon : s.bus.byteTimer ≤ 10) (ends : endsReception (part ++ rest) = true)
    (more : rest ≠ []) :
    rest.foldl State.hearSump s =
      { s with bus.heard := [], bus.byteTimer := 0, pending := s.pending ++ [.sumpFrameEnd (part ++ rest)] } := by
  induction rest generalizing s part with
  | nil => exact absurd rfl more
  | cons b rest ih =>
    rw [List.foldl_cons, State.hearSump_inTime listens (.inr soon), heard, sumpReceive_heard]
    by_cases last : rest = []
    · subst last
      rw [if_pos ends]
      rfl
    · have on : endsReception (part ++ [b]) = false := Bool.eq_false_of_not_eq_true fun g =>
        last (endsReception_last g (by simpa using ends))
      rw [if_neg (by rw [on]; exact Bool.false_ne_true)]
      have tail := ih (s := { s with
        bus.heard := 0xC3 :: (part ++ [b]), bus.byteTimer := 0, pending := s.pending ++ [] }) (part := part ++ [b])
        (by simpa [State.sumpListening] using listens) rfl (Nat.zero_le _) (by simpa using ends) last
      refine Eq.trans tail ?_
      simp

/-- Settles O47, by what each of the two commands does to the bus and by the bytes of a response one after another. -/
theorem pollingTakesEntries : Obligations.PollingTakesEntries := by
  unfold Obligations.PollingTakesEntries
  refine ⟨fun s i => ⟨fun h => congrArg Host.Outcome.next (State.pollDue_void h), fun mode on due => ⟨fun busy => ?_,
      fun free least => ?_⟩, fun x hx hw => ?_⟩,
    fun s x noise frame hx hw hp hunts hn ends => ?_, fun s x b hx hw hp hh late => ?_, fun s b h => ?_⟩
  · refine congrArg Host.Outcome.next ((State.pollDue_joins mode on due).trans ?_)
    exact State.takeIfFree_waits (.inr (.inl busy))
  · have joined := fun j => State.withPoll_run s i j (fun r => { r with due := none, inDueSet := true })
    have taken := fun j => State.withPoll_run (s.withPoll i (fun r => { r with due := none, inDueSet := true })) i j
      (fun r => { r with inDueSet := false, due := some (s.now + s.bus.poll[i].interval * Config.msec) })
    refine ⟨_, congrArg Host.Outcome.next (State.pollDue_taken mode on due free least), ?_, ?_, ?_, fun j hj => ?_, rfl, rfl, rfl⟩
    · exact (congrArg PollRun.inDueSet ((taken i).trans (if_pos rfl)) :)
    · exact (congrArg PollRun.due ((taken i).trans (if_pos rfl)) :)
    · refine (congrArg PollRun.outcome ((taken i).trans (if_pos rfl))).trans ?_
      exact (congrArg PollRun.outcome ((joined i).trans (if_pos rfl)) :)
    · exact ((taken j).trans (if_neg hj)).trans ((joined j).trans (if_neg hj))
  · show Host.Outcome.next s.pollSent = _
    unfold State.pollSent
    simp only [hx, hw, Bool.false_eq_true, if_false]
    rfl
  · have listens : s.sumpListening = true := s.sumpListening_iff.mpr ⟨⟨x, hx, hw⟩, hp⟩
    have more : frame ≠ [] := fun e => by rw [e] at ends; exact nomatch ends
    rw [← List.singleton_append, ← List.append_assoc, List.foldl_append, State.hearSump_noise listens hunts hn,
      State.hearSump_frame (s := { s with bus.heard := [0xC3], bus.byteTimer := 0 }) (part := []) listens rfl (Nat.zero_le _)
        ends more]
    have same : ({ s.bus with heard := [], byteTimer := 0 } : BusUnit) = { s.bus with byteTimer := 0 } := by rw [← hunts]
    exact congrArg (fun bus : BusUnit => { s with bus := bus, pending := s.pending ++ [Instr.sumpFrameEnd frame] }) same
  · exact State.hearSump_late (s.sumpListening_iff.mpr ⟨⟨x, hx, hw⟩, hp⟩) hh late b
  · refine if_neg fun listens => ?_
    obtain ⟨⟨x, hx, hw⟩, -⟩ := s.sumpListening_iff.mp listens
    exact nomatch hw.symm.trans (h x hx)

end Sys2Proof.Machine
end

section
/-! ### A selector whose flip has arrived already when its pulse ends (R89, R91, R104, R105)

The end of a route pulse serves a fill that waits, and the flip judged then may be at its target already: COLUMN_SWITCHED is
followed by REGEN_SALT_LOW in one event. The evaluations at the end of an event post neither of the two. -/

namespace Sys2Proof.Machine

/-- A notice of a switch of the columns or of a regeneration with little salt. -/
def Notice.ofColumns (n : Notice) : Bool := decide (n.kind = .columnSwitched) || decide (n.kind = .regenSaltLow)

/-- How many notices of the columns wait. -/
def LinkUnit.columnNews (l : LinkUnit) : Nat := l.notices.countP Notice.ofColumns

theorem LinkUnit.columnNews_post (l : LinkUnit) (n : Notice) (h : n.ofColumns = false) :
    (l.post n).columnNews ≤ l.columnNews := by
  unfold LinkUnit.post LinkUnit.columnNews LinkUnit.judgeAttn
  split
  · simp [List.countP_append, h]
  · split
    · rename_i k _
      simp only [List.countP_append, List.countP_singleton, h, Bool.false_eq_true, if_false, Nat.add_zero]
      exact (List.eraseIdx_sublist ..).countP_le
    · exact Nat.le_refl _

theorem LinkUnit.columnNews_posts {ns : List Notice} (h : ∀ n ∈ ns, n.ofColumns = false) (l : LinkUnit) :
    (ns.foldl LinkUnit.post l).columnNews ≤ l.columnNews := by
  induction ns generalizing l with
  | nil => exact Nat.le_refl _
  | cons n ns ih =>
    exact (ih (fun m hm => h m (List.mem_cons_of_mem _ hm)) _).trans (l.columnNews_post n (h n List.mem_cons_self))

/-- No more notices of the columns wait in the second state. -/
structure State.noColumnNews (s t : State) : Prop where
  fewer : t.link.columnNews ≤ s.link.columnNews

namespace State.noColumnNews

variable {s t u : State}

theorem of_link (h : t.link = s.link) : s.noColumnNews t := ⟨Nat.le_of_eq (congrArg LinkUnit.columnNews h)⟩

theorem refl (s : State) : s.noColumnNews s := ⟨Nat.le_refl _⟩

theorem trans (h : s.noColumnNews t) (g : t.noColumnNews u) : s.noColumnNews u := ⟨Nat.le_trans g.fewer h.fewer⟩

theorem post (s : State) {k : NoticeKind} {l n : Nat} {v : Int} (h : (s.notice k l n v).ofColumns = false) :
    s.noColumnNews (s.post k l n v) := ⟨LinkUnit.columnNews_post _ _ h⟩

theorem of_post {n : Notice} (h : t.link = s.link.post n) (plain : n.ofColumns = false) : s.noColumnNews t :=
  ⟨by rw [h]; exact LinkUnit.columnNews_post _ _ plain⟩

theorem foldl {α : Type} {f : State → α → State} (hf : ∀ (t : State) (a : α), t.noColumnNews (f t a)) (l : List α) (s : State) :
    s.noColumnNews (l.foldl f s) := by
  induction l generalizing s with
  | nil => exact of_link rfl
  | cons a l ih => exact (hf s a).trans (ih _)

theorem integrityError (s : State) (t : TableId) (b : Option Bank) (i : Nat) : s.noColumnNews (s.integrityError t b i) := by
  cases h : s.trip.integrity with
  | none =>
    rw [State.integrityError_of_none h]
    exact of_post rfl rfl
  | some e =>
    rw [State.integrityError_of_some h]
    split <;> exact of_link rfl

theorem useProfile (s : State) (p : ProfileId) : s.noColumnNews (s.useProfile p) := by
  unfold State.useProfile
  split
  · exact of_link rfl
  · have told := integrityError s .profile none (profileCode p)
    have marked : (s.integrityError .profile none (profileCode p)).noColumnNews _ := of_link (State.setFaulted_link _ p true)
    exact told.trans (marked.trans ((post _ rfl).trans (of_link (State.profileChanged_link _ p))))

/-! #### The passes of an evaluation -/

theorem withdraw (s : State) (l : LoadId) : s.noColumnNews (s.withdraw l) := by
  unfold State.withdraw
  split <;> exact of_link rfl

theorem recheck (s : State) (l : LoadId) : s.noColumnNews (s.recheck l) := by
  unfold State.recheck
  split
  · exact withdraw s l
  · exact of_link rfl

theorem budgetCut (n : Nat) (s : State) : s.noColumnNews (State.budgetCut n s) := by
  induction n generalizing s with
  | zero => exact of_link rfl
  | succ n ih =>
    unfold State.budgetCut
    split
    · split
      · exact of_link rfl
      · exact (withdraw s _).trans (ih _)
    · exact of_link rfl

theorem shed (c : LoadId) (need n : Nat) (s : State) : s.noColumnNews (State.shed c need n s) := by
  induction n generalizing s with
  | zero => exact of_link rfl
  | succ n ih =>
    unfold State.shed
    split
    · exact of_link rfl
    · split
      · exact of_link rfl
      · exact ((withdraw s _).trans (post (s.withdraw _) rfl)).trans (ih _)

theorem turn (s : State) (l : LoadId) : s.noColumnNews (s.turn l) := by
  rcases s.turn_cases l with h | ⟨-, -, t, g, h, -, -, rfl | ⟨need, rfl⟩⟩
  · rw [h]
    exact of_link rfl
  · rw [h]
    exact of_link rfl
  · rw [h]
    exact (shed l need 11 s).trans (of_link rfl)

theorem upgrade (s : State) : s.noColumnNews s.upgrade := by
  unfold State.upgrade
  dsimp only
  split
  · exact of_link rfl
  · exact of_link rfl

theorem placing (s : State) : s.noColumnNews s.placing := by
  have rechecked : s.noColumnNews s.passOne := (foldl recheck _ s).trans (recheck _ _)
  have cut : s.noColumnNews (State.budgetCut 11 s.passOne) := rechecked.trans (budgetCut 11 _)
  have granted : s.noColumnNews (State.budgetCut 11 s.passOne).grantPass :=
    State.grantPass_induct (p := fun t => s.noColumnNews t) (fun t l h => h.trans (turn t l)) _ cut
  exact granted.trans (upgrade _)

theorem passes (s : State) : s.noColumnNews s.passes := by
  have heater : s.noColumnNews s.checkHeater := by
    unfold State.checkHeater
    split
    · exact useProfile s _
    · exact of_link rfl
  have entries : ∀ t : State, t.noColumnNews t.checkEntries := fun t => by
    unfold State.checkEntries
    refine foldl (fun t l => ?_) _ _
    split
    · exact integrityError t ..
    · exact of_link rfl
  have causes : ∀ t : State, t.noColumnNews t.setCauses := fun t => by
    unfold State.setCauses
    refine foldl (fun u l => ?_) _ _
    exact of_link rfl
  have placed := heater.trans ((entries _).trans ((placing _).trans (causes _)))
  rw [State.passes_eq]
  generalize s.checkHeater.checkEntries.placing.setCauses = t at placed
  exact placed.trans (of_link rfl)

/-! #### The causes of a trip and the owners' answers -/

theorem setLatch (s : State) (c : Cause) : s.noColumnNews (s.setLatch c) := by
  obtain ⟨u, ns, ended, perm, e⟩ := s.setLatch_spec c
  have link : (s.setLatch c).link = ns.foldl LinkUnit.post s.link :=
    (congrArg (fun x : State => x.link) e :).trans (congrArg (ns.foldl LinkUnit.post) ended.link)
  have plain : ∀ n ∈ ns, n.ofColumns = false := fun n hn => by
    have mem := perm.mem_iff.mp hn
    unfold State.tripNotices State.abortNotice State.shortNotice at mem
    rcases List.mem_cons.mp mem with rfl | mem
    · rfl
    · rcases List.mem_append.mp mem with mem | mem
      · split at mem
        · exact nomatch mem
        · rw [List.mem_singleton.mp mem]
          rfl
      · split at mem
        · exact nomatch mem
        · rw [List.mem_singleton.mp mem]
          rfl
  exact ⟨by rw [link]; exact LinkUnit.columnNews_posts plain _⟩

theorem tripCause (s : State) (c : Cause) : s.noColumnNews (s.tripCause c) := by
  by_cases mode : s.link.mode = .standby
  · rw [State.tripCause_standby mode]
    split <;> exact of_link rfl
  · cases latch : s.trip.latch with
    | true =>
      rw [State.tripCause_again mode latch]
      exact of_link rfl
    | false =>
      rw [State.tripCause_first mode latch]
      exact State.noColumnNews.trans (t := { s with
        trip.flowQuiet := if c.reason = .inletFlow then some 0 else s.trip.flowQuiet }) (of_link rfl) (setLatch _ c)

theorem tableTrip (s : State) (l : LoadId) : s.noColumnNews (s.tableTrip l) := by
  unfold State.tableTrip
  split
  · exact tripCause s _
  · exact of_link rfl

theorem judgeRoleNow (s : State) (r : Role) : s.noColumnNews (s.judgeRoleNow r) := by
  unfold State.judgeRoleNow
  split
  · exact tripCause s _
  · exact of_link rfl

theorem firstGrant (s before : State) : s.noColumnNews (s.firstGrant before) := by
  unfold State.firstGrant
  split
  · exact (judgeRoleNow s _).trans (judgeRoleNow _ _)
  · exact of_link rfl

theorem dosingReport (s : State) (r : Reservoir) : s.noColumnNews (s.dosingReport r) := by
  rcases s.dosingReport_cases r with ⟨e, -⟩ | ⟨d, -, -, -, ⟨-, e⟩ | ⟨-, e⟩⟩
  · rw [e]
    exact of_link rfl
  · rw [e]
    rcases s.startStroke_cases d with ⟨-, -, e⟩ | ⟨-, e⟩
    · rw [e]
      exact of_post (s.doseEmpty_spec _ _).2.2 rfl
    · rw [e]
      exact of_link rfl
  · rw [e]
    exact of_link rfl

theorem softenerReport (s : State) (l : LoadId) : s.noColumnNews (s.softenerReport l) := by
  unfold State.softenerReport
  split
  · split <;> exact of_link rfl
  · split
    · split
      · split
        · exact of_link rfl
        · exact of_link (s.release_link _)
      · exact of_link rfl
    · exact of_link rfl
  · split
    · exact of_link rfl
    · split
      · exact of_link rfl
      · dsimp only
        split <;> exact of_link rfl
  · exact of_link rfl

theorem engineInlet (s : State) : s.noColumnNews s.engineInlet := by
  unfold State.engineInlet
  split <;> exact of_link rfl

theorem actuatorReport (s : State) : s.noColumnNews s.actuatorReport := by
  unfold State.actuatorReport
  split
  · split
    · split <;> exact of_link rfl
    · split <;> exact of_link rfl
  · exact of_link rfl

theorem ownerReport (s : State) (l : LoadId) : s.noColumnNews (s.ownerReport l) := by
  cases l
  case doseDet => exact dosingReport s .det
  case doseRinse => exact dosingReport s .rinse
  case inletValve => exact (softenerReport s .inletValve).trans (engineInlet _)
  case routeValve => exact softenerReport s .routeValve
  case selectorValve => exact softenerReport s .selectorValve
  case brineValve => exact softenerReport s .brineValve
  case doorActuator => exact actuatorReport s
  all_goals exact of_link rfl

theorem dropReleased (s : State) : s.noColumnNews s.dropReleased :=
  of_link (congrArg (fun x : State => x.link) s.dropReleased_besideLoads :)

theorem round (s : State) : s.noColumnNews s.round := by
  have told : s.noColumnNews (((s.dropReleased.passes.tableTrip .drainPump).tableTrip .inletValve).firstGrant s.dropReleased) :=
    ((((dropReleased s).trans (passes _)).trans (tableTrip _ .drainPump)).trans (tableTrip _ .inletValve)).trans
      (firstGrant _ _)
  unfold State.round
  dsimp only
  exact told.trans (foldl ownerReport _ _)

theorem settleFor (n : Nat) (s : State) : s.noColumnNews (State.settleFor n s) := by
  induction n generalizing s with
  | zero =>
    unfold State.settleFor
    split
    · have passed := (dropReleased s).trans (passes _)
      have last : s.dropReleased.passes.noColumnNews s.lastRound := by
        unfold State.lastRound
        dsimp only
        generalize s.dropReleased.passes = t
        exact of_link rfl
      exact passed.trans last
    · exact of_link rfl
  | succ n ih =>
    rw [State.settleFor_succ]
    split
    · exact (round s).trans (ih _)
    · exact of_link rfl

theorem settle (s : State) : s.noColumnNews s.settle := settleFor 8 s

end State.noColumnNews

/-- A fill waits for the pulse toward TUB; its service column is due, the other column is ready, and the selector stands at the
ready column's side. -/
def State.misaligned : State :=
  { State.reset.setLoad .routeValve { State.reset.load .routeValve with own := some 1, grant := some .full } with
    link := { State.reset.link with mode := .run }
    soft := { State.reset.soft with
      holder := .fill
      progress := .selecting
      pulse := some { target := .tub, timer := 10000 }
      position := .b
      colA := { state := .service, cap := 0, due := true, saltReduced := false }
      colB := { state := .ready, cap := 0, due := false, saltReduced := false }
      saltLow := true } }

set_option maxRecDepth 16000 in
/-- The switch and the shortage of salt are told in the event that ends the pulse. -/
theorem State.misaligned_news : State.misaligned.pulseExpiry.settle.link.columnNews = 2 := by decide

/-- Refutes O55: its clause on the queue counts one notice at most, but the pulse's end serves a fill whose flip is at its target
already, so that COLUMN_SWITCHED and, with little salt, REGEN_SALT_LOW are posted in one event (R91, R104, R105). -/
theorem not_routePulseAndSoakEnd : ¬ Obligations.RoutePulseAndSoakEnd := by
  unfold Obligations.RoutePulseAndSoakEnd
  intro h
  obtain ⟨-, ended, -⟩ := h State.misaligned rfl
  obtain ⟨u, e, -, -, -, -, -, -, few⟩ := ended _ rfl rfl
  have same : u.settle = State.misaligned.pulseExpiry.settle := (Host.Outcome.next.inj e).symm
  have told : 2 ≤ u.link.columnNews := by
    have kept : u.settle.link.columnNews ≤ u.link.columnNews := (State.noColumnNews.settle u).fewer
    rwa [same, State.misaligned_news] at kept
  have counted : u.link.columnNews ≤ u.link.notices.length := List.countP_le_length
  have one : u.link.notices.length ≤ 1 := few
  omega

end Sys2Proof.Machine
end

section
/-! ### The water of a FLOW hand-off (R96 to R101, R105, R107) -/

namespace Sys2Proof.Machine

/-- What the accounting keeps beside the columns and U: V_fill, the two residues, the total, the stray volume and the
regeneration. -/
def SoftenerUnit.tallies (x : SoftenerUnit) : Nat × Nat × Nat × Option Nat × Nat × Option Regen :=
  (x.vFill, x.rf, x.rl, x.tLast, x.stray, x.regen)

/-! #### A load (R100, R101) -/

theorem State.takeLoad_service {s : State} {c : Side} (h : s.serviceColumn = some c) (load : Nat) :
    ∃ d m, (s.takeLoad load).soft =
      { (s.setColumn c { s.column c with cap := (s.column c).cap - min load (s.column c).cap, due := d }).soft with
        u := min 65535 (s.soft.u + (load - min load (s.column c).cap)), exhaustedMark := m } := by
  have u : ∀ x, (s.setColumn c x).soft.u = s.soft.u := fun x => by cases c <;> rfl
  unfold State.takeLoad
  rw [h]
  dsimp only
  rw [u]
  split <;> split <;> exact ⟨_, _, rfl⟩

theorem State.takeLoad_none {s : State} (h : s.serviceColumn = none) (load : Nat) :
    s.takeLoad load = { s with soft.u := min 65535 (s.soft.u + load) } := by
  unfold State.takeLoad
  rw [h]

/-- A load is taken from the service column's capacity, and what is beyond it added to U (R101). -/
theorem State.takeLoad_spec (s : State) (load : Nat) :
    (s.takeLoad load).soft.tallies = s.soft.tallies ∧
      (∀ c, s.serviceColumn = some c →
        ((s.takeLoad load).column c).cap = (s.column c).cap - min load (s.column c).cap ∧
        (s.takeLoad load).soft.u = min 65535 (s.soft.u + (load - min load (s.column c).cap)) ∧
        (s.takeLoad load).column (otherSide c) = s.column (otherSide c)) ∧
      (s.serviceColumn = none →
        (s.takeLoad load).soft.u = min 65535 (s.soft.u + load) ∧ ∀ c, (s.takeLoad load).column c = s.column c) := by
  cases hc : s.serviceColumn with
  | none =>
    rw [State.takeLoad_none hc]
    exact ⟨rfl, nofun, fun _ => ⟨rfl, fun _ => rfl⟩⟩
  | some c =>
    obtain ⟨d, m, e⟩ := State.takeLoad_service hc load
    refine ⟨?_, fun c' hc' => ?_, nofun⟩
    · rw [e]
      cases c <;> rfl
    · cases hc'
      have column : ∀ k, (s.takeLoad load).column k = if k = c then
          { s.column c with cap := (s.column c).cap - min load (s.column c).cap, due := d } else s.column k := fun k => by
        rw [← State.setColumn_column]
        unfold State.column
        rw [e]
        cases k <;> rfl
      exact ⟨by rw [column, if_pos rfl], by rw [e], by rw [column, if_neg (otherSide_ne c)]⟩

theorem State.markFallback_soft (s : State) :
    (∃ b, s.markFallback.soft = { s.soft with fallback := b }) ∧ s.markFallback.softener = s.softener := by
  unfold State.markFallback
  split
  · exact ⟨⟨_, rfl⟩, rfl⟩
  · split
    · exact ⟨⟨_, rfl⟩, rfl⟩
    · exact ⟨⟨_, rfl⟩, rfl⟩

/-- The millilitres of a fill (R99, R100). -/
theorem State.fillAccount_spec (s : State) (v : Nat) :
    (s.fillAccount v).soft.vFill = min 65535 (s.soft.vFill + v) ∧ (s.fillAccount v).soft.rf = s.soft.rf ∧
      (s.fillAccount v).soft.tLast = s.soft.tLast ∧ (s.fillAccount v).soft.stray = s.soft.stray ∧
      (s.fillAccount v).soft.regen = s.soft.regen ∧
      ∃ load, load * 1000 + (s.fillAccount v).soft.rl = s.soft.rl + (s.inletHardness - s.softener.hRes) * v ∧
        (s.fillAccount v).soft.rl < 1000 ∧
        (∀ c, s.serviceColumn = some c →
          ((s.fillAccount v).column c).cap = (s.column c).cap - min load (s.column c).cap ∧
          (s.fillAccount v).soft.u = min 65535 (s.soft.u + (load - min load (s.column c).cap)) ∧
          (s.fillAccount v).column (otherSide c) = s.column (otherSide c)) ∧
        (s.serviceColumn = none →
          (s.fillAccount v).soft.u = min 65535 (s.soft.u + load) ∧ ∀ c, (s.fillAccount v).column c = s.column c) := by
  obtain ⟨x, hx⟩ : ∃ x : State, x = { s with soft.vFill := min 65535 (s.soft.vFill + v) } := ⟨_, rfl⟩
  obtain ⟨⟨b, soft⟩, softener⟩ := x.markFallback_soft
  obtain ⟨n, hn⟩ : ∃ n, n = s.soft.rl + (s.inletHardness - s.softener.hRes) * v := ⟨_, rfl⟩
  obtain ⟨y, hy⟩ : ∃ y : State, y = { x.markFallback with soft.rl := n % 1000 } := ⟨_, rfl⟩
  have account : s.fillAccount v = y.takeLoad (n / 1000) := by
    have sum : x.markFallback.soft.rl + (x.inletHardness - x.markFallback.softener.hRes) * v = n := by
      rw [soft, softener, hn, hx]
      rfl
    rw [hy, ← sum, hx]
    rfl
  have ySoft : y.soft = { s.soft with vFill := min 65535 (s.soft.vFill + v), fallback := b, rl := n % 1000 } := by
    rw [hy]
    refine (congrArg (fun z : SoftenerUnit => { z with rl := n % 1000 }) soft).trans ?_
    rw [hx]
  have columns : y.column = s.column ∧ y.serviceColumn = s.serviceColumn ∧ y.soft.u = s.soft.u := by
    refine ⟨funext fun c => ?_, ?_, by rw [ySoft]⟩
    · unfold State.column
      rw [ySoft]
    · unfold State.serviceColumn
      rw [ySoft]
  obtain ⟨column, service, u⟩ := columns
  obtain ⟨tallies, some, none⟩ := y.takeLoad_spec (n / 1000)
  rw [column, service, u] at some
  rw [column, service, u] at none
  rw [← account] at tallies some none
  rw [ySoft] at tallies
  simp only [SoftenerUnit.tallies, Prod.mk.injEq] at tallies
  obtain ⟨vFill, rf, rl, tLast, stray, regen⟩ := tallies
  refine ⟨vFill, rf, tLast, stray, regen, n / 1000, ?_, ?_, some, none⟩
  · rw [rl, ← hn]
    exact Nat.div_add_mod' n 1000
  · rw [rl]
    exact Nat.mod_lt _ (by decide)

/-! #### A stray volume (R98) -/

/-- Stray millilitres are reported above the limit. -/
theorem State.strayAccount_spec {s : State} (h : s.inEffect .machine) (v : Nat) :
    (s.strayAccount v).1 = { s with soft.stray := min 65535 (s.soft.stray + v) } ∧
      (s.strayAccount v).2 =
        if v ≠ 0 ∧ s.machine.strayLimit < min 65535 (s.soft.stray + v) then .stray (min 65535 (s.soft.stray + v)) else .nothing := by
  have used : ∀ n, State.useProfile { s with soft.stray := n } .machine = { s with soft.stray := n } := fun n =>
    State.useProfile_of_inEffect h
  have cases : s.strayAccount v =
      if v = 0 then ({ s with soft.stray := min 65535 (s.soft.stray + v) }, .nothing)
      else if s.machine.strayLimit < min 65535 (s.soft.stray + v) then
        ({ s with soft.stray := min 65535 (s.soft.stray + v) }, .stray (min 65535 (s.soft.stray + v)))
      else ({ s with soft.stray := min 65535 (s.soft.stray + v) }, .nothing) := by
    unfold State.strayAccount
    dsimp only
    rw [used]
    rfl
  rw [cases]
  by_cases hv : v = 0
  · rw [if_pos hv, if_neg fun a => a.1 hv]
    exact ⟨rfl, rfl⟩
  · rw [if_neg hv]
    by_cases hl : s.machine.strayLimit < min 65535 (s.soft.stray + v)
    · rw [if_pos hl, if_pos (And.intro hv hl)]
      exact ⟨rfl, rfl⟩
    · rw [if_neg hl, if_neg fun a => hl a.2]
      exact ⟨rfl, rfl⟩

/-! #### A stage of a regeneration (R99, R105, R107) -/

/-- The regeneration that holds the path gives it back with both its valves (R94). -/
theorem State.regenGiveBack_held {s : State} (h : s.soft.holder = .regen) :
    s.regenGiveBack.soft.holder = .none ∧ (s.regenGiveBack.load .brineValve).own = none ∧
      (s.regenGiveBack.load .inletValve).own = none := by
  obtain ⟨x, hx⟩ : ∃ x : State, x =
    { s with soft.waiting := false, soft.regen := s.soft.regen.map (fun r => { r with flowing := false }) } := ⟨_, rfl⟩
  have e : s.regenGiveBack =
      State.markEval { ((x.release .inletValve).release .brineValve) with
        soft.holder := .none, soft.progress := .selecting } := by
    rw [hx]
    exact if_pos h
  have own : ∀ k, (s.regenGiveBack.load k).own = (((x.release .inletValve).release .brineValve).load k).own := fun k => by
    rw [e]
    rfl
  refine ⟨by rw [e]; rfl, ?_, ?_⟩
  · rw [own, State.release_own, if_pos rfl]
  · rw [own, State.release_own, if_neg nofun, State.release_own, if_pos rfl]

theorem State.regenGiveBack_tallies (s : State) :
    (s.regenGiveBack.soft.vFill, s.regenGiveBack.soft.u, s.regenGiveBack.soft.stray) =
        (s.soft.vFill, s.soft.u, s.soft.stray) ∧
      (s.regenGiveBack.soft.tLast, s.regenGiveBack.soft.rf, s.regenGiveBack.soft.rl) =
        (s.soft.tLast, s.soft.rf, s.soft.rl) := by
  have path := State.routes.regenGiveBack s
  exact ⟨(congrArg (fun x : State => (x.soft.vFill, x.soft.u, x.soft.stray)) path.rest :),
    (congrArg (fun x : State => (x.soft.tLast, x.soft.rf, x.soft.rl)) path.rest :)⟩

/-- BRINE ends in SOAK, off the path, with both valves released (R105, R106). -/
theorem State.brineEnd_spec {s : State} (h : s.soft.holder = .regen) (g : Regen) :
    (s.brineEnd g).soft.regen = some { g with stage := .soak, flowing := false, soakTimer := 0 } ∧
      (s.brineEnd g).column g.column = { s.column g.column with state := .soak } ∧
      (s.brineEnd g).column (otherSide g.column) = s.column (otherSide g.column) ∧
      (s.brineEnd g).soft.holder = .none ∧ ((s.brineEnd g).load .brineValve).own = none ∧
      ((s.brineEnd g).load .inletValve).own = none ∧ (s.brineEnd g).link = s.link ∧ s.fillKept (s.brineEnd g) ∧
      s.softens (s.brineEnd g) := by
  obtain ⟨holder, brine, inlet⟩ := State.regenGiveBack_held h
  obtain ⟨-, link, -, -, -, -, -, -, -, columns, -⟩ := s.regenGiveBack_spec
  have path := State.routes.regenGiveBack s
  have softens := State.softens.routes path
  obtain ⟨x, hx⟩ : ∃ x : State, x =
    { s.regenGiveBack with soft.regen := some { g with stage := .soak, flowing := false, soakTimer := 0 } } := ⟨_, rfl⟩
  have ended : s.brineEnd g = x.setColumn g.column { x.column g.column with state := .soak } := by rw [hx]; rfl
  have column : ∀ c, x.column c = s.column c := fun c => by
    rw [hx, ← columns]
    rfl
  have load : ∀ k, (s.brineEnd g).load k = s.regenGiveBack.load k := fun k => by
    rw [ended, State.setColumn_load, hx]
    rfl
  have kept : s.fillKept x := by
    rw [hx]
    exact ⟨(congrArg (fun y : State => (y.soft.vFill, y.soft.u, y.soft.exhaustedMark, y.soft.stray)) path.rest :),
      fun e => nomatch h.symm.trans e⟩
  refine ⟨?_, ?_, ?_, ?_, by rw [load, brine], by rw [load, inlet], ?_, ?_, ?_⟩
  · rw [ended, hx]
    cases g.column <;> rfl
  · rw [ended, State.setColumn_column, if_pos rfl, column]
  · rw [ended, State.setColumn_column, if_neg (otherSide_ne _), column]
  · rw [ended, ← holder, hx]
    cases g.column <;> rfl
  · rw [ended, State.setColumn_link, hx, ← link]
  · rw [ended]
    exact kept.setColumn _ _
  · rw [ended, hx]
    exact (softens.record { s.regenGiveBack.soft with
      regen := some { g with stage := .soak, flowing := false, soakTimer := 0 } } rfl).setColumn _ _

/-- With no exhausted column the automatic start check does nothing (R104). -/
theorem State.autoCheck_of_noneExhausted {s : State} (h : s.inEffect .softener) (none : ∀ c, (s.column c).state ≠ .exhausted) :
    s.autoCheck = s := by
  rcases s.autoCheck_cases with e | ⟨-, e⟩ | ⟨c, -, -, exhausted, -⟩
  · exact e
  · rw [e, State.useProfile_of_inEffect h]
  · exact absurd exhausted (none c)

/-- RINSE ends: its column is READY with its capacity restored, and the automatic start check follows (R107). -/
theorem State.rinseEnd_spec {s : State} (h : s.soft.holder = .regen) (eff : s.inEffect .softener) (g : Regen) {capacity : Nat}
    (hc : capacity = restoredCapacity s.softener (s.column g.column).saltReduced) :
    (s.rinseEnd g).column g.column =
        { s.column g.column with state := .ready, cap := capacity, due := decide (capacity ≤ s.softener.reserve) } ∧
      ((s.rinseEnd g).column (otherSide g.column)).cap = (s.column (otherSide g.column)).cap ∧
      s.fillKept (s.rinseEnd g) ∧ s.softens (s.rinseEnd g) ∧
      ((s.column (otherSide g.column)).state ≠ .exhausted →
        (s.rinseEnd g).soft.regen = none ∧ (s.rinseEnd g).soft.holder = .none ∧
        (s.rinseEnd g).link = s.link.post (s.notice .regenDone 5 (sideCode g.column) capacity)) := by
  obtain ⟨holder, -, -⟩ := State.regenGiveBack_held h
  obtain ⟨trip, link, -, -, -, -, -, -, -, columns, -⟩ := s.regenGiveBack_spec
  have path := State.routes.regenGiveBack s
  have softens := State.softens.routes path
  have softener : s.regenGiveBack.softener = s.softener := by
    unfold State.softener
    rw [trip, softens.profile]
  obtain ⟨new, hn⟩ : ∃ new : Column, new =
    { s.column g.column with state := .ready, cap := capacity, due := decide (capacity ≤ s.softener.reserve) } := ⟨_, rfl⟩
  obtain ⟨x, hx⟩ : ∃ x : State, x = { (s.regenGiveBack.setColumn g.column new).post .regenDone 5 (sideCode g.column) capacity with
    soft.regen := none } := ⟨_, rfl⟩
  have ended : s.rinseEnd g = x.autoCheck := by
    unfold State.rinseEnd
    rw [State.useProfile_of_inEffect (softens.inEffect eff)]
    dsimp only
    rw [softener, columns, ← hc, hx, hn]
    rfl
  have column : ∀ c, x.column c = if c = g.column then new else s.column c := fun c => by
    rw [← columns c, ← State.setColumn_column, hx]
    rfl
  have kept : s.fillKept x := by
    have back : s.fillKept s.regenGiveBack :=
      ⟨(congrArg (fun y : State => (y.soft.vFill, y.soft.u, y.soft.exhaustedMark, y.soft.stray)) path.rest :),
        fun e => nomatch h.symm.trans e⟩
    rw [hx]
    exact (back.setColumn g.column new).trans ⟨rfl, id⟩
  have all : s.softens x := by
    rw [hx]
    exact ((softens.setColumn g.column new).post ..).record _ rfl
  have effX : x.inEffect .softener := all.inEffect eff
  obtain ⟨-, -, own, -⟩ := State.autoCheck_column effX g.column
  obtain ⟨cap, -⟩ := State.autoCheck_column effX (otherSide g.column)
  have ready : x.column g.column = new := by rw [column, if_pos rfl]
  have other : x.column (otherSide g.column) = s.column (otherSide g.column) := by rw [column, if_neg (otherSide_ne _)]
  rw [ended]
  refine ⟨?_, ?_, kept.autoCheck, all.autoCheck, fun free => ?_⟩
  · rw [own (by rw [ready, hn]; nofun), ready, hn]
  · rw [cap, other]
  · have none : ∀ c, (x.column c).state ≠ .exhausted := fun c => by
      by_cases e : c = g.column
      · rw [e, ready, hn]
        nofun
      · have side : c = otherSide g.column := by
          revert e
          cases c <;> cases g.column <;> decide
        rw [side, other]
        exact free
    rw [State.autoCheck_of_noneExhausted effX none]
    refine ⟨by rw [hx], ?_, ?_⟩
    · rw [hx, ← holder]
      cases g.column <;> rfl
    · rw [hx]
      show (s.regenGiveBack.setColumn g.column new).link.post
        ((s.regenGiveBack.setColumn g.column new).notice .regenDone 5 (sideCode g.column) capacity) = _
      rw [State.notice_of_timeTag (s := s) (by rw [State.setColumn_link, link]), State.setColumn_link, link]

/-- The millilitres of a regeneration raise its stage volume, which ends the stage that reaches its own (R99). -/
theorem State.regenAccount_eq {s : State} {g g' : Regen} (h : s.soft.regen = some g) (v : Nat)
    (hg : g' = { g with volume := min 65535 (g.volume + v) }) {x : State} (hx : x = { s with soft.regen := some g' }) :
    (g.stage = .brine → s.regenAccount v = if s.softener.brineVolume ≤ g'.volume then x.brineEnd g' else x) ∧
      (g.stage = .rinse → s.regenAccount v = if s.softener.rinseVolume ≤ g'.volume then x.rinseEnd g' else x) ∧
      (g.stage = .soak → s.regenAccount v = x) := by
  subst hg hx
  have cases : s.regenAccount v = match g.stage with
      | .brine => if s.softener.brineVolume ≤ min 65535 (g.volume + v) then
          State.brineEnd { s with soft.regen := some { g with volume := min 65535 (g.volume + v) } }
            { g with volume := min 65535 (g.volume + v) }
        else { s with soft.regen := some { g with volume := min 65535 (g.volume + v) } }
      | .rinse => if s.softener.rinseVolume ≤ min 65535 (g.volume + v) then
          State.rinseEnd { s with soft.regen := some { g with volume := min 65535 (g.volume + v) } }
            { g with volume := min 65535 (g.volume + v) }
        else { s with soft.regen := some { g with volume := min 65535 (g.volume + v) } }
      | .soak => { s with soft.regen := some { g with volume := min 65535 (g.volume + v) } } := by
    unfold State.regenAccount
    rw [h]
    rfl
  refine ⟨fun e => ?_, fun e => ?_, fun e => ?_⟩ <;> rw [cases, e]

/-- The stage volume that ends a stage (R105, R107). -/
def State.stageFull (s : State) (g : Regen) (volume : Nat) : Bool :=
  match g.stage with
  | .brine => decide (s.softener.brineVolume ≤ volume)
  | .rinse => decide (s.softener.rinseVolume ≤ volume)
  | .soak => false

/-- What the millilitres of a regeneration do: its stage goes on, or ends (R99, R105, R107). -/
theorem State.regenAccount_spec {s : State} {g : Regen} (held : s.soft.holder = .regen) (eff : s.inEffect .softener)
    (hg : s.soft.regen = some g) (v : Nat) {volume capacity : Nat} (hv : volume = min 65535 (g.volume + v))
    (hcap : capacity = restoredCapacity s.softener (s.column g.column).saltReduced) {t : State} (ht : t = s.regenAccount v) :
    s.fillKept t ∧ s.softens t ∧
      (s.stageFull g volume = false →
        t.soft.regen = some { g with volume := volume } ∧ (∀ c, t.column c = s.column c) ∧ t.link = s.link) ∧
      (s.stageFull g volume = true → g.stage = .brine →
        t.soft.regen = some { g with volume := volume, stage := .soak, flowing := false, soakTimer := 0 } ∧
        t.column g.column = { s.column g.column with state := .soak } ∧
        t.column (otherSide g.column) = s.column (otherSide g.column) ∧ t.soft.holder = .none ∧
        (t.load .brineValve).own = none ∧ (t.load .inletValve).own = none ∧ t.link = s.link) ∧
      (s.stageFull g volume = true → g.stage = .rinse →
        t.column g.column =
          { s.column g.column with
            state := .ready, cap := capacity, due := decide (capacity ≤ s.softener.reserve) } ∧
        (t.column (otherSide g.column)).cap = (s.column (otherSide g.column)).cap ∧
        ((s.column (otherSide g.column)).state ≠ .exhausted →
          t.soft.regen = none ∧ t.soft.holder = .none ∧
          t.link = s.link.post (s.notice .regenDone 5 (sideCode g.column) capacity))) := by
  obtain ⟨x, hx⟩ : ∃ x : State, x = { s with soft.regen := some { g with volume := volume } } := ⟨_, rfl⟩
  obtain ⟨brine, rinse, soak⟩ := State.regenAccount_eq hg v (by rw [hv]) hx
  have keptX : s.fillKept x := by rw [hx]; exact ⟨rfl, id⟩
  have softX : s.softens x := by rw [hx]; exact (State.softens.refl s).record _ rfl
  have heldX : x.soft.holder = .regen := by rw [hx]; exact held
  have goesOn : t = x → s.fillKept t ∧ s.softens t ∧ t.soft.regen = some { g with volume := volume } ∧
      (∀ c, t.column c = s.column c) ∧ t.link = s.link := fun e => by
    rw [e]
    refine ⟨keptX, softX, ?_⟩
    rw [hx]
    exact ⟨rfl, fun c => rfl, rfl⟩
  cases stage : g.stage with
  | soak =>
    obtain ⟨kept, soft, on⟩ := goesOn (ht.trans (soak stage))
    rw [stage] at on
    refine ⟨kept, soft, fun _ => on, nofun, nofun⟩
  | brine =>
    have full : s.stageFull g volume = decide (s.softener.brineVolume ≤ volume) := by unfold State.stageFull; rw [stage]
    have e := ht.trans (brine stage)
    by_cases reached : s.softener.brineVolume ≤ volume
    · have ended : t = x.brineEnd { g with volume := volume } := e.trans (if_pos reached)
      obtain ⟨regen, own, other, holder, valve, inlet, link, kept, soft⟩ := State.brineEnd_spec heldX { g with volume := volume }
      rw [full, decide_eq_true reached, ended]
      refine ⟨keptX.trans kept, softX.trans soft, nofun, fun _ _ => ⟨regen, ?_, ?_, holder, valve, inlet, ?_⟩, nofun⟩
      · rw [own, hx]
        rfl
      · rw [other, hx]
        rfl
      · rw [link, hx]
    · obtain ⟨kept, soft, on⟩ := goesOn (e.trans (if_neg reached))
      rw [stage] at on
      rw [full, decide_eq_false reached]
      exact ⟨kept, soft, fun _ => on, nofun, nofun⟩
  | rinse =>
    have full : s.stageFull g volume = decide (s.softener.rinseVolume ≤ volume) := by unfold State.stageFull; rw [stage]
    have e := ht.trans (rinse stage)
    by_cases reached : s.softener.rinseVolume ≤ volume
    · have ended : t = x.rinseEnd { g with volume := volume } := e.trans (if_pos reached)
      have columnX : x.column = s.column ∧ x.softener = s.softener ∧ x.link = s.link := by rw [hx]; exact ⟨rfl, rfl, rfl⟩
      obtain ⟨columnX, softenerX, linkX⟩ := columnX
      obtain ⟨own, other, kept, soft, last⟩ := State.rinseEnd_spec heldX (softX.inEffect eff) { g with volume := volume }
        (capacity := capacity) (by rw [hcap, columnX, softenerX])
      rw [columnX, softenerX] at own
      rw [columnX] at other last
      rw [linkX, State.notice_of_timeTag (s := s) (by rw [linkX])] at last
      rw [full, decide_eq_true reached, ended]
      exact ⟨keptX.trans kept, softX.trans soft, nofun, nofun, fun _ _ => ⟨own, other, last⟩⟩
    · obtain ⟨kept, soft, on⟩ := goesOn (e.trans (if_neg reached))
      rw [stage] at on
      rw [full, decide_eq_false reached]
      exact ⟨kept, soft, fun _ => on, nofun, nofun⟩

/-! #### The hand-off -/

/-- The pulses since the last total are whole millilitres and a residue (R96, R97). -/
def State.counted (s : State) (total x : Nat) : State :=
  { s with soft.tLast := some total, soft.rf := x % s.softener.k }

/-- The millilitres go to exactly one place (R98 to R100). -/
theorem State.flowHandoff_eq {s : State} (h : s.inEffect .softener) {total : Nat} {before : Freshness} {x : Nat}
    (hx : x = s.soft.rf + pulseDelta s.soft.tLast total before * 1000) :
    s.flowHandoff total before =
      if s.inletTo .fill then ((s.counted total x).fillAccount (x / s.softener.k), .volume (x / s.softener.k))
      else if s.inletTo .regen then ((s.counted total x).regenAccount (x / s.softener.k), .nothing)
      else (s.counted total x).strayAccount (x / s.softener.k) := by
  unfold State.flowHandoff
  rw [State.useProfile_of_inEffect h, hx]
  rfl

theorem State.counted_inEffect {s : State} {total x : Nat} {p : ProfileId} (h : s.inEffect p) : (s.counted total x).inEffect p := by
  cases p <;> exact h

theorem State.inletTo_holder {s : State} {h : Holder} (g : s.inletTo h = true) : s.soft.holder = h := by
  unfold State.inletTo at g
  rw [Bool.and_eq_true] at g
  exact of_decide_eq_true g.1

/-- Settles O17, by the place that the millilitres go to: a fill, a regeneration, or none. -/
theorem flowAccounting : Obligations.FlowAccounting := by
  unfold Obligations.FlowAccounting
  intro s total before effS effM hk d r
  obtain ⟨x, hx⟩ : ∃ x, x = s.soft.rf + d * 1000 := ⟨_, rfl⟩
  obtain ⟨c, hc⟩ : ∃ c, c = s.counted total x := ⟨_, rfl⟩
  obtain ⟨v, hv⟩ : ∃ v, v = x / s.softener.k := ⟨_, rfl⟩
  have hand : r = if s.inletTo .fill then (c.fillAccount v, .volume v)
      else if s.inletTo .regen then (c.regenAccount v, .nothing) else c.strayAccount v := by
    rw [hc, hv]
    exact State.flowHandoff_eq effS hx
  have effC : c.inEffect .softener := hc ▸ State.counted_inEffect effS
  have effCM : c.inEffect .machine := hc ▸ State.counted_inEffect effM
  have countedRf : c.soft.rf = x % s.softener.k := by rw [hc]; rfl
  have countedLast : c.soft.tLast = some total := by rw [hc]; rfl
  have same : c.soft.vFill = s.soft.vFill ∧ c.soft.u = s.soft.u ∧ c.soft.rl = s.soft.rl ∧ c.soft.stray = s.soft.stray ∧
      c.soft.regen = s.soft.regen ∧ c.soft.holder = s.soft.holder ∧ c.column = s.column ∧
      c.serviceColumn = s.serviceColumn ∧ c.softener = s.softener ∧ c.machine = s.machine ∧
      c.inletHardness = s.inletHardness ∧ c.link = s.link := by
    rw [hc]
    exact ⟨rfl, rfl, rfl, rfl, rfl, rfl, rfl, rfl, rfl, rfl, rfl, rfl⟩
  obtain ⟨vFill, u, rl, stray, regen, holder, column, service, softener, machine, hardness, link⟩ := same
  rw [← hx]
  refine ⟨v, by rw [hv]; exact Nat.div_add_mod' .., ?_⟩
  cases fill : s.inletTo .fill with
  | true =>
    have e : r = (c.fillAccount v, .volume v) := by rw [hand, if_pos fill]
    obtain ⟨vFill', rf', last', stray', regen', load⟩ := c.fillAccount_spec v
    rw [hardness, softener, service, column, u, rl] at load
    rw [e]
    refine ⟨rf'.trans countedRf, last'.trans countedLast, fun _ => ⟨rfl, by rw [vFill', vFill], by rw [stray', stray],
      by rw [regen', regen], load⟩, nofun, fun g hg => ?_, nofun⟩
    exact nomatch (State.inletTo_holder fill).symm.trans (State.inletTo_holder hg)
  | false =>
    cases toRegen : s.inletTo .regen with
    | true =>
      have e : r = (c.regenAccount v, .nothing) := by
        rw [hand, if_neg (by rw [fill]; nofun), if_pos toRegen]
      have tallied : ∀ t : State, c.fillKept t → c.softens t → t.soft.rf = x % s.softener.k ∧ t.soft.tLast = some total ∧
          (t.soft.vFill = s.soft.vFill ∧ t.soft.u = s.soft.u ∧ t.soft.rl = s.soft.rl) ∧ t.soft.stray = s.soft.stray :=
        fun t kept soft => by
          have account := kept.account
          have unit := soft.kept
          simp only [Prod.mk.injEq] at account unit
          obtain ⟨vFill', u', -, stray'⟩ := account
          obtain ⟨-, -, -, last', rf', rl', -⟩ := unit
          exact ⟨rf'.trans countedRf, last'.trans countedLast, ⟨vFill'.trans vFill, u'.trans u, rl'.trans rl⟩,
            stray'.trans stray⟩
      have held : c.soft.holder = .regen := holder.trans (State.inletTo_holder toRegen)
      rw [e]
      cases hr : s.soft.regen with
      | none =>
        have none : c.regenAccount v = c := by
          unfold State.regenAccount
          rw [regen, hr]
        obtain ⟨rf', last', marks, -⟩ := tallied _ (.refl c) (.refl c)
        rw [none]
        exact ⟨rf', last', nofun, fun _ => marks, nofun, nofun⟩
      | some g =>
        obtain ⟨kept, soft, on, brine, rinse⟩ := State.regenAccount_spec held effC (regen.trans hr) v rfl rfl rfl
        obtain ⟨rf', last', marks, stray'⟩ := tallied _ kept soft
        refine ⟨rf', last', nofun, fun _ => marks, fun g' _ hg => ?_, nofun⟩
        cases hg
        rw [hc] at on brine rinse stray'
        rw [hc]
        exact ⟨rfl, stray', on, brine, rinse⟩
    | false =>
      have e : r = c.strayAccount v := by
        rw [hand, if_neg (by rw [fill]; nofun), if_neg (by rw [toRegen]; nofun)]
      obtain ⟨left, told⟩ := State.strayAccount_spec effCM v
      rw [e, left, told]
      refine ⟨countedRf, countedLast, nofun, fun _ => ⟨vFill, u, rl⟩, nofun, fun _ _ => ⟨by rw [stray], fun k => ?_, regen, link, ?_⟩⟩
      · rw [← column]
        rfl
      · rw [stray, machine]

end Sys2Proof.Machine
end

section
/-! ### The dose point (R103, R114 to R119, R123 to R125) -/

namespace Sys2Proof.Machine

/-! #### Computing a dose (R117) -/

theorem clampNat_eq {lo hi : Nat} (h : lo ≤ hi) (x : Nat) : clampNat lo hi x = max lo (min hi x) := by
  unfold clampNat
  omega

/-- Rounded up, the strokes carry at least the dose. -/
theorem le_ceilDiv_mul {v : Nat} (hv : 0 < v) (n : Nat) : n ≤ (n + v - 1) / v * v := by
  have rest := Nat.mod_lt (n + v - 1) hv
  have parts := Nat.div_add_mod' (n + v - 1) v
  omega

/-- The bounds that the profile's range gives. -/
theorem DosingProfile.bounds_of_inRange {p : DosingProfile} (h : p.inRange = true) : 0 < p.strokeVolume ∧ p.dMin ≤ p.dMax := by
  simp only [DosingProfile.inRange, within, Bool.and_eq_true, decide_eq_true_eq] at h
  omega

theorem computeDose_spec {p : DosingProfile} (h : p.inRange = true) (dBase fh fs : Nat) :
    computeDose p dBase fh fs = max p.dMin (min p.dMax ((dBase * fh * fs + 32768) / 65536)) ∧
      p.dMin ≤ computeDose p dBase fh fs ∧ computeDose p dBase fh fs ≤ p.dMax ∧
      strokesFor p (computeDose p dBase fh fs)
        = min 255 ((computeDose p dBase fh fs * 10 + p.strokeVolume - 1) / p.strokeVolume) ∧
      (strokesFor p (computeDose p dBase fh fs) < 255 →
        computeDose p dBase fh fs * 10 ≤ strokesFor p (computeDose p dBase fh fs) * p.strokeVolume) ∧
      (dBase = 0 → p.dMin = 0 → strokesFor p (computeDose p dBase fh fs) = 0) ∧
      strokesFor { p with strokeVolume := 10 } 600 = 255 := by
  obtain ⟨volume, ordered⟩ := DosingProfile.bounds_of_inRange h
  have dose : computeDose p dBase fh fs = max p.dMin (min p.dMax ((dBase * fh * fs + 32768) / 65536)) :=
    clampNat_eq ordered _
  refine ⟨dose, by omega, by omega, rfl, fun few => ?_, fun base least => ?_, by simp [strokesFor]⟩
  · have covers := le_ceilDiv_mul volume (computeDose p dBase fh fs * 10)
    unfold strokesFor at few ⊢
    rwa [Nat.min_eq_right (by omega)]
  · have none : computeDose p dBase fh fs = 0 := by
      rw [dose, base, least, Nat.zero_mul, Nat.zero_mul]
      exact Nat.min_zero _
    have few : (0 * 10 + p.strokeVolume - 1) / p.strokeVolume = 0 := Nat.div_eq_of_lt (by omega)
    unfold strokesFor
    rw [none, few, Nat.min_zero]

theorem State.tubHardness_spec (s : State) :
    (s.soft.vFill = 0 → s.tubHardness = s.softener.hRes) ∧
      (s.soft.vFill ≠ 0 → s.tubHardness = min 2000 (s.softener.hRes + s.soft.u * 1000 / s.soft.vFill)) ∧
      (s.soft.u = 0 → s.softener.hRes ≤ 2000 → s.tubHardness = s.softener.hRes) := by
  refine ⟨fun h => if_pos h, fun h => if_neg h, fun h g => ?_⟩
  unfold State.tubHardness
  split
  · rfl
  · rw [h, Nat.zero_mul, Nat.zero_div, Nat.add_zero, Nat.min_eq_right g]

/-! #### The factors (R115, R116) -/

theorem curveIndex_val (i : Fin 8) : curveIndex i.val = some i := dif_pos i.isLt

/-- The three ways in which a curve gives its factor. -/
theorem State.factor_curve (s : State) (r : Reservoir) (i : Fin 8) (x : Int) :
    (s.chan.curves[i].contents.valid = false →
        s.factor r i.val x = (s.post .doseCurveInvalid 3 i.val (reservoirCode r), 256)) ∧
      (s.chan.curves[i].contents.valid = true → s.chan.curves[i].sound = false →
        s.factor r i.val x = (s.integrityError .curve (some .active) i.val, 256)) ∧
      (s.chan.curves[i].contents.valid = true → s.chan.curves[i].sound = true →
        s.factor r i.val x = (s, (max 64 (min 1024 (evalPoints s.chan.curves[i].contents.points x))).toNat)) := by
  have clamp : ∀ z : Int, clampInt 64 1024 z = max 64 (min 1024 z) := fun z => by
    unfold clampInt
    omega
  unfold State.factor
  rw [curveIndex_val]
  dsimp only
  refine ⟨fun h => ?_, fun h g => ?_, fun h g => ?_⟩
  · rw [h]
    rfl
  · rw [h, g]
    rfl
  · rw [h, g, clamp]
    rfl

section
variable {s : State} {r : Reservoir}

theorem State.hardnessFactor_curve {n : Nat} (h : (s.dosingProfile r).hardCurve = some n) (e : s.inEffect .softener) :
    s.hardnessFactor r = s.factor r n s.tubHardness := by
  unfold State.hardnessFactor
  rw [h]
  dsimp only
  rw [State.useProfile_of_inEffect e]

theorem State.hardnessFactor_none (h : (s.dosingProfile r).hardCurve = none) : s.hardnessFactor r = (s, 256) := by
  unfold State.hardnessFactor
  rw [h]

theorem State.soilFactor_none (h : (s.dosingProfile r).soilCurve = none) (tag : Nat) : s.soilFactor r tag = (s, 256) := by
  unfold State.soilFactor
  rw [h]

theorem State.soilFactor_curve {n : Nat} (h : (s.dosingProfile r).soilCurve = some n) (f : s.fresh .turbidity = true)
    (tag : Nat) : s.soilFactor r tag = s.factor r n (s.roleValue .turbidity) := by
  unfold State.soilFactor
  rw [h]
  exact if_pos f

theorem State.soilFactor_default {n : Nat} (h : (s.dosingProfile r).soilCurve = some n) (f : s.fresh .turbidity = false)
    (tag : Nat) : s.soilFactor r tag = (s.post .soilDefault 4 tag (reservoirCode r), 256) := by
  unfold State.soilFactor
  rw [h]
  exact if_neg (by rw [f]; nofun)

end

/-- What the factors leave alone: the dosing unit with the marks of its profiles, and the engine. -/
structure State.asks (s t : State) : Prop where
  doses : s.doses t
  dosing : t.dosing = s.dosing
  eng : t.eng = s.eng
  marks : ∀ r, t.faulted (dosingProfileId r) = s.faulted (dosingProfileId r)

namespace State.asks

variable {s t u : State}

theorem refl (s : State) : s.asks s := ⟨.refl s, rfl, rfl, fun _ => rfl⟩

theorem trans (h : s.asks t) (g : t.asks u) : s.asks u :=
  ⟨h.doses.trans g.doses, g.dosing.trans h.dosing, g.eng.trans h.eng, fun r => (g.marks r).trans (h.marks r)⟩

theorem post (s : State) (k : NoticeKind) (l n : Nat) (v : Int) : s.asks (s.post k l n v) :=
  ⟨(State.doses.refl s).post k l n v, rfl, rfl, fun r => by cases r <;> rfl⟩

theorem integrityError (s : State) (x : TableId) (b : Option Bank) (i : Nat) : s.asks (s.integrityError x b i) := by
  have found := s.integrityError_findsError x b i
  exact ⟨(State.doses.refl s).integrityError x b i, found.dosing, found.eng, fun r => found.faulted _⟩

theorem useSoftener (s : State) : s.asks (s.useProfile .softener) := by
  by_cases e : s.inEffect .softener
  · rw [State.useProfile_of_inEffect e]
    exact refl s
  · have found := s.integrityError_findsError .profile none (profileCode .softener)
    refine ⟨(State.doses.refl s).useProfile nofun, ?_, ?_, fun r => ?_⟩
    · rw [State.useProfile_of_damaged e, ← found.dosing]
      rfl
    · rw [State.useProfile_of_damaged e, ← found.eng]
      rfl
    · rw [State.useProfile_of_damaged e, ← found.faulted]
      cases r <;> rfl

theorem factor (s : State) (r : Reservoir) (c : Nat) (x : Int) : s.asks (s.factor r c x).1 := by
  unfold State.factor
  split
  · exact post ..
  · dsimp only
    split
    · exact post ..
    · split
      · exact integrityError ..
      · exact refl s

theorem hardnessFactor (s : State) (r : Reservoir) : s.asks (s.hardnessFactor r).1 := by
  unfold State.hardnessFactor
  split
  · exact refl s
  · exact (useSoftener s).trans (factor ..)

theorem soilFactor (s : State) (r : Reservoir) (tag : Nat) : s.asks (s.soilFactor r tag).1 := by
  unfold State.soilFactor
  split
  · exact refl s
  · split
    · exact factor ..
    · exact post ..

theorem profile (h : s.asks t) (r : Reservoir) : t.dosingProfile r = s.dosingProfile r := by
  unfold State.dosingProfile State.reservoir
  rw [h.marks r, h.dosing]

theorem empty (h : s.asks t) (r : Reservoir) : t.reservoirEmpty r = s.reservoirEmpty r := by
  unfold State.reservoirEmpty State.reservoir
  rw [h.dosing]

theorem timeTag (h : s.asks t) : t.link.timeTag = s.link.timeTag := h.doses.acts.timeTag

end State.asks

/-! #### The dose is made, or not (R114, R118, R122) -/

/-- A dose as the dose point makes it. -/
def Dose.made (r : Reservoir) (tag dose total : Nat) : Dose :=
  { reservoir := r, tag := tag, dose := dose, total := total, done := 0, state := .requested, timer := 0 }

/-- The three outcomes of a dose point once the factors are asked for: the reservoir is empty, no stroke is needed, or the dose is
made. -/
def State.decideDose (s : State) (r : Reservoir) (tag dose total : Nat) : State :=
  if s.reservoirEmpty r then s.doseEmpty r tag
  else if total = 0 then s.doseDone r tag 0
  else State.request { s with dosing.dose := some (Dose.made r tag dose total) } (pumpOf r) 0

theorem State.beginDose_eq (s : State) (r : Reservoir) (dBase tag : Nat) :
    ∃ (x : State) (dose total : Nat), s.beginDose r dBase tag = x.decideDose r tag dose total :=
  ⟨_, _, _, rfl⟩

/-- With no dose in flight and the profile in effect the factors are asked for in the state as it stands. -/
theorem State.beginDose_free {s : State} {r : Reservoir} (free : s.dosing.dose = none) (e : s.inEffect (dosingProfileId r))
    (dBase tag : Nat) :
    s.beginDose r dBase tag = ((s.hardnessFactor r).1.soilFactor r tag).1.decideDose r tag
      (computeDose (s.dosingProfile r) dBase (s.hardnessFactor r).2 ((s.hardnessFactor r).1.soilFactor r tag).2)
      (strokesFor (s.dosingProfile r)
        (computeDose (s.dosingProfile r) dBase (s.hardnessFactor r).2 ((s.hardnessFactor r).1.soilFactor r tag).2)) := by
  have asked : s.asks ((s.hardnessFactor r).1.soilFactor r tag).1 :=
    (State.asks.hardnessFactor s r).trans (State.asks.soilFactor _ r tag)
  rw [← asked.profile r]
  unfold State.beginDose
  rw [s.abandonDose_none free, State.useProfile_of_inEffect e]
  rfl

theorem Dose.made_void (r : Reservoir) (tag dose total : Nat) : (Dose.made r tag dose total).void = Dose.made r tag dose total := rfl

/-- What a decided dose leaves. -/
theorem State.decideDose_spec (s : State) (r : Reservoir) (tag dose total : Nat) {u : State}
    (hu : u = s.decideDose r tag dose total) :
    (s.reservoirEmpty r = true → u.dosing.dose = none ∧ (u.load (pumpOf r)).own = none ∧ u.eng = s.eng ∧
        u.link = s.link.post (s.notice .doseEmpty 2 tag (reservoirCode r))) ∧
      (s.reservoirEmpty r = false → total = 0 → u.dosing.dose = none ∧ (u.load (pumpOf r)).own = none ∧
        u.eng = { s.eng with totals := { s.eng.totals with doses := min 65535 (s.eng.totals.doses + 1) } } ∧
        u.link = s.link.post (s.notice .doseDone 5 tag 0)) ∧
      (s.reservoirEmpty r = false → total ≠ 0 → u.dosing.dose = some (Dose.made r tag dose total) ∧
        (u.load (pumpOf r)).own = some 0 ∧ u.eng = s.eng ∧ u.link = s.link ∧ u.reservoirEmpty r = false) := by
  refine ⟨fun empty => ?_, fun empty few => ?_, fun empty some => ?_⟩
  · obtain ⟨none, own, link⟩ := s.doseEmpty_spec r tag
    have e : u = s.doseEmpty r tag := hu.trans (if_pos empty)
    have eng : (s.doseEmpty r tag).eng = s.eng := by unfold State.doseEmpty; simp
    rw [e]
    exact ⟨none, own, eng, link⟩
  · have e : u = s.doseDone r tag 0 := hu.trans ((if_neg (by rw [empty]; nofun)).trans (if_pos few))
    obtain ⟨none, own, link, eng, -⟩ := s.doseDone_spec r tag 0
    rw [e]
    exact ⟨none, own, eng, link⟩
  · have e : u = State.request { s with dosing.dose := Option.some (Dose.made r tag dose total) } (pumpOf r) 0 :=
      hu.trans ((if_neg (by rw [empty]; nofun)).trans (if_neg some))
    rw [e]
    refine ⟨by simp, ?_, by simp, by simp, ?_⟩
    · rw [State.request_own, if_pos rfl]
    · rw [← empty]
      unfold State.reservoirEmpty State.reservoir
      rw [State.request_dosing]

/-- A dose that the dose point leaves in flight is one that it has made, from a reservoir that is not empty. -/
theorem State.beginDose_made (s : State) (r : Reservoir) (dBase tag : Nat) :
    (s.beginDose r dBase tag).dosing.dose = none ∨
      (s.beginDose r dBase tag).reservoirEmpty r = false ∧
        ∃ dose total, (s.beginDose r dBase tag).dosing.dose = some (Dose.made r tag dose total) := by
  obtain ⟨x, dose, total, e⟩ := s.beginDose_eq r dBase tag
  obtain ⟨empty, few, some⟩ := x.decideDose_spec r tag dose total e
  cases hx : x.reservoirEmpty r with
  | true => exact .inl (empty hx).1
  | false =>
    by_cases ht : total = 0
    · exact .inl (few hx ht).1
    · obtain ⟨made, -, -, -, holds⟩ := some hx ht
      exact .inr ⟨holds, dose, total, made⟩

/-- The pump's grant is read as it stands: a granted dose starts its first stroke at once (R119). -/
theorem State.startDose_spec (s : State) (r : Reservoir) (dBase tag : Nat) {u : State} (hu : u = s.beginDose r dBase tag) :
    (u.granted (pumpOf r) = false ∨ u.dosing.dose = none → s.startDose r dBase tag = u) ∧
      (∀ d, u.granted (pumpOf r) = true → u.dosing.dose = some d →
        s.startDose r dBase tag = { u with dosing.dose := some { d with state := .stroking } }) := by
  have started : s.startDose r dBase tag = u.dosingReport r := by rw [hu]; rfl
  have made := s.beginDose_made r dBase tag
  rw [← hu] at made
  rw [started]
  rcases made with none | ⟨holds, dose, total, made⟩
  · have waits : u.dosingReport r = u := by
      unfold State.dosingReport
      rw [none]
    exact ⟨fun _ => waits, fun d _ hd => nomatch none.symm.trans hd⟩
  · have report : u.dosingReport r =
        if u.granted (pumpOf r) then u.startStroke (Dose.made r tag dose total)
        else { u with dosing.dose := some (Dose.made r tag dose total) } := by
      unfold State.dosingReport
      rw [made]
      exact if_pos ⟨rfl, nofun⟩
    refine ⟨fun h => ?_, fun d hg hd => ?_⟩
    · rcases h with waits | none
      · rw [report, if_neg (by rw [waits]; nofun), ← made]
      · exact nomatch none.symm.trans made
    · cases made.symm.trans hd
      rw [report, if_pos hg]
      have full : u.reservoirEmpty (Dose.made r tag dose total).reservoir = false := holds
      unfold State.startStroke
      rw [full]
      rfl

/-- The dose point is reached once in a run (R114). -/
theorem State.reachDosePoint_eq {s : State} {w : WashFields} {p : DosePoint} {r : Reservoir} {h : StageRecord}
    (hw : w.dose = some r) (hh : s.eng.head = some h) :
    s.reachDosePoint w p =
      if w.dosePoint = p ∧ h.doseBegun = false then
        State.startDose { s with eng.head := some { h with doseBegun := true } } r w.dBase s.headTag
      else s := by
  unfold State.reachDosePoint State.withHead
  rw [hw, hh]
  simp only [Option.map_some, Option.some.injEq]

/-! #### The low switch (R124, R125) -/

theorem State.lowTold_false (s : State) (r : Reservoir) :
    s.lowTold r false = s.setReservoir r { s.reservoir r with lowTold := false } := rfl

/-- A switch that is asserted lowers the estimate to the low mark, and tells it once (R125). -/
theorem State.lowTold_true {s : State} {r : Reservoir} (e : s.inEffect (dosingProfileId r)) {estimate : Nat}
    (he : estimate = min (s.reservoir r).estimate (s.dosingProfile r).lowMark) :
    (s.lowTold r true).reservoir r = { s.reservoir r with lowTold := true, lowSeen := true, estimate := estimate } ∧
      (s.lowTold r true).link =
        (if (s.reservoir r).lowSeen then s.link
          else s.link.post (s.notice .reservoirLow 3 (reservoirCode r) estimate)) := by
  obtain ⟨x, hx⟩ : ∃ x : State, x = s.setReservoir r { s.reservoir r with lowTold := true } := ⟨_, rfl⟩
  have told : x.reservoir r = { s.reservoir r with lowTold := true } := by rw [hx]; cases r <;> rfl
  have effect : x.inEffect (dosingProfileId r) := by rw [hx]; cases r <;> exact e
  have profile : x.dosingProfile r = s.dosingProfile r := by rw [hx]; cases r <;> rfl
  have low : s.lowTold r true =
      if (s.reservoir r).lowSeen then
        x.setReservoir r { x.reservoir r with estimate := estimate, lowSeen := true }
      else (x.setReservoir r { x.reservoir r with estimate := estimate, lowSeen := true }).post
        .reservoirLow 3 (reservoirCode r) estimate := by
    have corrected : s.lowTold r true = x.lowCorrection r := by rw [hx]; rfl
    rw [corrected]
    unfold State.lowCorrection
    rw [State.useProfile_of_inEffect effect]
    dsimp only
    rw [profile, told, ← he]
  have own : ∀ z, (x.setReservoir r z).reservoir r = z := fun z => by cases r <;> rfl
  have link : ∀ z, (x.setReservoir r z).link = s.link := fun z => by rw [hx]; cases r <;> rfl
  rw [low]
  split
  · exact ⟨by rw [own, told], link _⟩
  · refine ⟨?_, ?_⟩
    · exact (own _).trans (by rw [told])
    · show (x.setReservoir r _).link.post _ = _
      rw [link]
      exact congrArg s.link.post (State.notice_of_timeTag (by rw [link]) ..)

/-- Settles O18, clause by clause: the hardness, the dose and its strokes, the factors, the dose point, and the low switch. -/
theorem doseRule : Obligations.DoseRule := by
  unfold Obligations.DoseRule
  refine ⟨State.tubHardness_spec, fun p dBase fh fs hp => computeDose_spec hp dBase fh fs, fun s r tag e => ?_,
    fun s r dBase tag d hd => ?_, fun s r dBase tag => s.startDose_spec r dBase tag rfl,
    fun s w p r h hw hh => State.reachDosePoint_eq hw hh, fun s r dBase tag free e => ?_,
    fun s r e => ⟨s.lowTold_false r, State.lowTold_true e rfl⟩⟩
  · refine ⟨State.hardnessFactor_none, fun h => State.soilFactor_none h tag, fun n h f => State.soilFactor_default h f tag,
      fun i => ?_⟩
    have curve := fun x => s.factor_curve r i x
    refine ⟨fun bad => ⟨fun h => ?_, fun h f => ?_⟩, fun good damaged => ⟨fun h => ?_, fun h f => ?_⟩,
      fun good sound => ⟨fun h => ?_, fun h f => ?_⟩⟩
    · rw [State.hardnessFactor_curve h e, (curve _).1 bad]
    · rw [State.soilFactor_curve h f, (curve _).1 bad]
    · rw [State.hardnessFactor_curve h e, (curve _).2.1 good damaged]
    · rw [State.soilFactor_curve h f, (curve _).2.1 good damaged]
    · rw [State.hardnessFactor_curve h e, (curve _).2.2 good sound]
    · rw [State.soilFactor_curve h f, (curve _).2.2 good sound]
  · obtain ⟨none, own, link, eng, -⟩ := State.abandonDose_some hd
    refine ⟨?_, none, own, link, by rw [eng]⟩
    unfold State.beginDose
    rw [s.abandonDose.abandonDose_none none]
  · have asked : s.asks ((s.hardnessFactor r).1.soilFactor r tag).1 :=
      (State.asks.hardnessFactor s r).trans (State.asks.soilFactor _ r tag)
    have spec := State.decideDose_spec _ r tag _ _ (State.beginDose_free free e dBase tag)
    have tags := fun k l n v => State.notice_of_timeTag asked.timeTag k l n v
    rw [asked.empty, asked.eng, tags, tags] at spec
    obtain ⟨empty, few, some⟩ := spec
    refine ⟨empty, few, fun h g => ?_⟩
    obtain ⟨made, own, eng, link, -⟩ := some h g
    exact ⟨made, own, eng, link⟩

end Sys2Proof.Machine
end

section
/-! ### Bytes read back (R194)

A reader that accepts the bytes of an entry has read every byte of them, so that writing the entry gives the same bytes. -/

namespace Sys2Proof.Machine

/-! #### Numbers -/

theorem be16_lt (a b : Byte) : be16 a b < 65536 := by
  have ha := a.isLt
  have hb := b.isLt
  unfold be16
  omega

theorem toNat_ofNat8 (n : Nat) : (BitVec.ofNat 8 n).toNat = n % 256 := BitVec.toNat_ofNat n 8

theorem byte_ext {a b : Byte} (h : a.toNat = b.toNat) : a = b := BitVec.eq_of_toNat_eq h

theorem u16_be16 (a b : Byte) : u16 (be16 a b) = [a, b] := by
  have ha := a.isLt
  have hb := b.isLt
  have high : BitVec.ofNat 8 (be16 a b / 256) = a := byte_ext (by rw [toNat_ofNat8]; unfold be16; omega)
  have low : BitVec.ofNat 8 (be16 a b) = b := byte_ext (by rw [toNat_ofNat8]; unfold be16; omega)
  unfold u16
  rw [high, low]

theorem i16_s16 (a b : Byte) : i16 (s16 a b) = [a, b] := by
  have bound := be16_lt a b
  have unsigned : (s16 a b % 65536).toNat = be16 a b := by
    unfold s16
    split <;> omega
  unfold i16
  rw [unsigned, u16_be16]

theorem u32_be32 (a b c d : Byte) : u32 (be32 a b c d) = [a, b, c, d] := by
  have ha := a.isLt
  have hb := b.isLt
  have hc := c.isLt
  have hd := d.isLt
  have b3 : BitVec.ofNat 8 (be32 a b c d / 16777216) = a := byte_ext (by rw [toNat_ofNat8]; unfold be32 be16; omega)
  have b2 : BitVec.ofNat 8 (be32 a b c d / 65536) = b := byte_ext (by rw [toNat_ofNat8]; unfold be32 be16; omega)
  have b1 : BitVec.ofNat 8 (be32 a b c d / 256) = c := byte_ext (by rw [toNat_ofNat8]; unfold be32 be16; omega)
  have b0 : BitVec.ofNat 8 (be32 a b c d) = d := byte_ext (by rw [toNat_ofNat8]; unfold be32 be16; omega)
  unfold u32
  rw [b3, b2, b1, b0]

/-- A number below 65536 is read back from its two bytes. -/
theorem be16_u16 {n : Nat} (h : n < 65536) : be16 (BitVec.ofNat 8 (n / 256)) (BitVec.ofNat 8 n) = n := by
  unfold be16
  rw [toNat_ofNat8, toNat_ofNat8]
  omega

/-! #### Codes -/

/-- Where the codes of a list of names are their places, the name at a place has the place as its code. -/
theorem code_of_place {α : Type} {names : List α} {code : α → Nat} (h : names.map code = List.range names.length) {n : Nat}
    {x : α} (hx : names[n]? = some x) : code x = n := by
  have place : (names.map code)[n]? = some (code x) := by rw [List.getElem?_map, hx]; rfl
  rw [h, List.getElem?_range (List.getElem?_eq_some_iff.mp hx).1] at place
  exact (Option.some.inj place).symm

theorem roleCode_of_read {n : Nat} {r : Role} (h : roleOfCode n = some r) : roleCode r = n := code_of_place (by decide) h

theorem condCode_of_read {n : Nat} {c : Cond} (h : condOfCode n = some c) : condCode c = n := code_of_place (by decide) h

theorem storeCode_of_read {n : Nat} {m : StoreMode} (h : storeOfCode n = some m) : storeCode m = n :=
  code_of_place (by decide) h

theorem subjectCode_of_read {n : Nat} {x : Subject} (h : subjectOfCode n = some x) : subjectCode x = n := by
  unfold subjectOfCode at h
  split at h
  · rename_i bound
    cases h
    exact Nat.add_sub_cancel' bound.1
  · split at h
    · cases h
    · cases h
    · rename_i r _ _ hr
      cases h
      exact roleCode_of_read hr
    · cases h

theorem yesNo_of_read {b : Byte} {x : Bool} (h : readYesNo b = some x) : yesNo x = [b] := by
  unfold readYesNo at h
  split at h
  · cases h
    subst b
    rfl
  · split at h
    · cases h
      subst b
      rfl
    · cases h

theorem curveByte_of_read {b : Byte} {c : Option Nat} (h : readCurveIndex b = some c) : curveByte c = [b] := by
  unfold readCurveIndex at h
  split at h
  · cases h
    subst b
    rfl
  · split at h
    · cases h
      exact u8_toNat b
    · cases h

/-! #### Entries and profiles -/

theorem channelBytes_of_read {l : List Byte} {e : ChannelEntry} (h : readChannel l = some e) : channelBytes e = l := by
  unfold readChannel at h
  split at h
  · split at h
    · rename_i hen hrole hcurve hcond hstore hadv
      split at h
      · cases h
        simp only [channelBytes, yesNo_of_read hen, roleCode_of_read hrole, curveByte_of_read hcurve,
          condCode_of_read hcond, storeCode_of_read hstore, yesNo_of_read hadv, u8_toNat, i16_s16, List.cons_append,
          List.nil_append]
      · cases h
    · cases h
  · cases h

theorem pollBytes_of_read {l : List Byte} {e : PollEntry} (h : readPoll l = some e) : pollBytes e = l := by
  unfold readPoll at h
  split at h
  · rename_i mh ml _ _ _ _
    split at h
    · cases h
    · rename_i hen
      split at h
      · cases h
        have mask : (BitVec.ofNat 16 (be16 mh ml)).toNat = be16 mh ml :=
          (BitVec.toNat_ofNat _ 16).trans (Nat.mod_eq_of_lt (be16_lt mh ml))
        simp only [pollBytes, yesNo_of_read hen, mask, u8_toNat, u16_be16, List.cons_append, List.nil_append]
      · cases h
  · cases h

theorem loadBytes_of_read {id : Nat} {l : List Byte} {e : LoadEntry} (h : readLoad id l = some e) : loadBytes e = l := by
  unfold readLoad at h
  split at h
  · split at h
    · rename_i hen hshed
      split at h
      · cases h
        simp only [loadBytes, yesNo_of_read hen, yesNo_of_read hshed, u8_toNat, u16_be16, List.cons_append, List.nil_append]
      · cases h
    · cases h
  · cases h

theorem pointsBytes_of_read {l : List Byte} {pts : List (Nat × Int)} (h : readPoints l = some pts) :
    pts.flatMap pointBytes = l := by
  induction l using readPoints.induct generalizing pts with
  | case1 =>
    cases h
    rfl
  | case2 xh xl yh yl rest hx ih =>
    unfold readPoints at h
    rw [if_pos hx] at h
    obtain ⟨more, hm, rfl⟩ := Option.map_eq_some_iff.mp h
    rw [List.flatMap_cons, ih hm]
    simp only [pointBytes, u16_be16, i16_s16, List.cons_append, List.nil_append]
  | case3 xh xl yh yl rest hx =>
    unfold readPoints at h
    rw [if_neg hx] at h
    cases h
  | case4 l h0 h4 =>
    unfold readPoints at h
    split at h
    · exact absurd rfl h0
    · exact absurd rfl (h4 _ _ _ _ _)
    · cases h

theorem dosingBytes_of_read {l : List Byte} {p : DosingProfile} (h : readDosing l = some p) : dosingBytes p = l := by
  unfold readDosing at h
  split at h
  · split at h
    · rename_i hhard hsoil
      dsimp only at h
      split at h
      · cases h
        simp only [dosingBytes, curveByte_of_read hhard, curveByte_of_read hsoil, u8_toNat, u16_be16, u32_be32,
          List.cons_append, List.nil_append]
      · cases h
    · cases h
  · cases h

theorem ofNat8_toNat {n : Nat} (h : n < 256) : (BitVec.ofNat 8 n).toNat = n := (toNat_ofNat8 n).trans (Nat.mod_eq_of_lt h)

theorem readMachine_bytes {p : MachineProfile} (h : p.inRange = true) : readMachine (machineBytes p) = some p := by
  have range := h
  simp only [MachineProfile.inRange, within, Bool.and_eq_true, decide_eq_true_eq] at range
  have same : ({ heaterSafe := p.heaterSafe, overfill := p.overfill, tripTemp := p.tripTemp, maxSetpoint := p.maxSetpoint
                 hysteresis := p.hysteresis, fillStall := p.fillStall, drainTimeout := p.drainTimeout
                 strayLimit := p.strayLimit } : MachineProfile) = p := rfl
  simp only [machineBytes, u16, u8, List.cons_append, List.nil_append, readMachine]
  rw [be16_u16, be16_u16, be16_u16, be16_u16, be16_u16, be16_u16, ofNat8_toNat, ofNat8_toNat, same, if_pos h]
  all_goals omega

theorem readSoftener_bytes {p : SoftenerProfile} (h : p.inRange = true) : readSoftener (softenerBytes p) = some p := by
  have range := h
  simp only [SoftenerProfile.inRange, within, Bool.and_eq_true, decide_eq_true_eq] at range
  have auto : readYesNo (if p.auto = true then 1 else 0) = some p.auto := by cases p.auto <;> rfl
  simp only [softenerBytes, u16, u8, yesNo, List.cons_append, List.nil_append, readSoftener, auto]
  rw [be16_u16, be16_u16, be16_u16, be16_u16, be16_u16, be16_u16, be16_u16, be16_u16, ofNat8_toNat, ofNat8_toNat]
  · exact if_pos h
  all_goals omega

end Sys2Proof.Machine
end

section
/-! ### Phase records read back (R42, R44, R193) -/

namespace Sys2Proof.Machine

theorem doseByte_of_read {b : Byte} {d : Option Reservoir} (h : readDose b = some d) : doseByte d = [b] := by
  unfold readDose at h
  split at h
  · cases h
    subst b
    rfl
  · split at h
    · cases h
      subst b
      rfl
    · split at h
      · cases h
        subst b
        rfl
      · cases h

theorem pointByte_of_range {b : Byte} (h : within 0 1 b.toNat = true) :
    pointByte (if b = 0 then .atCirculate else .atSetpoint) = [b] := by
  simp only [within, Bool.and_eq_true, decide_eq_true_eq] at h
  have small : b.toNat = 0 ∨ b.toNat = 1 := by omega
  rcases small with e | e
  · have hb : b = 0 := byte_ext e
    subst hb
    rfl
  · have hb : b = 1 := byte_ext e
    subst hb
    rfl

/-- A test is written as five bytes that read as that test; an absent one is written as zeros (log 17). -/
theorem readTest_testBytes {a b c d e : Byte} {t : Option PhaseTest} (h : readTest a b c d e = some t) :
    ∃ a' b' c' d' e', testBytes t = [a', b', c', d', e'] ∧ readTest a' b' c' d' e' = some t := by
  have read := h
  unfold readTest at h
  split at h
  · cases h
  · cases h
    exact ⟨0, 0, 0, 0, 0, rfl, rfl⟩
  · rename_i present
    split at h
    · rename_i hsubject hcond
      cases h
      refine ⟨a, b, c, d, e, ?_, read⟩
      have one : (1 : Byte) = a := List.head_eq_of_cons_eq (yesNo_of_read present)
      simp only [testBytes, subjectCode_of_read hsubject, condCode_of_read hcond, u8_toNat, i16_s16, List.cons_append,
        List.nil_append, one]
    · cases h

theorem readExtra_extraBytes {a b c d e r : Byte} {t : Option ExtraTest} (h : readExtra a b c d e r = some t) :
    ∃ a' b' c' d' e' r', extraBytes t = [a', b', c', d', e', r'] ∧ readExtra a' b' c' d' e' r' = some t := by
  have read := h
  unfold readExtra at h
  split at h
  · cases h
  · cases h
    exact ⟨0, 0, 0, 0, 0, 0, rfl, rfl⟩
  · rename_i x hx
    split at h
    · rename_i few
      cases h
      obtain ⟨a', b', c', d', e', bytes, test⟩ := readTest_testBytes hx
      refine ⟨a', b', c', d', e', r, ?_, ?_⟩
      · simp only [extraBytes, bytes, u8_toNat, List.cons_append, List.nil_append]
      · unfold readExtra
        rw [test]
        exact if_pos few
    · cases h

/-- A WASH record is written as 32 bytes that read as that record. -/
theorem readWash_bodyBytes {l : List Byte} {w : WashFields} (h : readWash l = some w) :
    readWash (bodyBytes (.wash w)) = some w ∧ (bodyBytes (.wash w)).length = 32 := by
  unfold readWash at h
  split at h
  · split at h
    · rename_i dose exit extra hdose hexit hextra
      split at h
      · rename_i range
        cases h
        obtain ⟨a, b, c, d, e, exitBytes, exitRead⟩ := readTest_testBytes hexit
        obtain ⟨a', b', c', d', e', r', extraBytes', extraRead⟩ := readExtra_extraBytes hextra
        have point := range
        simp only [Bool.and_eq_true] at point
        obtain ⟨⟨⟨-, point⟩, -⟩, -⟩ := point
        simp only [bodyBytes, doseByte_of_read hdose, pointByte_of_range point, exitBytes, extraBytes', u8_toNat, u16_be16,
          List.cons_append, List.nil_append]
        refine ⟨?_, rfl⟩
        simp only [readWash, hdose, exitRead, extraRead, range, if_true]
      · cases h
    · cases h
  · cases h

theorem drainBytes_of_read {l : List Byte} {d : DrainFields} (h : readDrain l = some d) :
    bodyBytes (.drain d) = l ∧ l.length = 4 := by
  unfold readDrain at h
  split at h
  · split at h
    · cases h
      exact ⟨by simp only [bodyBytes, u16_be16, List.cons_append, List.nil_append], rfl⟩
    · cases h
  · cases h

theorem dryBytes_of_read {l : List Byte} {d : DryFields} (h : readDry l = some d) :
    bodyBytes (.dry d) = l ∧ l.length = 7 := by
  unfold readDry at h
  split at h
  · split at h
    · cases h
    · rename_i hfan
      split at h
      · cases h
        exact ⟨by simp only [bodyBytes, u16_be16, i16_s16, yesNo_of_read hfan, List.cons_append, List.nil_append], rfl⟩
      · cases h
  · cases h

/-- The body of a record is read back under its kind, and has the length of the kind. -/
theorem readBody_bodyBytes {kind : Byte} {l : List Byte} {b : PhaseBody} (h : readBody kind l = some b) :
    readBody (BitVec.ofNat 8 (kindCode b)) (bodyBytes b) = some b ∧
      recordLength (BitVec.ofNat 8 (kindCode b)) = some ((bodyBytes b).length + 4) := by
  unfold readBody at h
  split at h
  · obtain ⟨w, hw, rfl⟩ := Option.map_eq_some_iff.mp h
    obtain ⟨read, length⟩ := readWash_bodyBytes hw
    rw [length]
    exact ⟨by rw [show readBody (BitVec.ofNat 8 (kindCode (.wash w))) (bodyBytes (.wash w)) =
      (readWash (bodyBytes (.wash w))).map PhaseBody.wash from rfl, read]; rfl, rfl⟩
  · split at h
    · obtain ⟨d, hd, rfl⟩ := Option.map_eq_some_iff.mp h
      obtain ⟨bytes, length⟩ := drainBytes_of_read hd
      rw [bytes, length]
      exact ⟨by rw [show readBody (BitVec.ofNat 8 (kindCode (.drain d))) l = (readDrain l).map PhaseBody.drain from rfl, hd]; rfl,
        rfl⟩
    · split at h
      · obtain ⟨d, hd, rfl⟩ := Option.map_eq_some_iff.mp h
        obtain ⟨bytes, length⟩ := dryBytes_of_read hd
        rw [bytes, length]
        exact ⟨by rw [show readBody (BitVec.ofNat 8 (kindCode (.dry d))) l = (readDry l).map PhaseBody.dry from rfl, hd]; rfl, rfl⟩
      · cases h

theorem recordBytes_eq (p : PhaseRecord) :
    recordBytes p =
      BitVec.ofNat 8 p.tag :: BitVec.ofNat 8 (kindCode p.body) :: p.setMask :: p.clearMask :: bodyBytes p.body := rfl

/-- Settles O13, by the bytes of each kind of entry. -/
theorem recordsAndEntriesReadBack : Obligations.RecordsAndEntriesReadBack := by
  unfold Obligations.RecordsAndEntriesReadBack
  refine ⟨fun payload p h => ?_, fun l e h => by rw [channelBytes_of_read h, h], fun l e h => by rw [pollBytes_of_read h, h],
    fun id l e h => by rw [loadBytes_of_read h, h], fun l pts h => by rw [pointsBytes_of_read h, h],
    fun p h => readMachine_bytes h, fun p h => readSoftener_bytes h, fun l p h => by rw [dosingBytes_of_read h, h]⟩
  unfold readRecord at h
  split at h
  · rename_i tag kind set clear rest
    obtain ⟨body, hbody, rfl⟩ := Option.map_eq_some_iff.mp h
    obtain ⟨read, length⟩ := readBody_bodyBytes hbody
    rw [recordBytes_eq]
    refine ⟨?_, ?_⟩
    · simp only [readRecord, read, Option.map_some, BitVec.ofNat_toNat, BitVec.setWidth_eq]
    · simp only [recordLengthGood, length, List.length_cons]
      rfl
  · cases h

end Sys2Proof.Machine
end

section
/-! ### The records of an image (10.4, 10.5) -/

namespace Sys2Proof.Machine

/-! #### Sixteen records of sixteen bytes, and their sum -/

theorem padRecord_length (l : List Byte) : (padRecord l).length = 16 := by
  unfold padRecord
  rw [List.length_take, List.length_append, List.length_replicate]
  omega

theorem foldl_add_eq_sum (l : List Nat) (n : Nat) : l.foldl (· + ·) n = n + l.sum := by
  induction l generalizing n with
  | nil => rfl
  | cons a l ih => rw [List.foldl_cons, ih, List.sum_cons]; omega

theorem byteSum_eq (l : List Byte) : byteSum l = (l.map BitVec.toNat).sum := by
  unfold byteSum
  rw [foldl_add_eq_sum]
  omega

theorem byteSum_le (l : List Byte) : byteSum l ≤ 255 * l.length := by
  rw [byteSum_eq]
  induction l with
  | nil => exact Nat.le_refl _
  | cons b l ih =>
    have hb := b.isLt
    rw [List.map_cons, List.sum_cons, List.length_cons]
    omega

theorem State.slot_length (s : State) (n : Nat) : (s.slot n).length = 16 := by
  unfold State.slot
  split <;> exact padRecord_length _

theorem State.stageRecord_length (s : State) : s.stageRecord.length = 16 := by
  unfold State.stageRecord
  dsimp only
  split <;> exact padRecord_length _

theorem State.imageBody_length (s : State) (reason : Nat) : ∀ r ∈ s.imageBody reason, r.length = 16 := by
  intro r hr
  simp only [State.imageBody, List.mem_append, List.mem_cons, List.mem_map, List.not_mem_nil, or_false] at hr
  rcases hr with (rfl | ⟨n, -, rfl⟩) | rfl | rfl | rfl | rfl | rfl | rfl
  · exact padRecord_length _
  · exact s.slot_length n
  · exact s.stageRecord_length
  all_goals exact padRecord_length _

theorem flatten_length {l : List (List Byte)} {n : Nat} (h : ∀ r ∈ l, r.length = n) : l.flatten.length = l.length * n := by
  induction l with
  | nil => simp
  | cons a l ih =>
    rw [List.flatten_cons, List.length_append, h a List.mem_cons_self, ih fun r hr => h r (List.mem_cons_of_mem _ hr),
      List.length_cons]
    ring

theorem State.imageSum_le (s : State) (reason : Nat) : imageSum (s.imageBody reason) ≤ 61200 := by
  have bound := byteSum_le (s.imageBody reason).flatten
  rw [flatten_length (s.imageBody_length reason)] at bound
  exact bound

theorem State.image_records (s : State) (reason : Nat) :
    (s.image reason).records.length = 16 ∧ (∀ r ∈ (s.image reason).records, r.length = 16) ∧
      (s.image reason).phases.length = 8 := by
  refine ⟨rfl, fun r hr => ?_, rfl⟩
  rcases List.mem_append.mp hr with body | last
  · exact s.imageBody_length reason r body
  · rw [List.mem_singleton.mp last]
    rfl

/-! #### Bytes of a record -/

theorem byteAt_zero (a : Byte) (l : List Byte) : byteAt (a :: l) 0 = a.toNat := rfl

theorem byteAt_succ (a : Byte) (l : List Byte) (n : Nat) : byteAt (a :: l) (n + 1) = byteAt l n := rfl

theorem byteAt_nil (n : Nat) : byteAt [] n = 0 := rfl

theorem word_bytes (n : Nat) : n / 256 % 256 * 256 + n % 256 = n % 65536 := by omega

/-- A bit of a record's byte is that of its number. -/
theorem bitAt_eq (r : List Byte) (i bit : Nat) : bitAt r i bit = (byteAt r i).testBit bit := rfl

/-- The header. -/
theorem State.headerRecord_spec (s : State) (reason : Nat) {r : List Byte} (hr : r = s.headerRecord reason) :
    byteAt r 0 = 16 ∧ byteAt r 1 = 1 ∧ byteAt r 2 = reason % 256 ∧ byteAt r 3 = modeCode s.link.mode ∧
      wordAt r 4 = s.link.timeTag.toNat ∧ byteAt r 6 = s.eng.queue.length % 256 ∧
      ∀ b ∈ [7, 8, 9, 10, 11, 12, 13, 14, 15], byteAt r b = 0 := by
  have tag := s.link.timeTag.isLt
  have mode : modeCode s.link.mode < 256 := by unfold modeCode; split <;> decide
  rw [hr]
  simp only [State.headerRecord, u8, u16, List.cons_append, List.nil_append, List.forall_mem_cons, List.not_mem_nil,
    byteAt_padRecord, Nat.reduceLT, Nat.reduceAdd, wordAt, byteAt_zero, byteAt_succ, byteAt_nil,
    toNat_ofNat8, Nat.mod_eq_of_lt mode, true_and, and_true, false_imp_iff, implies_true]
  omega

/-- A slot that holds a record, and the sum of the record beside it. -/
theorem slotRecord_spec {p : PhaseRecord} (hn : (recordBytes p).length < 256) {r : List Byte} (hr : r = slotRecord p) :
    byteAt r 0 = 1 ∧ byteAt r 1 = p.tag % 256 ∧ byteAt r 2 = kindCode p.body ∧ byteAt r 3 = (recordBytes p).length ∧
      wordAt r 4 = byteSum (recordBytes p) ∧ byteAt r 6 = p.setMask.toNat ∧ byteAt r 7 = p.clearMask.toNat ∧
      ∀ b ∈ [8, 9, 10, 11, 12, 13, 14, 15], byteAt r b = 0 := by
  have sum := byteSum_le (recordBytes p)
  have kind : kindCode p.body < 256 := by unfold kindCode; split <;> decide
  rw [hr]
  simp only [slotRecord, u8, u16, List.cons_append, List.nil_append, List.forall_mem_cons, List.not_mem_nil,
    byteAt_padRecord, Nat.reduceLT, Nat.reduceAdd, wordAt, byteAt_zero, byteAt_succ, byteAt_nil,
    toNat_ofNat8, Nat.mod_eq_of_lt kind, Nat.mod_eq_of_lt hn, true_and, and_true, false_imp_iff, implies_true]
  exact ⟨rfl, by omega⟩

theorem testBytes_length (t : Option PhaseTest) : (testBytes t).length = 5 := by cases t <;> rfl

theorem extraBytes_length (t : Option ExtraTest) : (extraBytes t).length = 6 := by cases t <;> rfl

theorem recordBytes_length_lt (p : PhaseRecord) : (recordBytes p).length < 256 := by
  rw [recordBytes_eq]
  cases p.body with
  | drain d => exact Nat.lt_of_le_of_lt (Nat.le_refl 8) (by decide)
  | dry d => exact Nat.lt_of_le_of_lt (Nat.le_refl 11) (by decide)
  | wash w =>
    have dose : (doseByte w.dose).length = 1 := by
      cases w.dose with
      | none => rfl
      | some r => cases r <;> rfl
    have point : (pointByte w.dosePoint).length = 1 := by cases w.dosePoint <;> rfl
    simp only [bodyBytes, List.length_cons, List.length_append, testBytes_length, extraBytes_length, dose, point, u16, u8,
      List.length_nil]
    omega

/-- Four marks and a code above them in one byte. -/
theorem marks_read (a b c d : Bool) (k : Nat) {n : Nat} (h : n = a.toNat + 2 * b.toNat + 4 * c.toNat + 8 * d.toNat + 16 * k) :
    n.testBit 0 = a ∧ n.testBit 1 = b ∧ n.testBit 2 = c ∧ n.testBit 3 = d ∧ n / 16 = k := by
  have ha := a.toNat_lt
  have hb := b.toNat_lt
  have hc := c.toNat_lt
  have hd := d.toNat_lt
  have bit : ∀ (x : Bool) (m : Nat), m % 2 = x.toNat → decide (m % 2 = 1) = x := fun x m e => by
    rw [e]
    cases x <;> rfl
  simp only [Nat.testBit_eq_decide_div_mod_eq]
  refine ⟨bit a _ ?_, bit b _ ?_, bit c _ ?_, bit d _ ?_, ?_⟩ <;> omega

/-- The byte of an attempt in record 9. -/
def State.dryMarks (s : State) : Nat :=
  match s.door.dry with
  | none => 0
  | some d => d.attempt + 4 * imageAttempt d + 16 * openedByCode d.openedBy

/-- The running stage, its marks and timer, and the accounting of the last fill. -/
theorem State.stageRecord_spec (s : State) {r : List Byte} (hr : r = s.stageRecord) :
    wordAt r 7 = s.soft.vFill % 65536 ∧ wordAt r 9 = s.soft.u % 65536 ∧ (∀ b ∈ [12, 13, 14, 15], byteAt r b = 0) ∧
      (s.eng.head = none → ∀ b ∈ [0, 1, 2, 3, 4, 5, 6, 11], byteAt r b = 0) ∧
      (∀ h, s.eng.head = some h →
        byteAt r 0 = stageCode h.stage ∧ (bitAt r 1 0 = true ↔ h.runMark = .resumed) ∧ bitAt r 1 1 = h.thermostat ∧
        bitAt r 1 2 = h.doseBegun ∧ bitAt r 1 3 = h.cancelling ∧ byteAt r 1 / 16 = capturedCode h.captured ∧
        byteAt r 2 = h.repeats % 256 ∧ (byteAt r 3 * 65536 + wordAt r 4) = s.stageTimer h / 1000 % 16777216 ∧
        (s.door.dry = none → byteAt r 6 = 0) ∧
        (∀ d, s.door.dry = some d → d.attempt ≤ 3 →
          byteAt r 6 % 4 = d.attempt ∧ byteAt r 6 / 4 % 4 = imageAttempt d ∧ byteAt r 6 / 16 = openedByCode d.openedBy) ∧
        byteAt r 11 = s.headTag % 256) := by
  cases hh : s.eng.head with
  | none =>
    have bytes : r = padRecord (List.replicate 7 0 ++ (u16 s.soft.vFill ++ u16 s.soft.u)) := by
      rw [hr]
      unfold State.stageRecord
      rw [hh]
    rw [bytes]
    simp only [u16, List.replicate, List.cons_append, List.nil_append, List.forall_mem_cons, List.not_mem_nil,
      byteAt_padRecord, Nat.reduceLT, Nat.reduceAdd, wordAt, byteAt_zero, byteAt_succ, byteAt_nil,
      toNat_ofNat8, word_bytes, true_and, and_true, false_imp_iff, implies_true]
    exact ⟨fun _ => ⟨rfl, rfl, rfl, rfl, rfl, rfl, rfl⟩, nofun⟩
  | some h =>
    obtain ⟨marks, hm⟩ : ∃ n, n = (decide (h.runMark = .resumed)).toNat + 2 * h.thermostat.toNat + 4 * h.doseBegun.toNat +
      8 * h.cancelling.toNat + 16 * capturedCode h.captured := ⟨_, rfl⟩
    obtain ⟨dry, hd⟩ : ∃ n, n = s.dryMarks := ⟨_, rfl⟩
    have bytes : r = padRecord (u8 (stageCode h.stage) ++ u8 marks ++ u8 h.repeats ++ u24 (tenths (s.stageTimer h)) ++ u8 dry ++
        (u16 s.soft.vFill ++ u16 s.soft.u) ++ u8 s.headTag) := by
      rw [hr, hm, hd]
      unfold State.stageRecord
      rw [hh]
      rfl
    have captured : capturedCode h.captured < 3 := by unfold capturedCode; split <;> decide
    have stage : stageCode h.stage < 256 := by unfold stageCode; split <;> decide
    have small : marks < 256 := by
      have b0 := (decide (h.runMark = .resumed)).toNat_lt
      have b1 := h.thermostat.toNat_lt
      have b2 := h.doseBegun.toNat_lt
      have b3 := h.cancelling.toNat_lt
      omega
    obtain ⟨bit0, bit1, bit2, bit3, code⟩ := marks_read _ _ _ _ _ hm
    rw [bytes]
    simp only [u8, u16, u24, List.cons_append, List.nil_append, List.forall_mem_cons, List.not_mem_nil,
      byteAt_padRecord, Nat.reduceLT, Nat.reduceAdd, wordAt, bitAt_eq, byteAt_zero, byteAt_succ, byteAt_nil,
      toNat_ofNat8, word_bytes, Nat.mod_eq_of_lt small, true_and, and_true, false_imp_iff, implies_true]
    refine ⟨nofun, fun h' hh' => ?_⟩
    cases hh'
    refine ⟨Nat.mod_eq_of_lt stage, by rw [bit0, decide_eq_true_iff], bit1, bit2, bit3, code, rfl, ?_, fun none => ?_,
      fun d some few => ?_⟩
    · show tenths _ / 65536 % 256 * 65536 + tenths _ % 65536 = tenths _ % 16777216
      omega
    · rw [hd, State.dryMarks, none]
      rfl
    · have attempt : imageAttempt d < 4 := by
        unfold imageAttempt
        split
        · decide
        · unfold attemptCode
          split <;> decide
      have opened : openedByCode d.openedBy < 4 := by unfold openedByCode; split <;> decide
      rw [hd, State.dryMarks, some]
      dsimp only
      omega

theorem columnRecord_spec (c : Column) {r : List Byte} (hr : r = columnRecord c) :
    byteAt r 0 = columnStateCode c.state ∧ bitAt r 1 0 = c.due ∧ bitAt r 1 1 = c.saltReduced ∧
      wordAt r 2 = c.cap % 65536 ∧ ∀ b ∈ [4, 5, 6, 7, 8, 9, 10, 11, 12, 13, 14, 15], byteAt r b = 0 := by
  have state : columnStateCode c.state < 256 := by unfold columnStateCode; split <;> decide
  obtain ⟨marks, hm⟩ : ∃ n, n = c.due.toNat + 2 * c.saltReduced.toNat := ⟨_, rfl⟩
  have small : marks < 256 := by
    have b0 := c.due.toNat_lt
    have b1 := c.saltReduced.toNat_lt
    omega
  obtain ⟨bit0, bit1, -⟩ := marks_read c.due c.saltReduced false false 0 (n := marks) (by rw [hm]; rfl)
  rw [hr]
  unfold columnRecord
  rw [← hm]
  simp only [u8, u16, List.cons_append, List.nil_append, List.forall_mem_cons, List.not_mem_nil, byteAt_padRecord,
    Nat.reduceLT, Nat.reduceAdd, wordAt, bitAt_eq, byteAt_zero, byteAt_succ, byteAt_nil, toNat_ofNat8, word_bytes,
    Nat.mod_eq_of_lt small, Nat.mod_eq_of_lt state, true_and, and_true, false_imp_iff, implies_true]
  exact ⟨bit0, bit1⟩

/-- The regeneration, the position, the residues, the marks and the route. -/
theorem State.accountRecord_spec (s : State) {r : List Byte} (hr : r = s.accountRecord) :
    (s.soft.regen = none → ∀ b ∈ [0, 1, 2, 3, 4, 5], byteAt r b = 0) ∧
      (∀ g, s.soft.regen = some g →
        byteAt r 0 = (if g.column = .a then 1 else 2) ∧ byteAt r 1 = regenStageCode g.stage ∧
        wordAt r 2 = g.volume % 65536 ∧ wordAt r 4 = g.soakTimer / 1000 % 65536) ∧
      byteAt r 6 = sideCode s.soft.position ∧ wordAt r 7 = s.soft.rf % 65536 ∧ wordAt r 9 = s.soft.rl % 65536 ∧
      bitAt r 11 0 = s.soft.exhaustedMark ∧ bitAt r 11 1 = s.soft.flipTried ∧ byteAt r 12 = routeCode s.imageRoute ∧
      ∀ b ∈ [13, 14, 15], byteAt r b = 0 := by
  have side : ∀ c, sideCode c < 255 := fun c => by cases c <;> decide
  have route : routeCode s.imageRoute < 256 := by unfold routeCode; split <;> decide
  obtain ⟨marks, hm⟩ : ∃ n, n = s.soft.exhaustedMark.toNat + 2 * s.soft.flipTried.toNat := ⟨_, rfl⟩
  have small : marks < 256 := by
    have b0 := s.soft.exhaustedMark.toNat_lt
    have b1 := s.soft.flipTried.toNat_lt
    omega
  obtain ⟨bit0, bit1, -⟩ := marks_read s.soft.exhaustedMark s.soft.flipTried false false 0 (n := marks) (by rw [hm]; rfl)
  obtain ⟨a, b, c, d, e, f, regen, values⟩ : ∃ a b c d e f : Byte,
      r = padRecord ([a, b, c, d, e, f] ++ u8 (sideCode s.soft.position) ++ u16 s.soft.rf ++ u16 s.soft.rl ++ u8 marks ++
        u8 (routeCode s.imageRoute)) ∧
      ((s.soft.regen = none → a = 0 ∧ b = 0 ∧ c = 0 ∧ d = 0 ∧ e = 0 ∧ f = 0) ∧
        ∀ g, s.soft.regen = some g → a.toNat = (if g.column = .a then 1 else 2) ∧ b.toNat = regenStageCode g.stage ∧
          c.toNat * 256 + d.toNat = g.volume % 65536 ∧ e.toNat * 256 + f.toNat = g.soakTimer / 1000 % 65536) := by
    rw [hr, hm]
    unfold State.accountRecord
    cases hg : s.soft.regen with
    | none => exact ⟨0, 0, 0, 0, 0, 0, rfl, fun _ => ⟨rfl, rfl, rfl, rfl, rfl, rfl⟩, nofun⟩
    | some g =>
      refine ⟨_, _, _, _, _, _, rfl, nofun, fun g' hg' => ?_⟩
      cases hg'
      simp only [toNat_ofNat8, word_bytes]
      refine ⟨?_, ?_, trivial, rfl⟩
      · cases g.column <;> rfl
      · cases g.stage <;> rfl
  obtain ⟨none, some⟩ := values
  rw [regen]
  simp only [u8, u16, List.cons_append, List.nil_append, List.forall_mem_cons, List.not_mem_nil, byteAt_padRecord,
    Nat.reduceLT, Nat.reduceAdd, wordAt, bitAt_eq, byteAt_zero, byteAt_succ, byteAt_nil, toNat_ofNat8, word_bytes,
    Nat.mod_eq_of_lt small, Nat.mod_eq_of_lt route, true_and, and_true, false_imp_iff, implies_true]
  refine ⟨fun h => ?_, some, Nat.mod_eq_of_lt (Nat.lt_succ_of_lt (side _)), bit0, bit1⟩
  obtain ⟨rfl, rfl, rfl, rfl, rfl, rfl⟩ := none h
  exact ⟨rfl, rfl, rfl, rfl, rfl, rfl⟩

theorem State.imageRoute_stands {s : State} (h : s.soft.pulse = none ∨ s.granted .routeValve = true) :
    s.imageRoute = s.soft.route := by
  unfold State.imageRoute
  rcases h with h | h
  · rw [h]
  · split
    · rw [h]
      exact if_neg (by simp)
    · rfl

/-- A pulse that has begun and waits for its valve has left the route UNSET. -/
theorem State.imageRoute_unset {s : State} {p : RoutePulse} (h : s.soft.pulse = some p) (begun : 0 < p.timer)
    (waits : s.granted .routeValve = false) : s.imageRoute = .unset := by
  unfold State.imageRoute
  rw [h]
  exact if_pos (by simp [begun, waits])

/-- A reservoir with the dose that it has in flight. -/
theorem State.reservoirRecord_spec (s : State) (v : Reservoir) {r : List Byte} (hr : r = s.reservoirRecord v) :
    wordAt r 0 * 65536 + wordAt r 2 = (s.reservoir v).estimate % 4294967296 ∧ bitAt r 4 0 = (s.reservoir v).lowSeen ∧
      (∀ b ∈ [7, 8, 9, 10, 11, 12, 13, 14, 15], byteAt r b = 0) ∧
      (∀ d, s.dosing.dose = some d → d.reservoir = v →
        bitAt r 4 1 = true ∧ byteAt r 5 = d.total % 256 ∧ byteAt r 6 = d.done % 256) ∧
      ((∀ d, s.dosing.dose = some d → d.reservoir ≠ v) → bitAt r 4 1 = false ∧ ∀ b ∈ [5, 6], byteAt r b = 0) := by
  obtain ⟨dose, hd⟩ : ∃ x : Option Dose, x = match s.dosing.dose with
    | some d => if d.reservoir = v then some d else none
    | none => none := ⟨_, rfl⟩
  obtain ⟨marks, hm⟩ : ∃ n, n = (s.reservoir v).lowSeen.toNat + 2 * dose.isSome.toNat := ⟨_, rfl⟩
  have small : marks < 256 := by
    have b0 := (s.reservoir v).lowSeen.toNat_lt
    have b1 := dose.isSome.toNat_lt
    omega
  obtain ⟨bit0, bit1, -⟩ := marks_read (s.reservoir v).lowSeen dose.isSome false false 0 (n := marks) (by rw [hm]; rfl)
  have bytes : r = padRecord (u32 (s.reservoir v).estimate ++ u8 marks ++ u8 ((dose.map Dose.total).getD 0) ++
      u8 ((dose.map Dose.done).getD 0)) := by
    rw [hr, hm, hd]
    rfl
  have own : ∀ d, s.dosing.dose = some d → d.reservoir = v → dose = some d := fun d h g => by
    rw [hd, h]
    exact if_pos g
  have other : (∀ d, s.dosing.dose = some d → d.reservoir ≠ v) → dose = none := fun h => by
    rw [hd]
    split
    · rename_i d hs
      exact if_neg (h d hs)
    · rfl
  rw [bytes]
  simp only [u8, u32, List.cons_append, List.nil_append, List.forall_mem_cons, List.not_mem_nil, byteAt_padRecord,
    Nat.reduceLT, Nat.reduceAdd, wordAt, bitAt_eq, byteAt_zero, byteAt_succ, byteAt_nil, toNat_ofNat8,
    Nat.mod_eq_of_lt small, true_and, and_true, false_imp_iff, implies_true]
  refine ⟨by omega, bit0, fun d h g => ?_, fun h => ?_⟩
  · rw [bit1, own d h g]
    exact ⟨rfl, rfl, rfl⟩
  · rw [bit1, other h]
    exact ⟨rfl, rfl, rfl⟩

/-- The totals, the flags and the sum. -/
theorem State.totalsRecord_spec (s : State) {n : Nat} (hn : n < 65536) {r : List Byte} (hr : r = s.totalsRecord ++ u16 n) :
    wordAt r 0 = s.eng.totals.extraRinses % 65536 ∧ wordAt r 2 = s.eng.totals.doses % 65536 ∧
      wordAt r 4 * 65536 + wordAt r 6 = s.eng.totals.clock % 4294967296 ∧ byteAt r 8 = s.chan.flags.toNat ∧
      (∀ b ∈ [9, 10, 11, 12, 13], byteAt r b = 0) ∧ wordAt r 14 = n := by
  rw [hr]
  simp only [State.totalsRecord, u16, u32, List.cons_append, List.nil_append, List.forall_mem_cons, List.not_mem_nil,
    Nat.reduceAdd, wordAt, byteAt_zero, byteAt_succ, toNat_ofNat8, word_bytes, Nat.mod_eq_of_lt hn, true_and,
    and_true, false_imp_iff, implies_true]
  exact ⟨by omega, rfl, rfl, rfl, rfl, rfl⟩

/-- Settles O14, record by record. -/
theorem imageHasSixteenRecords : Obligations.ImageHasSixteenRecords := by
  unfold Obligations.ImageHasSixteenRecords
  intro s reason
  obtain ⟨count, widths, places⟩ := s.image_records reason
  have bound := s.imageSum_le reason
  obtain ⟨rinses, doses, clock, flags, blank, sum⟩ :=
    s.totalsRecord_spec (Nat.lt_of_le_of_lt bound (by decide)) (r := ((s.image reason).records[15]?).getD []) rfl
  refine ⟨count, widths, places, bound, sum, ?_⟩
  intro r zero
  have slots : ∀ n < 8, r (n + 1) = s.slot n ∧ (s.image reason).phases[n]? = some (s.slotPhase n) := by
    intro n hn
    interval_cases n <;> exact ⟨rfl, rfl⟩
  refine ⟨s.headerRecord_spec reason rfl, fun n hn => ?_, ?_, fun k c hk => ?_, ?_, fun k v hk => ?_,
    rinses, doses, clock, flags, blank⟩
  · obtain ⟨record, phase⟩ := slots n hn
    rw [record, phase]
    unfold State.slot State.slotPhase
    refine ⟨fun e => ?_, fun p e => ?_⟩
    · rw [e]
      exact ⟨rfl, rfl⟩
    · rw [e]
      obtain ⟨used, tag, kind, length, sum, set, clear, rest⟩ := slotRecord_spec (recordBytes_length_lt p) rfl
      refine ⟨used, tag, kind, length, sum, set, clear, fun b hb => ?_, rfl⟩
      have same : r (n + 1) = slotRecord p := by rw [record]; unfold State.slot; rw [e]
      rw [same]
      exact rest b hb
  · obtain ⟨vFill, u, rest, none, some⟩ := s.stageRecord_spec (r := r 9) rfl
    refine ⟨vFill, u, rest, none, fun h hh => ?_⟩
    obtain ⟨stage, resumed, thermostat, begun, cancelling, captured, repeats, timer, noDry, dry, tag⟩ := some h hh
    refine ⟨stage, resumed, thermostat, begun, cancelling, captured, repeats, timer.trans rfl, noDry, fun d hd few => ?_, tag⟩
    obtain ⟨attempt, state, opened⟩ := dry d hd few
    refine ⟨attempt, state.trans ?_, opened⟩
    unfold imageAttempt
    cases d.attState <;> rfl
  · rcases hk with ⟨rfl, rfl⟩ | ⟨rfl, rfl⟩
    · exact columnRecord_spec _ rfl
    · exact columnRecord_spec _ rfl
  · obtain ⟨none, some, position, rf, rl, mark, tried, route, rest⟩ := s.accountRecord_spec (r := r 12) rfl
    refine ⟨none, some, position, rf, rl, mark, tried, fun h => ?_, fun p h begun waits => ?_, rest⟩
    · rw [route, State.imageRoute_stands h]
    · rw [route, State.imageRoute_unset h begun waits]
      rfl
  · rcases hk with ⟨rfl, rfl⟩ | ⟨rfl, rfl⟩
    · exact s.reservoirRecord_spec .det rfl
    · exact s.reservoirRecord_spec .rinse rfl

end Sys2Proof.Machine
end

section
/-! ### Frames and requests (R191, R192) -/

namespace Sys2Proof.Machine

/-! #### A frame and its parts -/

/-- The bytes of a frame are those of its code and payload, and of nothing else. -/
theorem parseFrame_iff {bytes : List Byte} {code : Byte} {p : List Byte} :
    parseFrame bytes = some (code, p) ↔ p.length ≤ 59 ∧ bytes = buildFrame code p := by
  constructor
  · intro h
    unfold parseFrame at h
    split at h
    · rename_i sof len code' rest
      dsimp only at h
      split at h
      · rename_i good
        obtain ⟨start, least, most, length, crc⟩ := good
        cases h
        have size : (rest.take (len.toNat - 1)).length = len.toNat - 1 := by rw [List.length_take]; omega
        have len' : BitVec.ofNat 8 ((rest.take (len.toNat - 1)).length + 1) = len := by
          rw [size, Nat.sub_add_cancel least, BitVec.ofNat_toNat, BitVec.setWidth_eq]
        refine ⟨by omega, ?_⟩
        unfold buildFrame covered
        rw [len', ← crc, start]
        simp only [List.cons_append, List.take_append_drop]
      · cases h
    · cases h
  · rintro ⟨fits, rfl⟩
    have len : (BitVec.ofNat 8 (p.length + 1)).toNat = p.length + 1 := ofNat8_toNat (by omega)
    unfold buildFrame
    obtain ⟨crc, hcrc⟩ : ∃ crc, crc = u16 (crc16 (covered code p)).toNat := ⟨_, rfl⟩
    have two : crc.length = 2 := by rw [hcrc]; rfl
    rw [← hcrc]
    unfold covered at hcrc ⊢
    simp only [List.cons_append, parseFrame, len, Nat.add_sub_cancel, List.take_left, List.drop_left, List.length_append, two,
      true_and]
    exact if_pos ⟨by omega, by omega, hcrc⟩

/-! #### A code and its rows (11.2) -/

section
variable (p : List Byte)

@[simp] theorem codeOf_tblWriteOf : codeOf (tblWriteOf p) = some (0x01, p) := by
  unfold tblWriteOf; split <;> (try split) <;> (try split) <;> rfl
@[simp] theorem codeOf_tblReadOf : codeOf (tblReadOf p) = some (0x02, p) := by
  unfold tblReadOf; split <;> (try split) <;> (try split) <;> rfl
@[simp] theorem codeOf_profileWriteOf : codeOf (profileWriteOf p) = some (0x04, p) := by
  unfold profileWriteOf; split <;> (try split) <;> rfl
@[simp] theorem codeOf_profileReadOf : codeOf (profileReadOf p) = some (0x05, p) := by
  unfold profileReadOf; split <;> (try split) <;> rfl
@[simp] theorem codeOf_loadForceOf : codeOf (loadForceOf p) = some (0x21, p) := by unfold loadForceOf; split <;> rfl
@[simp] theorem codeOf_statusOf : codeOf (statusOf p) = some (0x30, p) := by unfold statusOf; split <;> rfl

/-- Each code of the request code table has a row, which has that code. -/
theorem requestOf_known {code : Byte} (h : requestCodes.contains code = true) :
    ∃ c, requestOf code p = some c ∧ codeOf c = some (code, p) := by
  simp only [requestCodes, List.contains_eq_mem, List.mem_cons, List.not_mem_nil, or_false, decide_eq_true_eq] at h
  rcases h with rfl | rfl | rfl | rfl | rfl | h
  · exact ⟨_, rfl, codeOf_tblWriteOf p⟩
  · exact ⟨_, rfl, codeOf_tblReadOf p⟩
  · exact ⟨_, rfl, rfl⟩
  · exact ⟨_, rfl, codeOf_profileWriteOf p⟩
  · exact ⟨_, rfl, codeOf_profileReadOf p⟩
  rcases h with rfl | rfl | rfl | rfl | rfl | rfl | rfl | rfl | rfl | rfl | h
  iterate 9 exact ⟨_, rfl, rfl⟩
  · exact ⟨_, rfl, codeOf_loadForceOf p⟩
  rcases h with rfl | rfl | rfl | rfl | h
  iterate 3 exact ⟨_, rfl, rfl⟩
  · exact ⟨_, rfl, codeOf_statusOf p⟩
  rcases h with rfl | rfl | rfl | rfl | rfl | rfl | rfl | rfl | rfl | rfl
  all_goals exact ⟨_, rfl, rfl⟩

/-- No other code has a row. -/
theorem requestOf_unknown {code : Byte} (h : requestCodes.contains code = false) : requestOf code p = none := by
  have named : code = BitVec.ofNat 8 code.toNat := by rw [BitVec.ofNat_toNat, BitVec.setWidth_eq]
  unfold requestOf
  split
  case h_30 => rfl
  all_goals
    rename_i e
    rw [named.trans (congrArg (BitVec.ofNat 8) e)] at h
    exact absurd h (by decide)

end

/-! #### The command of a frame -/

theorem isRequest_iff {bytes : List Byte} :
    isRequest bytes = true ↔ ∃ code p, parseFrame bytes = some (code, p) ∧ requestCodes.contains code = true := by
  unfold isRequest
  split
  · rename_i code p h
    rw [h]
    exact ⟨fun g => ⟨code, p, rfl, g⟩, fun ⟨_, _, e, g⟩ => by cases e; exact g⟩
  · rename_i h
    rw [h]
    exact ⟨nofun, fun ⟨_, _, e, _⟩ => nomatch e⟩

/-- The frame of a well-formed request is a request, and that request. -/
theorem frame_of_wellFormed {c : Instr} {bytes : List Byte} (h : WellFormed c = true) (hf : frameOf c = some bytes) :
    bytes.length ≤ 64 ∧ isRequest bytes = true ∧ commandOfFrame bytes = c := by
  obtain ⟨⟨code, p⟩, hc, rfl⟩ := Option.map_eq_some_iff.mp hf
  unfold WellFormed at h
  rw [hc] at h
  simp only [requestFormed, fits, ownRow, hc, maxPayload, Bool.and_eq_true, decide_eq_true_eq] at h
  obtain ⟨fits, own⟩ := h
  have parsed : parseFrame (buildFrame code p) = some (code, p) := parseFrame_iff.mpr ⟨of_decide_eq_true fits, rfl⟩
  have known : requestCodes.contains code = true := by
    cases hk : requestCodes.contains code with
    | true => rfl
    | false => exact nomatch own.symm.trans (requestOf_unknown p hk)
  refine ⟨?_, isRequest_iff.mpr ⟨code, p, parsed, known⟩, ?_⟩
  · have bound : p.length ≤ 59 := of_decide_eq_true fits
    show (covered code p ++ u16 _).length + 1 ≤ 64
    rw [List.length_append]
    show p.length + 2 + 2 + 1 ≤ 64
    omega
  · unfold commandOfFrame
    rw [parsed]
    dsimp only
    rw [own]
    rfl

/-- A frame that is a request names a well-formed command, whose frame it is. -/
theorem command_of_request {bytes : List Byte} (h : isRequest bytes = true) :
    WellFormed (commandOfFrame bytes) = true ∧ frameOf (commandOfFrame bytes) = some bytes := by
  obtain ⟨code, p, parsed, known⟩ := isRequest_iff.mp h
  obtain ⟨c, row, own⟩ := requestOf_known p known
  obtain ⟨size, frame⟩ := parseFrame_iff.mp parsed
  have command : commandOfFrame bytes = c := by
    unfold commandOfFrame
    rw [parsed]
    dsimp only
    rw [row]
    rfl
  rw [command]
  refine ⟨?_, ?_⟩
  · unfold WellFormed
    rw [own]
    simp only [requestFormed, fits, ownRow, own, maxPayload, Bool.and_eq_true, decide_eq_true_eq]
    exact ⟨decide_eq_true size, row⟩
  · unfold frameOf
    rw [own, frame]
    rfl

theorem command_of_other {bytes : List Byte} (h : isRequest bytes = false) :
    commandOfFrame bytes = .linkFrameDiscarded bytes := by
  unfold commandOfFrame
  split
  · rename_i code p parsed
    have unknown : requestCodes.contains code = false := Bool.eq_false_of_not_eq_true fun g =>
      nomatch h.symm.trans (isRequest_iff.mpr ⟨code, p, parsed, g⟩)
    rw [requestOf_unknown p unknown]
    rfl
  · rfl

/-! #### The receiver of the link -/

theorem receive_heard (part : List Byte) (b : Byte) :
    receive (0x5A :: part) b =
      if frameEnds (0x5A :: (part ++ [b])) then ([], some (0x5A :: (part ++ [b]))) else (0x5A :: (part ++ [b]), none) :=
  assemble_heard _ _ _ _ (List.cons_ne_nil _ _)

theorem receive_hunting {b : Byte} (h : b ≠ 0x5A) : receive [] b = ([], none) := assemble_hunting _ _ _ h

/-- A byte that comes in time is taken by the receiver (R191). -/
theorem State.hear_inTime {s : State} (on : s.receiverOff = false) (soon : s.link.heard = [] ∨ s.link.byteTimer ≤ 50)
    (b : Byte) :
    s.hear b =
      { s with
        link.heard := (receive s.link.heard b).1
        link.byteTimer := 0
        pending := s.pending ++ ((receive s.link.heard b).2.map commandOfFrame).toList } := by
  have kept : s.dropLate = s := if_pos (by
    rcases soon with e | e
    · rw [e]; rfl
    · rw [Bool.or_eq_true]
      exact .inr (decide_eq_true e))
  unfold State.hear
  rw [if_neg (by rw [on]; exact Bool.false_ne_true), kept]

/-- A byte that comes too late finds the partial frame discarded, and is a first byte (R191). -/
theorem State.hear_late {s : State} (on : s.receiverOff = false) (part : s.link.heard ≠ []) (late : 50 < s.link.byteTimer)
    (b : Byte) :
    s.hear b =
      { s with
        link.heard := if b = 0x5A then [b] else []
        link.byteTimer := 0
        pending := s.pending.filter (fun c => decide (c ≠ .linkByteTimeout s.link.heard)) } := by
  have dropped : s.dropLate =
      { s with link.heard := [], pending := s.pending.filter (fun c => decide (c ≠ .linkByteTimeout s.link.heard)) } :=
    if_neg (by
      rw [Bool.or_eq_true, List.isEmpty_iff]
      exact fun h => h.elim part fun e => absurd (of_decide_eq_true e) (Nat.not_le.mpr late))
  unfold State.hear
  rw [if_neg (by rw [on]; exact Bool.false_ne_true), dropped]
  simp [receive, assemble]

/-- Bytes without SOF are dropped, and SOF begins a frame (R191). -/
theorem State.hear_noise {noise : List Byte} {s : State} (on : s.receiverOff = false) (hunts : s.link.heard = [])
    (h : (0x5A : Byte) ∉ noise) :
    (noise ++ [0x5A]).foldl State.hear s = { s with link.heard := [0x5A], link.byteTimer := 0 } := by
  induction noise generalizing s with
  | nil =>
    rw [List.nil_append, List.foldl_cons, List.foldl_nil, State.hear_inTime on (.inl hunts), hunts]
    simp [receive, assemble]
  | cons b noise ih =>
    rw [List.mem_cons, not_or] at h
    obtain ⟨hb, hn⟩ := h
    have dropped : s.hear b = { s with link.heard := [], link.byteTimer := 0 } := by
      rw [State.hear_inTime on (.inl hunts), hunts]
      simp [receive_hunting (Ne.symm hb)]
    rw [List.cons_append, List.foldl_cons, dropped, ih (s := { s with link.heard := [], link.byteTimer := 0 }) on rfl hn]

/-- The rest of a frame whose every shorter part goes on is heard to its end, which joins the queue as a command (R191). -/
theorem State.hear_frame {rest : List Byte} {s : State} {part : List Byte} (on : s.receiverOff = false)
    (heard : s.link.heard = 0x5A :: part) (soon : s.link.byteTimer ≤ 50) (ends : frameEnds (0x5A :: (part ++ rest)) = true)
    (goesOn : ∀ a b, a ++ b = part ++ rest → b ≠ [] → frameEnds (0x5A :: a) = false) (more : rest ≠ []) :
    rest.foldl State.hear s =
      { s with
        link.heard := [], link.byteTimer := 0, pending := s.pending ++ [commandOfFrame (0x5A :: (part ++ rest))] } := by
  induction rest generalizing s part with
  | nil => exact absurd rfl more
  | cons b rest ih =>
    rw [List.foldl_cons, State.hear_inTime on (.inr soon), heard, receive_heard]
    by_cases last : rest = []
    · subst last
      rw [if_pos ends]
      rfl
    · have partial' : frameEnds (0x5A :: (part ++ [b])) = false := goesOn (part ++ [b]) rest (by simp) last
      rw [if_neg (by rw [partial']; exact Bool.false_ne_true)]
      have tail := ih (s := { s with
        link.heard := 0x5A :: (part ++ [b]), link.byteTimer := 0, pending := s.pending ++ [] }) (part := part ++ [b])
        (by simpa [State.receiverOff] using on) rfl (Nat.zero_le _) (by simpa using ends)
        (fun x y h => goesOn x y (by simpa using h)) last
      refine Eq.trans tail ?_
      simp

/-- A request's frame ends with its last byte, and not before. -/
theorem frameEnds_request {code : Byte} {p rest : List Byte} (fits : p.length ≤ 59) (h : buildFrame code p = 0x5A :: rest) :
    frameEnds (0x5A :: rest) = true ∧ ∀ a b, a ++ b = rest → b ≠ [] → frameEnds (0x5A :: a) = false := by
  have len : (BitVec.ofNat 8 (p.length + 1)).toNat = p.length + 1 := ofNat8_toNat (by omega)
  obtain ⟨tail, ht, size⟩ : ∃ tail, rest = BitVec.ofNat 8 (p.length + 1) :: tail ∧ tail.length = p.length + 3 := by
    refine ⟨_, (List.tail_eq_of_cons_eq h).symm, ?_⟩
    show (p ++ u16 _).length + 1 = _
    rw [List.length_append]
    rfl
  subst ht
  refine ⟨?_, fun a b hab more => ?_⟩
  · simp only [frameEnds, len, size, Bool.or_eq_true, decide_eq_true_eq]
    exact .inr trivial
  · cases a with
    | nil => rfl
    | cons x a =>
      rw [List.cons_append, List.cons.injEq] at hab
      obtain ⟨rfl, hab⟩ := hab
      have shorter : a.length + b.length = p.length + 3 := by rw [← List.length_append, hab, size]
      have some := List.length_pos_of_ne_nil more
      simp only [frameEnds, len, Bool.or_eq_false_iff, decide_eq_false_iff_not]
      omega

/-- Settles O12, by the parts of a frame, by the rows of the codes, and by the bytes of a frame one after another. -/
theorem framesAndRequestsAgree : Obligations.FramesAndRequestsAgree := by
  unfold Obligations.FramesAndRequestsAgree
  refine ⟨fun c bytes => frame_of_wellFormed, fun bytes => ⟨command_of_request, command_of_other⟩,
    fun s noise frame on hunts hn request => ?_, fun s len on hunts bad => ?_, fun s b off => if_pos off,
    fun s b on part late => State.hear_late on part late b⟩
  · obtain ⟨code, p, parsed, -⟩ := isRequest_iff.mp request
    obtain ⟨fits, built⟩ := parseFrame_iff.mp parsed
    obtain ⟨rest, hr⟩ : ∃ rest, buildFrame code p = 0x5A :: rest := ⟨_, rfl⟩
    obtain ⟨ends, goesOn⟩ := frameEnds_request fits hr
    have more : rest ≠ [] := fun e => by rw [e] at ends; exact nomatch ends
    rw [built, hr, ← List.singleton_append, ← List.append_assoc, List.foldl_append, State.hear_noise on hunts hn,
      State.hear_frame (s := { s with link.heard := [0x5A], link.byteTimer := 0 }) (part := []) on rfl (Nat.zero_le _) ends
        goesOn more]
    have same : ({ s.link with heard := [], byteTimer := 0 } : LinkUnit) = { s.link with byteTimer := 0 } := by rw [← hunts]
    exact congrArg (fun link : LinkUnit => { s with link := link, pending := s.pending ++ [commandOfFrame (0x5A :: rest)] }) same
  · have ends : frameEnds [0x5A, len] = true := by
      simp only [frameEnds, Bool.or_eq_true, decide_eq_true_eq]
      omega
    have start : s.hear 0x5A = { s with link.heard := [0x5A], link.byteTimer := 0 } := State.hear_noise (noise := []) on hunts nofun
    rw [List.foldl_cons, start, State.hear_frame (s := { s with link.heard := [0x5A], link.byteTimer := 0 }) (part := []) on rfl
      (Nat.zero_le _) ends (fun a b h more => ?_) (List.cons_ne_nil _ _)]
    · have same : ({ s.link with heard := [], byteTimer := 0 } : LinkUnit) = { s.link with byteTimer := 0 } := by rw [← hunts]
      exact congrArg (fun link : LinkUnit => { s with link := link, pending := s.pending ++ [Instr.linkFrameDiscarded [0x5A, len]] })
        same
    · cases a with
      | nil => rfl
      | cons x a =>
        have size := congrArg List.length h
        have some := List.length_pos_of_ne_nil more
        rw [List.nil_append, List.length_append, List.length_cons, List.length_cons, List.length_nil] at size
        have none : a.length + b.length = 0 := by omega
        omega

end Sys2Proof.Machine
end

section
/-! ### CONTEXT_WRITE: the records of a staging (R187, R188)

A record is judged on its own; what is refused discards the staging, and what passes joins it. -/

namespace Sys2Proof.Machine

section Staged

variable {s u : State} {n : Byte} {body phase : List Byte} {st : Status}

theorem judgeContextWrite_cons (size : body.length = 16) (fits : contextLengthGood n.toNat body phase = true) :
    judgeContextWrite (n :: (body ++ phase)) s = s.judgeRecord n.toNat body phase := by
  have front : (body ++ phase).take 16 = body := by rw [← size, List.take_left]
  have back : (body ++ phase).drop 16 = phase := by rw [← size, List.drop_left]
  simp only [judgeContextWrite, front, back, if_pos fits]

theorem contextWrite_length (size : body.length = 16) (short : phase.length ≤ 42) : (n :: (body ++ phase)).length ≤ 59 := by
  rw [List.length_cons, List.length_append]
  omega

theorem exec_contextWrite_refused (ready : s.ready) (size : body.length = 16) (short : phase.length ≤ 42)
    (fits : contextLengthGood n.toNat body phase = true) (h : s.judgeRecord n.toNat body phase = refuseStaging s st) :
    exec (.contextWrite (n :: (body ++ phase))) s = .next ({ s with link.staging := .empty }.respond 0x42 st []) := by
  rw [exec_of_heard rfl ready.1 (contextWrite_length size short), judgeContextWrite_cons size fits, h]
  exact congrArg Host.Outcome.next (answer_refuseWith s.discardStaging ready.2 st [] 0x42)

theorem exec_contextWrite_staged (ready : s.ready) (size : body.length = 16) (short : phase.length ≤ 42)
    (fits : contextLengthGood n.toNat body phase = true) (h : s.judgeRecord n.toNat body phase = acceptBare u)
    (settled : u.settled) : exec (.contextWrite (n :: (body ++ phase))) s = .next (u.respond 0x42 .ok []) :=
  exec_of_accept_settled rfl ready (contextWrite_length size short) ((judgeContextWrite_cons size fits).trans h) settled

end Staged

section Judged

variable {s : State} {n : Nat} {body phase : List Byte}

/-- The tests of the mode, the queue and the order come before those of the record itself (R187). -/
theorem State.judgeRecord_inOrder (mode : s.link.mode = .standby) (empty : s.eng.queue = [])
    (order : n ≠ 0 → n = s.link.staging.records.length) :
    s.judgeRecord n body phase =
      if n = 0 then (if headerGood body then acceptBare (s.discardStaging.stage body []) else refuseStaging s .order)
      else if n ≤ 8 then s.judgeSlot body phase
      else if n < 15 then acceptBare (s.stage body [])
      else s.judgeLast body := by
  unfold State.judgeRecord
  rw [if_neg (not_not_intro mode), if_neg (not_not_intro empty), if_neg (fun h => h.2 (order h.1))]

theorem State.judgeRecord_slot (mode : s.link.mode = .standby) (empty : s.eng.queue = [])
    (order : n = s.link.staging.records.length) (first : 1 ≤ n) (last : n ≤ 8) :
    s.judgeRecord n body phase = s.judgeSlot body phase := by
  rw [State.judgeRecord_inOrder mode empty fun _ => order, if_neg (by omega), if_pos last]

/-- An occupied slot that passes test 5 is judged by its phase record (R187). -/
theorem State.judgeSlot_record {p : PhaseRecord} (checked : slotChecks body phase = true) (occupied : byteAt body 0 = 1)
    (good : s.link.staging.slotGood phase = some p) : s.judgeSlot body phase = acceptBare (s.stage body [some p]) := by
  unfold State.judgeSlot
  rw [checked, Bool.not_true, if_neg Bool.false_ne_true, if_neg (by omega), good]

theorem State.judgeSlot_bad (checked : slotChecks body phase = true) (occupied : byteAt body 0 = 1)
    (bad : s.link.staging.slotGood phase = none) : s.judgeSlot body phase = refuseStaging s .badField := by
  unfold State.judgeSlot
  rw [checked, Bool.not_true, if_neg Bool.false_ne_true, if_neg (by omega), bad]

end Judged

/-- CONTEXT_WRITE of a record that is not the last: the first half of O43. -/
theorem exec_contextWrite_record (s : State) (n : Byte) (body phase : List Byte) (ready : s.ready) (size : body.length = 16)
    (short : phase.length ≤ 42) (fits : contextLengthGood n.toNat body phase = true) :
    (s.link.mode ≠ .standby →
      exec (.contextWrite (n :: (body ++ phase))) s = .next ({ s with link.staging := .empty }.respond 0x42 .wrongMode [])) ∧
    (s.link.mode = .standby → s.eng.queue ≠ [] →
      exec (.contextWrite (n :: (body ++ phase))) s = .next ({ s with link.staging := .empty }.respond 0x42 .busy [])) ∧
    (s.link.mode = .standby → s.eng.queue = [] →
      (n.toNat ≠ 0 → n.toNat ≠ s.link.staging.records.length →
        exec (.contextWrite (n :: (body ++ phase))) s =
          .next ({ s with link.staging := .empty }.respond 0x42 .order [])) ∧
      (n.toNat = 0 → headerGood body = false →
        exec (.contextWrite (n :: (body ++ phase))) s =
          .next ({ s with link.staging := .empty }.respond 0x42 .order [])) ∧
      (n.toNat = 0 → headerGood body = true →
        exec (.contextWrite (n :: (body ++ phase))) s =
          .next ({ s with link.staging := { records := [body], phases := [] } }.respond 0x42 .ok [])) ∧
      (n.toNat = s.link.staging.records.length →
        (1 ≤ n.toNat → n.toNat ≤ 8 → slotChecks body phase = false →
          exec (.contextWrite (n :: (body ++ phase))) s =
            .next ({ s with link.staging := .empty }.respond 0x42 .check [])) ∧
        (1 ≤ n.toNat → n.toNat ≤ 8 → slotChecks body phase = true → byteAt body 0 = 0 →
          exec (.contextWrite (n :: (body ++ phase))) s =
            .next ({ s with
              link.staging :=
                { records := s.link.staging.records ++ [body], phases := s.link.staging.phases ++ [none] } }.respond
              0x42 .ok [])) ∧
        (∀ p, 1 ≤ n.toNat → n.toNat ≤ 8 → slotChecks body phase = true → byteAt body 0 = 1 →
          s.link.staging.slotGood phase = some p →
          exec (.contextWrite (n :: (body ++ phase))) s =
            .next ({ s with
              link.staging :=
                { records := s.link.staging.records ++ [body], phases := s.link.staging.phases ++ [some p] } }.respond
              0x42 .ok [])) ∧
        (1 ≤ n.toNat → n.toNat ≤ 8 → slotChecks body phase = true → byteAt body 0 = 1 →
          s.link.staging.slotGood phase = none →
          exec (.contextWrite (n :: (body ++ phase))) s =
            .next ({ s with link.staging := .empty }.respond 0x42 .badField [])) ∧
        (9 ≤ n.toNat → n.toNat ≤ 14 →
          exec (.contextWrite (n :: (body ++ phase))) s =
            .next ({ s with
              link.staging := { s.link.staging with records := s.link.staging.records ++ [body] } }.respond
              0x42 .ok [])))) := by
  have refused : ∀ st, s.judgeRecord n.toNat body phase = refuseStaging s st → exec (.contextWrite (n :: (body ++ phase))) s =
      .next ({ s with link.staging := .empty }.respond 0x42 st []) := fun st =>
    exec_contextWrite_refused ready size short fits
  have staged : ∀ g : Staging, s.judgeRecord n.toNat body phase = acceptBare { s with link.staging := g } →
      exec (.contextWrite (n :: (body ++ phase))) s = .next ({ s with link.staging := g }.respond 0x42 .ok []) := fun g h =>
    exec_contextWrite_staged ready size short fits h ready.2
  refine ⟨fun mode => refused _ (if_pos mode), fun mode queue => refused _ ?_, fun mode empty => ⟨fun some other => refused _ ?_,
    fun zero bad => refused _ ?_, fun zero good => staged _ ?_, fun order => ?_⟩⟩
  · exact (if_neg (not_not_intro mode)).trans (if_pos queue)
  · exact (if_neg (not_not_intro mode)).trans ((if_neg (not_not_intro empty)).trans (if_pos ⟨some, other⟩))
  · rw [State.judgeRecord_inOrder mode empty (absurd zero), if_pos zero, if_neg (Bool.eq_false_iff.mp bad)]
  · rw [State.judgeRecord_inOrder mode empty (absurd zero), if_pos zero, if_pos good]
    rfl
  · have slot := fun first last => State.judgeRecord_slot (body := body) (phase := phase) mode empty order first last
    refine ⟨fun first last bad => refused _ ?_, fun first last good none => staged _ ?_,
      fun p first last good one record => staged _ ?_, fun first last good one none => refused _ ?_, fun first last => staged _ ?_⟩
    · rw [slot first last, State.judgeSlot, bad]
      rfl
    · rw [slot first last, State.judgeSlot, good, Bool.not_true, if_neg Bool.false_ne_true, if_pos none]
      rfl
    · exact (slot first last).trans (State.judgeSlot_record good one record)
    · exact (slot first last).trans (State.judgeSlot_bad good one none)
    · rw [State.judgeRecord_inOrder mode empty fun _ => order, if_neg (by omega), if_neg (by omega), if_pos (by omega)]
      have same : s.link.staging.phases ++ [] = s.link.staging.phases := List.append_nil _
      unfold State.stage
      rw [same]

end Sys2Proof.Machine
end

section
/-! ### The restore: the engine and its head (R189)

The profiles in effect are found as the units are loaded; what a use of one profile finds leaves the other profiles and the
other units alone. -/

namespace Sys2Proof.Machine

theorem State.useProfile_inEffect (s : State) (p : ProfileId) : (s.useProfile p).inEffect p := by
  by_cases h : s.inEffect p
  · rw [State.useProfile_of_inEffect h]
    exact h
  · exact .inl (State.useProfile_faulted h)

theorem State.setFaulted_faulted_ne (s : State) {p q : ProfileId} (h : q ≠ p) (b : Bool) :
    (s.setFaulted p b).faulted q = s.faulted q := by
  cases p <;> cases q <;> simp_all [State.setFaulted, State.faulted]

theorem State.post_faulted (s : State) (k : NoticeKind) (l n : Nat) (v : Int) (q : ProfileId) :
    (s.post k l n v).faulted q = s.faulted q := by
  cases q <;> rfl

theorem State.useProfile_faulted_ne (s : State) {p q : ProfileId} (h : q ≠ p) : (s.useProfile p).faulted q = s.faulted q := by
  by_cases e : s.inEffect p
  · rw [State.useProfile_of_inEffect e]
  · have found := s.integrityError_findsError .profile none (profileCode p)
    rw [State.useProfile_of_damaged e, State.profileChanged_faulted, State.post_faulted, State.setFaulted_faulted_ne _ h,
      found.faulted q]

/-- With no record in the queue a use of the machine profile leaves the units as they are (R52, R176). -/
theorem State.useMachine_units {s : State} (empty : s.eng.queue = []) :
    (s.useProfile .machine).eng = s.eng ∧ (s.useProfile .machine).soft = s.soft ∧
      (s.useProfile .machine).dosing = s.dosing ∧ (s.useProfile .machine).door = s.door := by
  by_cases e : s.inEffect .machine
  · rw [State.useProfile_of_inEffect e]
    exact ⟨rfl, rfl, rfl, rfl⟩
  · have found := s.integrityError_findsError .profile none (profileCode .machine)
    have same : { s.eng with queue := s.eng.queue.map (fun q => q.lowerSetpoint 750) } = s.eng := by
      rw [empty, List.map_nil, ← empty]
    refine ⟨(State.useMachine_of_damaged e).2.1.trans same, ?_⟩
    rw [State.useProfile_of_damaged e, ← found.soft, ← found.dosing, ← found.door]
    exact ⟨rfl, rfl, rfl⟩

theorem State.machine_congr {s t : State} (mark : t.faulted .machine = s.faulted .machine)
    (profile : t.eng.profile = s.eng.profile) : t.machine = s.machine := by
  have mark : t.trip.faultedMachine = s.trip.faultedMachine := mark
  unfold State.machine
  rw [mark, profile]

/-- The first half of a restore: RUN mode, the queue, and the running head (R189). -/
def State.restoreEngine (s : State) (g : Staging) : State :=
  let s := State.loadQueue (State.pollingStart { s with link.mode := .run, link.staging := .empty }) g
  match stageOfCode (byteAt (g.record 9) 0) with
  | some st => s.loadHead (g.record 9) st
  | none => s

structure State.engineLoaded (s : State) (g : Staging) (t : State) : Prop where
  link : (t.link.mode, t.link.staging, t.link.image) = (.run, .empty, s.link.image)
  units : (t.chan, t.soft, t.dosing, t.arb.zc, t.trip.latch, t.door.state) =
    (s.chan, s.soft, s.dosing, s.arb.zc, s.trip.latch, s.door.state)
  queue : t.eng.queue = g.queue.map (fun p => p.lowerSetpoint t.machine.maxSetpoint)
  idle : stageOfCode (byteAt (g.record 9) 0) = none → t.eng.state = s.eng.state ∧ t.eng.head = s.eng.head
  head : ∀ st, stageOfCode (byteAt (g.record 9) 0) = some st →
    t.eng.state = .suspended ∧ t.eng.head = some (imageStage (g.record 9) st t.machine.drainTimeout) ∧
    (t.dryHead = none → t.eng.susp = { SuspSet.empty with restored := true, door := decide (s.door.state ≠ .latched) } ∧
      t.door.dry = s.door.dry) ∧
    (t.dryHead ≠ none → t.eng.susp = { SuspSet.empty with restored := true } ∧
      t.door.dry = some (imageDry (g.record 9) st))

theorem State.loadHead_of_dry {s : State} {f : DryFields} (h : s.dryHead = some f) (r9 : List Byte) (st : Stage) :
    s.loadHead r9 st = { s with
      eng.head := some (imageStage r9 st s.machine.drainTimeout)
      eng.state := .suspended
      eng.susp := { SuspSet.empty with restored := true }
      door.dry := some (imageDry r9 st) } := by
  have dry : State.dryHead { s with
      eng.head := some (imageStage r9 st s.machine.drainTimeout)
      eng.state := .suspended
      eng.susp := { SuspSet.empty with restored := true } } = some f := h
  unfold State.loadHead
  dsimp only
  rw [dry]

theorem State.loadHead_of_notDry {s : State} (h : s.dryHead = none) (r9 : List Byte) (st : Stage) :
    s.loadHead r9 st = { s with
      eng.head := some (imageStage r9 st s.machine.drainTimeout)
      eng.state := .suspended
      eng.susp := { SuspSet.empty with restored := true, door := decide (s.door.state ≠ .latched) } } := by
  have dry : State.dryHead { s with
      eng.head := some (imageStage r9 st s.machine.drainTimeout)
      eng.state := .suspended
      eng.susp := { SuspSet.empty with restored := true } } = none := h
  unfold State.loadHead
  dsimp only
  rw [dry]
  by_cases latched : s.door.state = .latched
  · simp only [latched, if_pos, ne_eq, not_true, decide_false]
    rfl
  · simp only [latched, if_neg, ne_eq, not_false_eq_true, decide_true]
    rfl

/-- What a restore has loaded before the softener (R189). -/
theorem State.restoreEngine_spec {s : State} (empty : s.eng.queue = []) (g : Staging) :
    s.engineLoaded g (s.restoreEngine g) := by
  obtain ⟨p, hp⟩ : ∃ p, p = State.pollingStart { s with link.mode := .run, link.staging := .empty } := ⟨_, rfl⟩
  have started : p = { s with link.mode := .run, link.staging := .empty, bus := p.bus } := by
    rcases State.takeIfFree_cases _ with ⟨-, e⟩ | ⟨i, -, -, -, -, e⟩ <;> exact hp.trans e ▸ rfl
  have noPhase : p.eng.queue = [] := by rw [started]; exact empty
  obtain ⟨x, hx⟩ : ∃ x, x = p.useProfile .machine := ⟨_, rfl⟩
  obtain ⟨eng, soft, dosing, door⟩ := State.useMachine_units noPhase
  rw [← hx] at eng soft dosing door
  have acts : p.acts (fun _ => True) x := hx ▸ (State.acts.refl _ p).useProfile .machine
  obtain ⟨ns, posts⟩ := acts.posts
  have link : (x.link.mode, x.link.staging, x.link.image) = (.run, .empty, s.link.image) := by
    rw [posts, started]
    exact (congrArg (fun l : LinkUnit => (l.mode, l.staging, l.image)) (LinkUnit.posts_rest ns _) :)
  have units : (x.chan, x.soft, x.dosing, x.arb.zc, x.trip.latch, x.door.state) =
      (s.chan, s.soft, s.dosing, s.arb.zc, s.trip.latch, s.door.state) := by
    rw [acts.chan, soft, dosing, acts.latch, door, (congrArg (fun u : State => u.arb.zc) acts.rest :), started]
  have loaded : s.restoreEngine g =
      match stageOfCode (byteAt (g.record 9) 0) with
      | some st =>
        State.loadHead { x with eng.queue := g.queue.map (fun q => q.lowerSetpoint x.machine.maxSetpoint) } (g.record 9) st
      | none => { x with eng.queue := g.queue.map (fun q => q.lowerSetpoint x.machine.maxSetpoint) } := by
    rw [hx, hp]
    rfl
  have engine : x.eng.state = s.eng.state ∧ x.eng.head = s.eng.head := by rw [eng, started]; exact ⟨rfl, rfl⟩
  have doorUnit : x.door = s.door := by rw [door, started]
  cases stage : stageOfCode (byteAt (g.record 9) 0) with
  | none =>
    rw [stage] at loaded
    rw [loaded]
    exact ⟨link, units, rfl, fun _ => engine, fun st h => absurd (stage.symm.trans h) nofun⟩
  | some st =>
    rw [stage] at loaded
    obtain ⟨y, hy⟩ : ∃ y : State, y = { x with
      eng.queue := g.queue.map (fun q => q.lowerSetpoint x.machine.maxSetpoint) } := ⟨_, rfl⟩
    have loaded : s.restoreEngine g = y.loadHead (g.record 9) st := by rw [hy]; exact loaded
    have link : (y.link.mode, y.link.staging, y.link.image) = (.run, .empty, s.link.image) := by rw [hy]; exact link
    have units : (y.chan, y.soft, y.dosing, y.arb.zc, y.trip.latch, y.door.state) =
        (s.chan, s.soft, s.dosing, s.arb.zc, s.trip.latch, s.door.state) := by rw [hy]; exact units
    have queue : y.eng.queue = g.queue.map (fun q => q.lowerSetpoint y.machine.maxSetpoint) := by rw [hy]; rfl
    have doorUnit : y.door = s.door := by rw [hy]; exact doorUnit
    have other : ∀ {t : State}, t.eng.queue = y.eng.queue → (t.dryHead = y.dryHead) := fun e => by
      unfold State.dryHead State.headRecord
      rw [e]
    rw [loaded]
    cases dry : y.dryHead with
    | none =>
      rw [State.loadHead_of_notDry dry]
      refine ⟨link, units, queue, fun h => absurd (h.symm.trans stage) nofun, fun st' h => ?_⟩
      obtain rfl : st = st' := Option.some.inj (stage.symm.trans h)
      exact ⟨rfl, rfl, fun _ => ⟨by rw [← doorUnit], by rw [← doorUnit]⟩, fun h => absurd ((other rfl).trans dry) h⟩
    | some f =>
      rw [State.loadHead_of_dry dry]
      refine ⟨link, units, queue, fun h => absurd (h.symm.trans stage) nofun, fun st' h => ?_⟩
      obtain rfl : st = st' := Option.some.inj (stage.symm.trans h)
      exact ⟨rfl, rfl, fun h => absurd (h.symm.trans ((other rfl).trans dry)) nofun, fun _ => ⟨rfl, rfl⟩⟩

end Sys2Proof.Machine
end

section
/-! ### The restore: the softener, the reservoirs and the selector's move (R189) -/

namespace Sys2Proof.Machine

/-! #### The move that a restore finds or makes (R86) -/

/-- A move of the selector begins or ends: the softener's columns, the loads and the notices may differ. -/
structure State.moves (s t : State) : Prop where
  rest : t = { s with
    soft.move := t.soft.move
    soft.colA := t.soft.colA
    soft.colB := t.soft.colB
    arb.loads := t.arb.loads
    arb.evalDue := t.arb.evalDue
    link := t.link }
  posts : ∃ ns : List Notice, t.link = ns.foldl LinkUnit.post s.link

namespace State.moves

variable {s t u : State}

theorem refl (s : State) : s.moves s := ⟨rfl, [], rfl⟩

theorem trans (h : s.moves t) (g : t.moves u) : s.moves u := by
  obtain ⟨ns, hn⟩ := h.posts
  obtain ⟨ms, hm⟩ := g.posts
  exact ⟨g.rest.trans (by rw [h.rest]), ns ++ ms, by rw [hm, hn, List.foldl_append]⟩

theorem setColumn (h : s.moves t) (c : Side) (x : Column) : s.moves (t.setColumn c x) :=
  h.trans (by cases c <;> exact ⟨rfl, [], rfl⟩)

theorem post (h : s.moves t) (k : NoticeKind) (l n : Nat) (v : Int) : s.moves (t.post k l n v) := h.trans ⟨rfl, [_], rfl⟩

theorem setMove (h : s.moves t) (m : Option SelectorMove) : s.moves { t with soft.move := m } := h.trans ⟨rfl, [], rfl⟩

theorem drive (h : s.moves t) (m : SelectorMove) : s.moves (t.drive m) := h.trans ⟨rfl, [], rfl⟩

theorem hold (h : s.moves t) : t.soft.hold = s.soft.hold := (congrArg (fun x : State => x.soft.hold) h.rest :)

end State.moves

/-- While RESTORED is in the hold set no regeneration begins by itself (R104). -/
theorem State.autoCheck_of_restored {s : State} (h : s.soft.hold.restored = true) : s.autoCheck = s := by
  have held : s.soft.hold.isEmpty = false := by simp [HoldSet.isEmpty, h]
  unfold State.autoCheck
  split
  · rfl
  · exact if_neg (by simp [held])

theorem State.confirmFlip_moves {s : State} (h : s.soft.hold.restored = true) (c : Side) : s.moves (s.confirmFlip c) := by
  unfold State.confirmFlip
  dsimp only
  split
  · have old : s.moves (if (s.column (otherSide c)).state = .service then
        s.setColumn (otherSide c) { s.column (otherSide c) with state := .exhausted } else s) := by
      split
      · exact (State.moves.refl s).setColumn ..
      · exact .refl s
    generalize (if (s.column (otherSide c)).state = .service then
        s.setColumn (otherSide c) { s.column (otherSide c) with state := .exhausted } else s) = t at old ⊢
    have new := (old.setColumn c { t.column c with state := .service }).post .columnSwitched 5 (sideCode c)
      ((t.setColumn c { t.column c with state := .service }).column c).cap
    rw [State.autoCheck_of_restored (by rw [new.hold]; exact h)]
    exact new
  · exact .refl s

theorem State.moveArrived_moves {s : State} (h : s.soft.hold.restored = true) (m : SelectorMove) :
    s.moves (s.moveArrived m) := by
  unfold State.moveArrived
  split
  · exact State.confirmFlip_moves h _
  · exact .refl s
  · exact .refl s

theorem State.wakeMove_moves {s : State} (h : s.soft.hold.restored = true) : s.moves s.wakeMove := by
  unfold State.wakeMove
  split
  · exact .refl s
  · split
    · exact .refl s
    · split
      · exact ((State.moves.refl s).setMove none).trans (State.moveArrived_moves (by exact h) _)
      · exact (State.moves.refl s).drive _

/-- A move that is no FLIP leaves the columns as they are (R86). -/
theorem State.wakeMove_columns {s : State} (h : ∀ m, s.soft.move = some m → m.purpose ≠ .flip) :
    s.wakeMove.soft.colA = s.soft.colA ∧ s.wakeMove.soft.colB = s.soft.colB := by
  unfold State.wakeMove
  split
  · exact ⟨rfl, rfl⟩
  · rename_i m found
    split
    · exact ⟨rfl, rfl⟩
    · split
      · have arrived : ∀ t : State, t.moveArrived m = t := fun t => by
          unfold State.moveArrived
          split
          · rename_i flip
            exact absurd flip (h m found)
          · rfl
          · rfl
        rw [arrived]
        exact ⟨rfl, rfl⟩
      · exact ⟨rfl, rfl⟩

/-- A misaligned service column's SET move drives, for the position is not at its target (R86). -/
theorem State.createSet_drives {s : State} {c : Side} (mode : s.link.mode = .run) (away : s.soft.position ≠ c)
    (eff : s.inEffect .softener) :
    State.createMove { s with soft.move := none } .set c =
      State.drive { s with soft.move := none } (s.newMove .set c) := by
  have eff : State.inEffect { s with soft.move := none } .softener := eff
  unfold State.createMove
  rw [State.useProfile_of_inEffect eff]
  dsimp only
  rw [if_pos mode, if_neg away]
  rfl

theorem State.restoreMove_moves {s : State} (h : s.soft.hold.restored = true) (mode : s.link.mode = .run)
    (eff : s.inEffect .softener) : s.moves s.restoreMove := by
  unfold State.restoreMove
  split
  · split
    · exact State.wakeMove_moves h
    · rename_i away
      rw [State.createSet_drives mode away eff]
      exact ((State.moves.refl s).setMove none).drive _
  · exact State.wakeMove_moves h

theorem State.restoreMove_columns {s : State} (h : ∀ m, s.soft.move = some m → m.purpose ≠ .flip)
    (mode : s.link.mode = .run) (eff : s.inEffect .softener) :
    s.restoreMove.soft.colA = s.soft.colA ∧ s.restoreMove.soft.colB = s.soft.colB := by
  unfold State.restoreMove
  split
  · split
    · exact State.wakeMove_columns h
    · rename_i away
      rw [State.createSet_drives mode away eff]
      exact ⟨rfl, rfl⟩
  · exact State.wakeMove_columns h

/-! #### The softener and the reservoirs (R128, R189) -/

/-- What the load of a unit with its profile leaves alone. -/
structure State.loadsBy (s : State) (p : ProfileId) (t : State) : Prop where
  units : (t.eng, t.arb, t.door, t.chan, t.trip.latch) = (s.eng, s.arb, s.door, s.chan, s.trip.latch)
  posts : ∃ ns : List Notice, t.link = ns.foldl LinkUnit.post s.link
  effect : t.inEffect p
  marks : ∀ q, q ≠ p → t.faulted q = s.faulted q

theorem State.useProfile_loadsBy (s : State) {p : ProfileId} (hp : p ≠ .machine) : s.loadsBy p (s.useProfile p) := by
  have used := (State.doses.refl s).useProfile hp
  obtain ⟨eng, arb⟩ := State.useProfile_eng_arb (s := s) hp
  exact ⟨by rw [eng, arb, used.door, used.acts.chan, used.acts.latch], used.acts.posts, s.useProfile_inEffect p,
    fun q => s.useProfile_faulted_ne⟩

theorem State.setReservoir_dose (s : State) (r : Reservoir) (x : ReservoirState) :
    (s.setReservoir r x).dosing.dose = s.dosing.dose := by
  cases r <;> rfl

/-- A use of a dosing profile can lower the reservoir's estimate and no more (R113, R176). -/
theorem State.useDosing_units (s : State) (r : Reservoir) :
    (s.useProfile (dosingProfileId r)).soft = s.soft ∧
      (s.useProfile (dosingProfileId r)).dosing.dose = s.dosing.dose ∧
      (∃ n, (s.useProfile (dosingProfileId r)).reservoir r = { s.reservoir r with estimate := n }) ∧
      ∀ v, v ≠ r → (s.useProfile (dosingProfileId r)).reservoir v = s.reservoir v := by
  by_cases e : s.inEffect (dosingProfileId r)
  · rw [State.useProfile_of_inEffect e]
    exact ⟨rfl, rfl, ⟨_, rfl⟩, fun _ _ => rfl⟩
  · have found := s.integrityError_findsError .profile none (profileCode (dosingProfileId r))
    refine ⟨?_, ?_, ⟨_, (State.useDosing_of_damaged e).2⟩, fun v hv => ?_⟩
    · rw [State.useProfile_of_damaged e, ← found.soft]
      cases r <;> rfl
    · rw [State.useProfile_of_damaged e, ← found.dosing]
      cases r <;> rfl
    · rw [State.useProfile_of_damaged e, ← found.reservoir v]
      cases r <;> cases v <;> simp_all [dosingProfileId, State.profileChanged, State.lowerEstimate, State.setReservoir,
        State.reservoir, State.setFaulted, State.post]

theorem State.dosingProfile_congr {s t : State} {r : Reservoir}
    (mark : t.faulted (dosingProfileId r) = s.faulted (dosingProfileId r))
    (profile : (t.reservoir r).profile = (s.reservoir r).profile) : t.dosingProfile r = s.dosingProfile r := by
  unfold State.dosingProfile
  rw [mark, profile]

theorem State.softener_congr {s t : State} (mark : t.faulted .softener = s.faulted .softener)
    (profile : t.soft.profile = s.soft.profile) : t.softener = s.softener := by
  have mark : t.trip.faultedSoftener = s.trip.faultedSoftener := mark
  unfold State.softener
  rw [mark, profile]

theorem State.loadReservoir_spec (s : State) (r : Reservoir) (rec : List Byte) :
    s.loadsBy (dosingProfileId r) (s.loadReservoir r rec) ∧
      (s.loadReservoir r rec).soft = s.soft ∧ (s.loadReservoir r rec).dosing.dose = s.dosing.dose ∧
      (s.loadReservoir r rec).reservoir r = { s.reservoir r with
        estimate := min (wordAt rec 0 * 65536 + wordAt rec 2) ((s.loadReservoir r rec).dosingProfile r).capacity
        lowSeen := bitAt rec 4 0 } ∧
      ∀ v, v ≠ r → (s.loadReservoir r rec).reservoir v = s.reservoir v := by
  obtain ⟨soft, dose, ⟨n, own⟩, other⟩ := s.useDosing_units r
  have used := s.useProfile_loadsBy (p := dosingProfileId r) (by cases r <;> nofun)
  obtain ⟨x, hx⟩ : ∃ x, x = s.useProfile (dosingProfileId r) := ⟨_, rfl⟩
  rw [← hx] at soft dose own other used
  obtain ⟨e, he⟩ : ∃ e : ReservoirState, e = { x.reservoir r with
    estimate := min (wordAt rec 0 * 65536 + wordAt rec 2) (x.dosingProfile r).capacity, lowSeen := bitAt rec 4 0 } := ⟨_, rfl⟩
  have loaded : s.loadReservoir r rec = x.setReservoir r e := by rw [he, hx]; rfl
  have marks : ∀ q, (x.setReservoir r e).faulted q = x.faulted q := fun q => by cases r <;> cases q <;> rfl
  have profile : (x.setReservoir r e).dosingProfile r = x.dosingProfile r :=
    State.dosingProfile_congr (marks _) (by rw [State.setReservoir_reservoir, if_pos rfl, he])
  have units : ((x.setReservoir r e).eng, (x.setReservoir r e).arb, (x.setReservoir r e).door, (x.setReservoir r e).chan,
      (x.setReservoir r e).trip.latch) = (x.eng, x.arb, x.door, x.chan, x.trip.latch) := by cases r <;> rfl
  rw [loaded, profile]
  refine ⟨⟨units.trans used.units, ?_, ?_, fun q h => (marks q).trans (used.marks q h)⟩, ?_, ?_, ?_, fun v h => ?_⟩
  · rw [show (x.setReservoir r e).link = x.link by cases r <;> rfl]
    exact used.posts
  · exact used.effect.imp (marks _).trans fun sound => by
      rw [he]
      cases r <;> exact sound
  · rw [show (x.setReservoir r e).soft = x.soft by cases r <;> rfl, soft]
  · rw [State.setReservoir_dose, dose]
  · rw [State.setReservoir_reservoir, if_pos rfl, he, own]
  · rw [State.setReservoir_reservoir, if_neg h, other v h]

/-- The softener's record as an image carries it (R189). -/
theorem State.loadSoftener_spec (s : State) (g : Staging) :
    s.loadsBy .softener (s.loadSoftener g) ∧ (s.loadSoftener g).dosing = s.dosing ∧
      (s.loadSoftener g).soft = { s.soft with
        colA := imageColumn (s.loadSoftener g).softener (g.record 10)
        colB := imageColumn (s.loadSoftener g).softener (g.record 11)
        regen := imageRegen (g.record 12)
        rf := wordAt (g.record 12) 7
        rl := wordAt (g.record 12) 9
        exhaustedMark := bitAt (g.record 12) 11 0
        flipTried := bitAt (g.record 12) 11 1
        route := (routeOfCode (byteAt (g.record 12) 12)).getD .unset
        tLast := none
        vFill := wordAt (g.record 9) 7
        u := wordAt (g.record 9) 9
        hold := { mains := false, restored := true } } := by
  have used := s.useProfile_loadsBy (p := .softener) nofun
  have dosing := ((State.softens.refl s).useProfile).dosing
  obtain ⟨a, b, soft⟩ := ((State.doses.refl s).useProfile (p := .softener) nofun).soft
  obtain ⟨x, hx⟩ : ∃ x, x = s.useProfile .softener := ⟨_, rfl⟩
  rw [← hx] at used dosing soft
  have loaded : (s.loadSoftener g).soft = { x.soft with
      colA := imageColumn (s.loadSoftener g).softener (g.record 10)
      colB := imageColumn (s.loadSoftener g).softener (g.record 11)
      regen := imageRegen (g.record 12)
      rf := wordAt (g.record 12) 7
      rl := wordAt (g.record 12) 9
      exhaustedMark := bitAt (g.record 12) 11 0
      flipTried := bitAt (g.record 12) 11 1
      route := (routeOfCode (byteAt (g.record 12) 12)).getD .unset
      tLast := none
      vFill := wordAt (g.record 9) 7
      u := wordAt (g.record 9) 9
      hold := { mains := false, restored := true } } := by
    rw [hx]
    rfl
  refine ⟨?_, ?_, ?_⟩
  · have units : s.loadsBy .softener (s.loadSoftener g) := by
      unfold State.loadSoftener
      rw [← hx]
      exact ⟨used.units, used.posts, used.effect, used.marks⟩
    exact units
  · rw [← dosing, hx]
    rfl
  · rw [loaded, soft]

end Sys2Proof.Machine
end

section
/-! ### The restore: what an image that is applied leaves in every unit (R189) -/

namespace Sys2Proof.Machine

/-- The units as the records of an image load them, before the selector's move and the sensors are judged (R189). -/
def State.restoreUnits (s : State) (g : Staging) (r15 : List Byte) : State :=
  let s := (s.restoreEngine g).loadSoftener g
  let s := (s.loadReservoir .det (g.record 13)).loadReservoir .rinse (g.record 14)
  let s := (s.loadDose .det (g.record 13)).loadDose .rinse (g.record 14)
  (s.loadTotals r15).loadMains

theorem State.restore_eq (s : State) (g : Staging) (r15 : List Byte) :
    s.restore g r15 =
      ((s.restoreUnits g r15).restoreMove.judgeLeak.restoreSensors (stageOfCode (byteAt (g.record 9) 0)).isSome).markEval :=
  rfl

/-- The dose in flight that records 13 and 14 carry (R128). -/
def Staging.dose (g : Staging) (tag : Nat) (before : Option Dose) : Option Dose :=
  let carried := fun (r : Reservoir) (rec : List Byte) =>
    some ({ reservoir := r, tag := tag, dose := 0, total := byteAt rec 5, done := byteAt rec 6, state := .paused, timer := 0 } :
      Dose)
  if bitAt (g.record 14) 4 1 then carried .rinse (g.record 14)
  else if bitAt (g.record 13) 4 1 then carried .det (g.record 13)
  else before

structure State.imageLoaded (s : State) (g : Staging) (r15 : List Byte) (t : State) : Prop where
  link : (t.link.mode, t.link.staging, t.link.image) = (.run, .empty, s.link.image)
  chan : t.chan = { s.chan with flags := (r15[8]?).getD 0 }
  latch : t.trip.latch = s.trip.latch
  effect : t.inEffect .softener
  queue : t.eng.queue = g.queue.map (fun p => p.lowerSetpoint t.machine.maxSetpoint)
  totals : t.eng.totals = {
    fillVolume := 0
    extraRinses := wordAt r15 0
    doses := wordAt r15 2
    clock := wordAt r15 4 * 65536 + wordAt r15 6
    part := 0
    held := t.underWay }
  idle : stageOfCode (byteAt (g.record 9) 0) = none → t.eng.state = s.eng.state ∧ t.eng.head = s.eng.head
  head : ∀ st, stageOfCode (byteAt (g.record 9) 0) = some st →
    t.eng.state = .suspended ∧ t.eng.head = some (imageStage (g.record 9) st t.machine.drainTimeout) ∧
    (t.dryHead = none → t.eng.susp = { SuspSet.empty with
        restored := true, door := decide (s.door.state ≠ .latched), mains := decide (s.arb.zc.presence = .absent) } ∧
      t.door.dry = s.door.dry) ∧
    (t.dryHead ≠ none → t.eng.susp = { SuspSet.empty with
        restored := true, mains := decide (s.arb.zc.presence = .absent) } ∧
      t.door.dry = some (imageDry (g.record 9) st))
  soft : t.soft = { s.soft with
    colA := t.soft.colA
    colB := t.soft.colB
    move := t.soft.move
    regen := imageRegen (g.record 12)
    rf := wordAt (g.record 12) 7
    rl := wordAt (g.record 12) 9
    exhaustedMark := bitAt (g.record 12) 11 0
    flipTried := bitAt (g.record 12) 11 1
    route := (routeOfCode (byteAt (g.record 12) 12)).getD .unset
    tLast := none
    vFill := wordAt (g.record 9) 7
    u := wordAt (g.record 9) 9
    hold := { mains := decide (s.arb.zc.presence = .absent), restored := true } }
  columns : (∀ m, s.soft.move = some m → m.purpose ≠ .flip) →
    t.soft.colA = imageColumn t.softener (g.record 10) ∧ t.soft.colB = imageColumn t.softener (g.record 11)
  det : t.reservoir .det = { s.reservoir .det with
    estimate := min (wordAt (g.record 13) 0 * 65536 + wordAt (g.record 13) 2) (t.dosingProfile .det).capacity
    lowSeen := bitAt (g.record 13) 4 0 }
  rinse : t.reservoir .rinse = { s.reservoir .rinse with
    estimate := min (wordAt (g.record 14) 0 * 65536 + wordAt (g.record 14) 2) (t.dosingProfile .rinse).capacity
    lowSeen := bitAt (g.record 14) 4 0 }
  dose : t.dosing.dose = g.dose t.headTag s.dosing.dose

theorem State.loadDose_eq (s : State) (r : Reservoir) (rec : List Byte) :
    s.loadDose r rec = { s with
      dosing.dose :=
        if bitAt rec 4 1 then
          some { reservoir := r, tag := s.headTag, dose := 0, total := byteAt rec 5, done := byteAt rec 6, state := .paused,
                 timer := 0 }
        else s.dosing.dose } := by
  unfold State.loadDose
  split
  · rfl
  · rfl

theorem State.loadMains_eq (s : State) :
    s.loadMains = { s with
      soft.hold := { s.soft.hold with mains := decide (s.arb.zc.presence = .absent) || s.soft.hold.mains }
      eng.susp := { s.eng.susp with
        mains := decide (s.arb.zc.presence = .absent) && decide (s.eng.state = .suspended) || s.eng.susp.mains } } := by
  unfold State.loadMains
  split
  · rename_i absent
    rw [absent]
    split
    · rename_i suspended
      rw [suspended]
      rfl
    · rename_i other
      simp [other]
  · rename_i present
    simp [present]

/-- The units that the records of an image load (R189). -/
theorem State.restoreUnits_loaded {s : State} (empty : s.eng.queue = []) (g : Staging) (r15 : List Byte) :
    s.imageLoaded g r15 (s.restoreUnits g r15) ∧ (s.restoreUnits g r15).soft.move = s.soft.move := by
  have engine := State.restoreEngine_spec empty g
  obtain ⟨a, ha⟩ : ∃ a, a = s.restoreEngine g := ⟨_, rfl⟩
  obtain ⟨byB, dosingB, softB⟩ := a.loadSoftener_spec g
  obtain ⟨b, hb⟩ : ∃ b, b = a.loadSoftener g := ⟨_, rfl⟩
  obtain ⟨byC, softC, doseC, ownC, otherC⟩ := b.loadReservoir_spec .det (g.record 13)
  obtain ⟨c, hc⟩ : ∃ c, c = b.loadReservoir .det (g.record 13) := ⟨_, rfl⟩
  obtain ⟨byD, softD, doseD, ownD, otherD⟩ := c.loadReservoir_spec .rinse (g.record 14)
  obtain ⟨d, hd⟩ : ∃ d, d = c.loadReservoir .rinse (g.record 14) := ⟨_, rfl⟩
  rw [← ha] at engine
  rw [← hb] at byB dosingB softB
  rw [← hc] at byC softC doseC ownC otherC
  rw [← hd] at byD softD doseD ownD otherD
  have unitsD := byD.units.trans (byC.units.trans byB.units)
  simp only [Prod.mk.injEq] at unitsD
  obtain ⟨engD, arbD, doorD, chanD, latchD⟩ := unitsD
  have unitsA := engine.units
  simp only [Prod.mk.injEq] at unitsA
  obtain ⟨chanA, softA, dosingA, zcA, latchA, doorA⟩ := unitsA
  have machine : d.machine = a.machine := State.machine_congr
    (((byD.marks .machine nofun).trans (byC.marks .machine nofun)).trans (byB.marks .machine nofun)) (by rw [engD])
  have markD : d.faulted .softener = b.faulted .softener := (byD.marks .softener nofun).trans (byC.marks .softener nofun)
  have softener : d.softener = b.softener := State.softener_congr markD (by rw [softD, softC])
  have effect : d.inEffect .softener := byB.effect.imp markD.trans fun sound => by
    unfold State.profileSound at sound ⊢
    rw [softD, softC]
    exact sound
  have det : d.dosingProfile .det = c.dosingProfile .det :=
    State.dosingProfile_congr (byD.marks .det nofun) (by rw [otherD .det nofun])
  have link : (d.link.mode, d.link.staging, d.link.image) = (.run, .empty, s.link.image) := by
    obtain ⟨ns, postsB⟩ := byB.posts
    obtain ⟨ms, postsC⟩ := byC.posts
    obtain ⟨ls, postsD⟩ := byD.posts
    rw [postsD, postsC, postsB, ← List.foldl_append, ← List.foldl_append, ← engine.link]
    exact (congrArg (fun l : LinkUnit => (l.mode, l.staging, l.image)) (LinkUnit.posts_rest _ a.link) :)
  have dose : d.dosing.dose = s.dosing.dose := by rw [doseD, doseC, dosingB, dosingA]
  have zc : d.arb.zc = s.arb.zc := by rw [arbD, zcA]
  have loaded : s.restoreUnits g r15 = { d with
      dosing.dose := g.dose d.headTag d.dosing.dose
      chan.flags := (r15[8]?).getD 0
      soft.hold := { d.soft.hold with mains := decide (d.arb.zc.presence = .absent) || d.soft.hold.mains }
      eng.totals := {
        fillVolume := 0
        extraRinses := wordAt r15 0
        doses := wordAt r15 2
        clock := wordAt r15 4 * 65536 + wordAt r15 6
        part := 0
        held := d.underWay }
      eng.susp := { d.eng.susp with
        mains := decide (d.arb.zc.presence = .absent) && decide (d.eng.state = .suspended) || d.eng.susp.mains } } := by
    unfold State.restoreUnits
    dsimp only
    rw [← ha, ← hb, ← hc, ← hd, State.loadDose_eq, State.loadDose_eq, State.loadMains_eq]
    rfl
  generalize s.restoreUnits g r15 = t at loaded ⊢
  have chan : t.chan = { d.chan with flags := (r15[8]?).getD 0 } := by rw [loaded]
  have eng : t.eng.queue = d.eng.queue ∧ t.eng.state = d.eng.state ∧ t.eng.head = d.eng.head ∧ t.door = d.door ∧
      t.machine = d.machine ∧ t.dryHead = d.dryHead := by rw [loaded]; exact ⟨rfl, rfl, rfl, rfl, rfl, rfl⟩
  have susp : t.eng.susp = { d.eng.susp with
      mains := decide (d.arb.zc.presence = .absent) && decide (d.eng.state = .suspended) || d.eng.susp.mains } := by
    rw [loaded]
  have soft : t.soft = { d.soft with
      hold := { d.soft.hold with mains := decide (d.arb.zc.presence = .absent) || d.soft.hold.mains } } := by rw [loaded]
  have profiles : t.softener = d.softener ∧ ∀ r, t.dosingProfile r = d.dosingProfile r ∧ t.reservoir r = d.reservoir r := by
    rw [loaded]
    exact ⟨rfl, fun r => by cases r <;> exact ⟨rfl, rfl⟩⟩
  obtain ⟨queue, state, head, door, machineT, dryT⟩ := eng
  obtain ⟨softenerT, profiles⟩ := profiles
  have dry : t.dryHead = a.dryHead := by rw [dryT]; unfold State.dryHead State.headRecord; rw [engD]
  refine ⟨⟨by rw [loaded]; exact link, ?_, by rw [loaded]; exact latchD.trans latchA, by rw [loaded]; exact effect, ?_,
    by rw [loaded]; rfl, fun h => ?_, fun st h => ?_, ?_, fun h => ?_, ?_, ?_, ?_⟩, ?_⟩
  · rw [chan, chanD, chanA]
  · rw [queue, machineT, engD, machine]
    exact engine.queue
  · rw [state, head, engD]
    exact engine.idle h
  · obtain ⟨suspended, stage, other, drying⟩ := engine.head st h
    have suspendedD : d.eng.state = .suspended := by rw [engD, suspended]
    rw [state, head, machineT, machine, susp, door, suspendedD, zc, engD, stage, dry, doorD]
    refine ⟨rfl, rfl, fun none => ?_, fun dries => ?_⟩
    · obtain ⟨set, same⟩ := other none
      rw [set]
      exact ⟨by simp [SuspSet.empty], same⟩
    · obtain ⟨set, record⟩ := drying dries
      rw [set]
      exact ⟨by simp [SuspSet.empty], record⟩
  · rw [soft, zc, softD, softC, softB, softA]
    simp
  · rw [soft, softenerT, softener, softD, softC, softB]
    exact ⟨rfl, rfl⟩
  · rw [(profiles .det).1, (profiles .det).2, det, otherD .det nofun, ownC, State.reservoir_of_dosing dosingB,
      State.reservoir_of_dosing dosingA]
  · rw [(profiles .rinse).1, (profiles .rinse).2, ownD, otherC .rinse nofun, State.reservoir_of_dosing dosingB,
      State.reservoir_of_dosing dosingA]
  · rw [loaded, ← dose]
    rfl
  · rw [soft, softD, softC, softB, softA]

end Sys2Proof.Machine
end

section
/-! ### The restore: the codes of an image, and O43 (R188, R189) -/

namespace Sys2Proof.Machine

/-- The selector's move leaves what an image has loaded (R86). -/
theorem State.imageLoaded.restoreMove {s t : State} {g : Staging} {r15 : List Byte} (h : s.imageLoaded g r15 t)
    (move : t.soft.move = s.soft.move) : s.imageLoaded g r15 t.restoreMove := by
  have restored : t.soft.hold.restored = true := by rw [h.soft]
  have mode : t.link.mode = .run := congrArg Prod.fst h.link
  have moves := State.restoreMove_moves restored mode h.effect
  have columns := fun e => State.restoreMove_columns (s := t) e mode h.effect
  rw [move] at columns
  obtain ⟨ns, posts⟩ := moves.posts
  have rest := moves.rest
  generalize t.restoreMove = u at columns posts rest ⊢
  have link : (u.link.mode, u.link.staging, u.link.image) = (.run, .empty, s.link.image) := by
    rw [← h.link, posts]
    exact (congrArg (fun l : LinkUnit => (l.mode, l.staging, l.image)) (LinkUnit.posts_rest ns _) :)
  have eng : u.eng = t.eng := (congrArg (fun x : State => x.eng) rest :)
  have door : u.door = t.door := (congrArg (fun x : State => x.door) rest :)
  have trip : u.trip = t.trip := (congrArg (fun x : State => x.trip) rest :)
  have dosing : u.dosing = t.dosing := (congrArg (fun x : State => x.dosing) rest :)
  have soft : u.soft = { t.soft with move := u.soft.move, colA := u.soft.colA, colB := u.soft.colB } :=
    (congrArg (fun x : State => x.soft) rest :)
  have machine : u.machine = t.machine := by unfold State.machine; rw [eng, trip]
  have softener : u.softener = t.softener := by unfold State.softener; rw [soft, trip]
  have dry : u.dryHead = t.dryHead := by unfold State.dryHead State.headRecord; rw [eng]
  have faulted : ∀ p, u.faulted p = t.faulted p := fun p => by cases p <;> simp [State.faulted, trip]
  have profile : ∀ r, u.dosingProfile r = t.dosingProfile r ∧ u.reservoir r = t.reservoir r := fun r =>
    ⟨State.dosingProfile_congr (faulted _) (by rw [State.reservoir_of_dosing dosing]), State.reservoir_of_dosing dosing r⟩
  refine ⟨link, ?_, ?_, ?_, ?_, ?_, ?_, ?_, ?_, fun e => ?_, ?_, ?_, ?_⟩
  · exact (congrArg (fun x : State => x.chan) rest :).trans h.chan
  · rw [trip]; exact h.latch
  · exact h.effect.imp (faulted _).trans fun sound => by
      unfold State.profileSound at sound ⊢
      rw [soft]
      exact sound
  · rw [eng, machine]; exact h.queue
  · rw [eng, h.totals]
    unfold State.underWay
    rw [eng]
  · rw [eng]; exact h.idle
  · rw [eng, machine, dry, door]; exact h.head
  · rw [soft, h.soft]
  · rw [(columns e).1, (columns e).2, softener]
    exact h.columns e
  · rw [(profile .det).1, (profile .det).2]
    exact h.det
  · rw [(profile .rinse).1, (profile .rinse).2]
    exact h.rinse
  · rw [dosing, h.dose]
    unfold State.headTag State.headRecord
    rw [eng]

/-! #### The sensors are judged last (R167, R168) -/

theorem State.tripCause_latches {s : State} (h : s.link.mode ≠ .standby) (c : Cause) : (s.tripCause c).trip.latch = true := by
  cases latch : s.trip.latch with
  | false => exact (State.latch_of_tripCause h latch c).1
  | true =>
    rw [State.tripCause_again h latch]
    exact latch

theorem State.judgeRoleNow_cases {s : State} (h : s.link.mode ≠ .standby) (r : Role) :
    s.judgeRoleNow r = s ∨ (s.judgeRoleNow r).trip.latch = true := by
  unfold State.judgeRoleNow
  split
  · exact .inr (State.tripCause_latches h _)
  · exact .inl rfl

theorem State.judgeRoleNow_mode (s : State) (r : Role) : (s.judgeRoleNow r).link.mode = s.link.mode := by
  unfold State.judgeRoleNow
  split
  · exact State.of_outer (fun t => t.link.mode) (State.outer_tripCause s _)
  · rfl

/-- What is judged after the image is loaded sets the latch, or nothing has changed (R167, R168). -/
theorem State.judgedLast_cases {s : State} (h : s.link.mode ≠ .standby) (running : Bool) :
    s.judgeLeak.restoreSensors running = s ∨ (s.judgeLeak.restoreSensors running).trip.latch = true := by
  have leak : s.judgeLeak = s ∨ s.judgeLeak.trip.latch = true := by
    unfold State.judgeLeak
    split
    · exact .inr (State.tripCause_latches h _)
    · exact .inl rfl
  have sensors : ∀ t : State, t.link.mode ≠ .standby → t.restoreSensors running = t ∨
      (t.restoreSensors running).trip.latch = true := fun t ht => by
    unfold State.restoreSensors State.judgeSensorsNow
    split
    · have mode : (t.judgeRoleNow .tubTemp).link.mode ≠ .standby := by rw [State.judgeRoleNow_mode]; exact ht
      rcases State.judgeRoleNow_cases mode .tubLevel with e | e
      · rw [e]
        exact State.judgeRoleNow_cases ht _
      · exact .inr e
    · exact .inl rfl
  have mode : s.judgeLeak.link.mode ≠ .standby := by rw [State.judgeLeak_mode]; exact h
  rcases sensors _ mode with e | e
  · rw [e]
    exact leak
  · exact .inr e

end Sys2Proof.Machine
end

section
/-! ### O43: what an accepted image leaves, item by item (R188, R189) -/

namespace Sys2Proof.Machine

/-! #### The codes of a consistent staging -/

theorem stageCode_of_read {n : Nat} {st : Stage} (h : stageOfCode n = some st) : stageCode st = n := by
  unfold stageOfCode at h
  split at h <;> cases h <;> rfl

theorem regenStageCode_of_read {n : Nat} {st : RegenStage} (h : regenStageOfCode n = some st) : regenStageCode st = n := by
  unfold regenStageOfCode at h
  split at h <;> cases h <;> rfl

theorem columnStateCode_of_read {n : Nat} {x : ColumnState} (h : columnStateOfCode n = some x) : columnStateCode x = n :=
  code_of_place (by decide) h

/-- A code below the number of its names reads as the name at its place. -/
theorem code_of_getD {α : Type} {names : List α} {code : α → Nat} (h : names.map code = List.range names.length) {n : Nat}
    (bound : n < names.length) (other : α) : code ((names[n]?).getD other) = n := by
  rw [List.getElem?_eq_getElem bound]
  exact code_of_place h (List.getElem?_eq_getElem bound)

theorem capturedCode_of_read {n : Nat} (h : n ≤ 2) : capturedCode ((capturedOfCode n).getD .none) = n :=
  code_of_getD (names := [Captured.none, .false, .true]) (by decide) (Nat.lt_succ_of_le h) _

theorem routeCode_of_read {n : Nat} (h : n ≤ 2) : routeCode ((routeOfCode n).getD .unset) = n :=
  code_of_getD (names := [Route.unset, .tub, .regen]) (by decide) (Nat.lt_succ_of_le h) _

theorem openedByCode_of_read {n : Nat} (h : n < 4) : openedByCode ((openedByOfCode n).getD .none) = n :=
  code_of_getD (names := [OpenedBy.none, .actuator, .user, .fault]) (by decide) h _

theorem attemptCode_imageDry {r9 : List Byte} (h : (byteAt r9 6 / 4) % 4 ≠ 2) (st : Stage) :
    attemptCode (imageDry r9 st).attState = byteAt r9 6 / 4 % 4 := by
  have bound : byteAt r9 6 / 4 % 4 < 4 := Nat.mod_lt _ (by decide)
  show attemptCode (match byteAt r9 6 / 4 % 4 with
    | 1 => AttemptState.requested
    | 3 => AttemptState.resting
    | _ => AttemptState.none) = _
  generalize byteAt r9 6 / 4 % 4 = n at h bound ⊢
  match n, h, bound with
  | 0, _, _ => rfl
  | 1, _, _ => rfl
  | 2, h, _ => exact absurd rfl h
  | 3, _, _ => rfl

theorem stageGood_cases {queue : List PhaseRecord} {r9 : List Byte} (h : stageGood queue r9 = true) :
    byteAt r9 0 = 0 ∨ ∃ st, stageOfCode (byteAt r9 0) = some st := by
  unfold stageGood at h
  split at h
  · exact .inl (of_decide_eq_true h)
  · cases stage : stageOfCode (byteAt r9 0) with
    | some st => exact .inr ⟨st, rfl⟩
    | none => exact .inl (by simpa [stage] using h)

theorem columnAgrees_read {side : Side} {r r12 : List Byte} (h : columnAgrees side r r12 = true) :
    ∃ x, columnStateOfCode (byteAt r 0) = some x := by
  cases state : columnStateOfCode (byteAt r 0) with
  | some x => exact ⟨x, rfl⟩
  | none => simp [columnAgrees, state] at h

/-- What consistency says of the coded fields (R188). -/
structure Staging.readable (g : Staging) : Prop where
  stage : byteAt (g.record 9) 0 = 0 ∨ ∃ st, stageOfCode (byteAt (g.record 9) 0) = some st
  captured : (byteAt (g.record 9) 1 / 16) % 4 ≤ 2
  attempt : (byteAt (g.record 9) 6 / 4) % 4 ≠ 2
  colA : ∃ x, columnStateOfCode (byteAt (g.record 10) 0) = some x
  colB : ∃ x, columnStateOfCode (byteAt (g.record 11) 0) = some x
  named : byteAt (g.record 12) 0 = 0 ↔ byteAt (g.record 12) 1 = 0
  regenStage : byteAt (g.record 12) 1 ≤ 3
  route : byteAt (g.record 12) 12 ≤ 2
  oneDose : ¬ (bitAt (g.record 13) 4 1 = true ∧ bitAt (g.record 14) 4 1 = true)

theorem Staging.readable_of_consistent {g : Staging} (h : g.consistent = true) : g.readable := by
  simp only [Staging.consistent, Bool.and_eq_true] at h
  obtain ⟨⟨⟨⟨⟨⟨⟨-, stage⟩, codes⟩, -⟩, account⟩, a⟩, b⟩, flags⟩ := h
  simp only [stageCodesGood, Bool.and_eq_true, decide_eq_true_eq] at codes
  simp only [accountGood, within, Bool.and_eq_true, decide_eq_true_eq, beq_iff_eq, decide_eq_decide] at account
  simp only [doseFlagsGood, Bool.and_eq_true, Bool.not_eq_true', Bool.and_eq_false_iff] at flags
  obtain ⟨⟨captured, -⟩, attempt⟩ := codes
  obtain ⟨⟨⟨⟨-, named⟩, regen⟩, -⟩, route⟩ := account
  refine ⟨stageGood_cases stage, captured, attempt, columnAgrees_read a, columnAgrees_read b, named, regen.2, route.2, ?_⟩
  rintro ⟨d, r⟩
  rcases flags.1 with e | e
  · exact absurd (d.symm.trans e) nofun
  · exact absurd (r.symm.trans e) nofun

/-! #### The items -/

section Items

variable {s t : State} {g : Staging} {r15 : List Byte} (h : s.imageLoaded g r15 t)
include h

theorem State.imageLoaded.idleHead (none : byteAt (g.record 9) 0 = 0) :
    t.eng.state = s.eng.state ∧ t.eng.head = s.eng.head := h.idle (by rw [none]; rfl)

/-- The columns where no FLIP waits (R189). -/
theorem State.imageLoaded.columnRecord (read : g.readable) (noFlip : ∀ m, s.soft.move = some m → m.purpose ≠ .flip) {k : Nat}
    {c : Column} (place : k = 10 ∧ c = t.soft.colA ∨ k = 11 ∧ c = t.soft.colB) :
    columnStateCode c.state = byteAt (g.record k) 0 ∧ c.cap = min (wordAt (g.record k) 2) t.softener.rated ∧
      c.due = decide (c.cap ≤ t.softener.reserve) ∧ c.saltReduced = bitAt (g.record k) 1 1 := by
  have item : ∀ r : List Byte, (∃ x, columnStateOfCode (byteAt r 0) = some x) →
      columnStateCode (imageColumn t.softener r).state = byteAt r 0 := fun r ⟨x, hx⟩ => by
    show columnStateCode ((columnStateOfCode (byteAt r 0)).getD .offline) = _
    rw [hx]
    exact columnStateCode_of_read hx
  obtain ⟨colA, colB⟩ := h.columns noFlip
  rcases place with ⟨rfl, rfl⟩ | ⟨rfl, rfl⟩
  · rw [colA]
    exact ⟨item _ read.colA, rfl, rfl, rfl⟩
  · rw [colB]
    exact ⟨item _ read.colB, rfl, rfl, rfl⟩

/-- The regeneration in the stage that record 12 names (R189). -/
theorem State.imageLoaded.regeneration (read : g.readable) (some : byteAt (g.record 12) 0 ≠ 0) :
    ∃ x, t.soft.regen = Option.some x ∧ x.column = (if byteAt (g.record 12) 0 = 1 then .a else .b) ∧
      regenStageCode x.stage = byteAt (g.record 12) 1 ∧ x.flowing = false ∧ x.volume = wordAt (g.record 12) 2 ∧
      x.soakTimer = wordAt (g.record 12) 4 * 1000 := by
  obtain ⟨st, stage⟩ : ∃ st, regenStageOfCode (byteAt (g.record 12) 1) = Option.some st := by
    have nonzero := fun e => some (read.named.mpr e)
    have bound := read.regenStage
    generalize byteAt (g.record 12) 1 = n at nonzero bound
    match n, nonzero, bound with
    | 0, e, _ => exact absurd rfl e
    | 1, _, _ => exact ⟨_, rfl⟩
    | 2, _, _ => exact ⟨_, rfl⟩
    | 3, _, _ => exact ⟨_, rfl⟩
  have regen : t.soft.regen = imageRegen (g.record 12) := by rw [h.soft]
  rw [regen, imageRegen, stage]
  exact ⟨_, if_neg some, rfl, regenStageCode_of_read stage, rfl, rfl, rfl⟩

theorem State.imageLoaded.noRegeneration (none : byteAt (g.record 12) 0 = 0) : t.soft.regen = Option.none := by
  have regen : t.soft.regen = imageRegen (g.record 12) := by rw [h.soft]
  rw [regen, imageRegen]
  split
  · rfl
  · exact if_pos none

/-- A reservoir with the dose in flight that its record marks (R128). -/
theorem State.imageLoaded.reservoirRecord (read : g.readable) {k : Nat} {v : Reservoir}
    (place : k = 13 ∧ v = .det ∨ k = 14 ∧ v = .rinse) :
    (t.reservoir v).estimate =
        min (wordAt (g.record k) 0 * 65536 + wordAt (g.record k) 2) (t.dosingProfile v).capacity ∧
      (t.reservoir v).lowSeen = bitAt (g.record k) 4 0 ∧ (t.reservoir v).lowTold = (s.reservoir v).lowTold ∧
      (bitAt (g.record k) 4 1 = true →
        t.dosing.dose = some
          { reservoir := v
            tag := ((g.queue.head?).map PhaseRecord.tag).getD 0
            dose := 0
            total := byteAt (g.record k) 5
            done := byteAt (g.record k) 6
            state := .paused
            timer := 0 }) := by
  have tag : t.headTag = ((g.queue.head?).map PhaseRecord.tag).getD 0 := by
    unfold State.headTag State.headRecord
    rw [h.queue]
    cases g.queue with
    | nil => rfl
    | cons p _ => exact PhaseRecord.lowerSetpoint_tag p _
  rcases place with ⟨rfl, rfl⟩ | ⟨rfl, rfl⟩
  · have other : bitAt (g.record 13) 4 1 = true → ¬ bitAt (g.record 14) 4 1 = true := fun d r => read.oneDose ⟨d, r⟩
    rw [h.dose, h.det, tag]
    exact ⟨rfl, rfl, rfl, fun d => (if_neg (other d)).trans (if_pos d)⟩
  · rw [h.dose, h.rinse, tag]
    exact ⟨rfl, rfl, rfl, fun d => if_pos d⟩

theorem State.imageLoaded.noDose (det : bitAt (g.record 13) 4 1 = false) (rinse : bitAt (g.record 14) 4 1 = false) :
    t.dosing.dose = s.dosing.dose := by
  rw [h.dose, Staging.dose, det, rinse]
  rfl

variable (read : g.readable) (some : byteAt (g.record 9) 0 ≠ 0)
include read some

theorem State.imageLoaded.suspendedHead :
    t.eng.state = .suspended ∧ t.eng.susp.restored = true ∧ t.eng.totals.held = true ∧
      t.eng.head.map (fun h => stageCode h.stage) = Option.some (byteAt (g.record 9) 0) := by
  obtain ⟨st, stage⟩ := read.stage.resolve_left some
  obtain ⟨state, head, other, drying⟩ := h.head st stage
  refine ⟨state, ?_, ?_, ?_⟩
  · by_cases dry : t.dryHead = none
    · rw [(other dry).1]
    · rw [(drying dry).1]
  · rw [h.totals]
    simp [State.underWay, state]
  · rw [head]
    exact congrArg Option.some (stageCode_of_read stage)

/-- The reasons that suspend a loaded head, and the DRY record of a DRY head (R134, R189). -/
theorem State.imageLoaded.suspension {x : StageRecord} (head : t.eng.head = Option.some x) :
    t.eng.susp.mains = decide (s.arb.zc.presence = .absent) ∧ t.eng.susp.host = false ∧ t.eng.susp.noWater = false ∧
    (t.dryHead = none → t.eng.susp.door = decide (s.door.state ≠ .latched) ∧ t.door.dry = s.door.dry) ∧
    (t.dryHead ≠ none → t.eng.susp.door = false ∧
      ∃ d, t.door.dry = Option.some d ∧ d.attempt = byteAt (g.record 9) 6 % 4 ∧
        attemptCode d.attState = byteAt (g.record 9) 6 / 4 % 4 ∧ d.window = 0 ∧
        openedByCode d.openedBy = byteAt (g.record 9) 6 / 16 % 4 ∧
        d.condense = (if x.stage = .condense then
          (byteAt (g.record 9) 3 * 65536 + wordAt (g.record 9) 4) * 1000 else 0) ∧
        d.rest = (if x.stage = .opening then (byteAt (g.record 9) 3 * 65536 + wordAt (g.record 9) 4) * 1000 else 0) ∧
        d.vent = (if x.stage = .vent then (byteAt (g.record 9) 3 * 65536 + wordAt (g.record 9) 4) * 1000 else 0)) := by
  obtain ⟨st, stage⟩ := read.stage.resolve_left some
  obtain ⟨-, loaded, other, drying⟩ := h.head st stage
  obtain rfl := Option.some.inj (loaded.symm.trans head)
  have openedBy := openedByCode_of_read (n := byteAt (g.record 9) 6 / 16 % 4) (Nat.mod_lt _ (by decide))
  by_cases dry : t.dryHead = none
  · obtain ⟨susp, same⟩ := other dry
    rw [susp]
    exact ⟨rfl, rfl, rfl, fun _ => ⟨rfl, same⟩, fun e => absurd dry e⟩
  · obtain ⟨susp, record⟩ := drying dry
    rw [susp]
    exact ⟨rfl, rfl, rfl, fun e => absurd e dry,
      fun _ => ⟨rfl, _, record, rfl, attemptCode_imageDry read.attempt st, rfl, openedBy, rfl, rfl, rfl⟩⟩

/-- The stage record that record 9 carries (R189). -/
theorem State.imageLoaded.stageRecord {x : StageRecord} (head : t.eng.head = Option.some x) :
    (x.runMark = .resumed ↔ bitAt (g.record 9) 1 0 = true) ∧ x.thermostat = bitAt (g.record 9) 1 1 ∧
    x.doseBegun = bitAt (g.record 9) 1 2 ∧ x.cancelling = bitAt (g.record 9) 1 3 ∧
    capturedCode x.captured = byteAt (g.record 9) 1 / 16 % 4 ∧ x.repeats = byteAt (g.record 9) 2 ∧
    x.stallTimer = (if x.stage = .fill then (byteAt (g.record 9) 3 * 65536 + wordAt (g.record 9) 4) * 1000 else 0) ∧
    x.heatTimer = (if x.stage = .circulate then (byteAt (g.record 9) 3 * 65536 + wordAt (g.record 9) 4) * 1000 else 0) ∧
    x.holdTimer = (if x.stage = .hold then (byteAt (g.record 9) 3 * 65536 + wordAt (g.record 9) 4) * 1000 else 0) ∧
    x.drainTimer = (if x.stage = .drain then (byteAt (g.record 9) 3 * 65536 + wordAt (g.record 9) 4) * 1000 else 0) := by
  obtain ⟨st, stage⟩ := read.stage.resolve_left some
  obtain ⟨-, loaded, -⟩ := h.head st stage
  obtain rfl := Option.some.inj (loaded.symm.trans head)
  refine ⟨?_, rfl, rfl, rfl, capturedCode_of_read read.captured, rfl, rfl, rfl, rfl, rfl⟩
  show (if bitAt (g.record 9) 1 0 = true then RunMark.resumed else .new) = .resumed ↔ _
  split
  · rename_i marked
    exact ⟨fun _ => marked, fun _ => rfl⟩
  · rename_i marked
    exact ⟨nofun, fun e => absurd e marked⟩

end Items

end Sys2Proof.Machine
end

section
/-! ### O43: the last record of a staging (R188, R189) -/

namespace Sys2Proof.Machine

theorem contextLengthGood_bare {n : Nat} {body : List Byte} (size : body.length = 16) : contextLengthGood n body [] = true := by
  simp [contextLengthGood, size]

section Last

variable {s : State} {body : List Byte} (ready : s.ready) (size : body.length = 16)
include ready size

theorem exec_contextWrite_last_refused {st : Status} (h : s.judgeRecord 15 body [] = refuseStaging s st) :
    exec (.contextWrite (15 :: body)) s = .next ({ s with link.staging := .empty }.respond 0x42 st []) := by
  have refused := exec_contextWrite_refused (n := 15) (phase := []) ready size (Nat.zero_le 42) (contextLengthGood_bare size) h
  rwa [List.append_nil] at refused

theorem exec_contextWrite_last {u : State} (h : s.judgeRecord 15 body [] = acceptBare u) :
    exec (.contextWrite (15 :: body)) s = .next (u.settle.respond 0x42 .ok []) := by
  have long : (15 :: (body ++ []) : List Byte).length ≤ 59 := contextWrite_length (phase := []) size (Nat.zero_le 42)
  have judged : judgeContextWrite (15 :: (body ++ [])) s = acceptBare u :=
    (judgeContextWrite_cons size (contextLengthGood_bare size)).trans h
  rw [List.append_nil] at long judged
  exact exec_of_accept rfl ready long judged

end Last

/-- What stands after a restore whether or not a trip follows it (R189). -/
theorem State.restore_kept {s : State} (empty : s.eng.queue = []) (g : Staging) (r15 : List Byte) :
    (s.restore g r15).link.mode = .run ∧ (s.restore g r15).link.staging = .empty ∧
      (s.restore g r15).link.image = s.link.image ∧ (s.restore g r15).soft.hold.restored = true ∧
      (s.restore g r15).soft.hold.mains = decide (s.arb.zc.presence = .absent) ∧ (s.restore g r15).soft.tLast = none ∧
      (s.restore g r15).soft.vFill = wordAt (g.record 9) 7 ∧ (s.restore g r15).chan.flags = (r15[8]?).getD 0 ∧
      (s.restore g r15).chan.active = s.chan.active := by
  obtain ⟨loaded, move⟩ := State.restoreUnits_loaded empty g r15
  have h := loaded.restoreMove move
  have outer : (s.restore g r15).outer = (s.restoreUnits g r15).restoreMove.outer := by
    rw [State.restore_eq, State.outer_markEval]
    unfold State.restoreSensors
    split
    · rw [State.outer_judgeSensorsNow, State.judgeLeak_outer]
    · exact State.judgeLeak_outer _
  have link := h.link
  simp only [Prod.mk.injEq] at link
  obtain ⟨mode, staging, image⟩ := link
  generalize (s.restoreUnits g r15).restoreMove = w at h outer mode staging image
  refine ⟨(State.of_outer (fun t => t.link.mode) outer).trans mode, (State.of_outer (fun t => t.link.staging) outer).trans staging,
    (State.of_outer (fun t => t.link.image) outer).trans image, (State.of_outer (fun t => t.soft.hold.restored) outer).trans ?_,
    (State.of_outer (fun t => t.soft.hold.mains) outer).trans ?_, (State.of_outer (fun t => t.soft.tLast) outer).trans ?_,
    (State.of_outer (fun t => t.soft.vFill) outer).trans ?_, (State.of_outer (fun t => t.chan.flags) outer).trans ?_,
    (State.of_outer (fun t => t.chan.active) outer).trans ?_⟩
  · exact congrArg (fun x : SoftenerUnit => x.hold.restored) h.soft
  · exact congrArg (fun x : SoftenerUnit => x.hold.mains) h.soft
  · exact congrArg SoftenerUnit.tLast h.soft
  · exact congrArg SoftenerUnit.vFill h.soft
  · exact congrArg ChannelUnit.flags h.chan
  · exact (congrArg ChannelUnit.active h.chan :)

/-- Without a trip the image stands as it was loaded, and an evaluation is due. -/
theorem State.restore_loaded {s : State} (empty : s.eng.queue = []) {g : Staging} {r15 : List Byte}
    (clear : (s.restore g r15).trip.latch = false) : ∃ w, s.imageLoaded g r15 w ∧ s.restore g r15 = w.markEval := by
  obtain ⟨loaded, move⟩ := State.restoreUnits_loaded empty g r15
  have h := loaded.restoreMove move
  have mode : (s.restoreUnits g r15).restoreMove.link.mode ≠ .standby := fun standby =>
    absurd ((congrArg Prod.fst h.link).symm.trans standby) nofun
  rw [State.restore_eq] at clear ⊢
  rcases State.judgedLast_cases mode (stageOfCode (byteAt (g.record 9) 0)).isSome with e | latched
  · exact ⟨_, h, congrArg State.markEval e⟩
  · exact absurd (latched.symm.trans clear) nofun

/-- Settles O43, by the tests of a record in their order, and by what each record of an accepted image loads. -/
theorem contextWriteStagesAndRestores : Obligations.ContextWriteStagesAndRestores := by
  refine ⟨exec_contextWrite_record, fun s body ready size mode empty count => ?_⟩
  have last : s.judgeRecord 15 body [] = s.judgeLast body := State.judgeRecord_inOrder mode empty fun _ => count.symm
  have refused : ∀ st, s.judgeLast body = refuseStaging s st →
      exec (.contextWrite (15 :: body)) s = .next ({ s with link.staging := .empty }.respond 0x42 st []) := fun st h =>
    exec_contextWrite_last_refused ready size (last.trans h)
  refine ⟨fun sum => refused _ (if_pos sum), fun sum bad => refused _ ?_, fun sum good => ⟨fun latch => refused _ ?_,
    fun latch tables => refused _ ?_, fun latch tables => ?_⟩⟩
  · simp [State.judgeLast, sum, bad]
  · simp [State.judgeLast, sum, good, latch]
  · simp [State.judgeLast, sum, good, latch, tables]
  · have read := Staging.readable_of_consistent good
    have accepted : s.judgeLast body = acceptBare (s.restore s.link.staging body) := by
      simp [State.judgeLast, sum, good, latch, tables]
    obtain ⟨run, staging, image, restored, mains, tLast, vFill, flags, active⟩ := State.restore_kept empty s.link.staging body
    refine ⟨_, exec_contextWrite_last ready size (last.trans accepted), run, staging, image, restored, mains, tLast, vFill,
      flags, active, fun clear => ?_⟩
    obtain ⟨w, h, e⟩ := State.restore_loaded empty clear
    rw [e]
    have soft := h.soft
    refine ⟨h.queue, congrArg Totals.clock h.totals, congrArg Totals.fillVolume h.totals, h.idleHead, h.suspendedHead read,
      fun x some head => ?_, fun noFlip k c place => h.columnRecord read noFlip place, h.noRegeneration,
      h.regeneration read, ?_, ?_, ?_, ?_, ?_, ?_, fun k v place => h.reservoirRecord read place, h.noDose,
      congrArg Totals.extraRinses h.totals, congrArg Totals.doses h.totals⟩
    · obtain ⟨mark, thermostat, begun, cancelling, captured, repeats, stall, heat, hold, drain⟩ := h.stageRecord read some head
      exact ⟨mark, thermostat, begun, cancelling, captured, repeats, stall, heat, hold, drain, h.suspension read some head⟩
    · exact congrArg SoftenerUnit.rf soft
    · exact congrArg SoftenerUnit.rl soft
    · exact congrArg SoftenerUnit.exhaustedMark soft
    · exact congrArg SoftenerUnit.flipTried soft
    · exact (congrArg (fun x : SoftenerUnit => routeCode x.route) soft).trans (routeCode_of_read read.route)
    · exact congrArg SoftenerUnit.u soft

end Sys2Proof.Machine
end

section
/-! ### What stands granted at the end of an event (R149 to R155)

An evaluation leaves its grants and wait causes in place (`State.grantsStand`). What follows it within the event calls for a further
evaluation where it touches anything that they were judged on (`State.asksAgain`). -/

namespace Sys2Proof.Machine

/-- What the interlocks, the requests and the wait causes are judged on, with the loads themselves. -/
def State.judgedOn (s : State) :=
  (s.arb.loads, s.arb.active, s.arb.flood, s.arb.zc.presence, s.trip.latch, s.chan, s.machine,
    (s.soft.holder, s.soft.progress, s.soft.route), s.door.state)

/-- The grants are those that an evaluation leaves: each is requested, available and within its interlock, and each load has
its wait cause. -/
structure State.grantsStand (s : State) : Prop where
  fit : s.allFit
  wanted : ∀ l, s.isGranted l = true → s.requested l = true
  causes : ∀ l, (s.load l).cause = s.causeOf l

section Congr

variable {s t : State} (h : t.judgedOn = s.judgedOn)
include h

theorem State.judgedOn_load (l : LoadId) : t.load l = s.load l := by
  simp only [State.judgedOn, Prod.mk.injEq] at h
  simp [State.load, h]

theorem State.judgedOn_requested (l : LoadId) : t.requested l = s.requested l := by
  have loads := State.judgedOn_load h l
  simp only [State.judgedOn, Prod.mk.injEq] at h
  simp [State.requested, loads, h]

theorem State.judgedOn_isGranted (l : LoadId) : t.isGranted l = s.isGranted l := by
  simp [State.isGranted, State.judgedOn_load h l]

theorem State.judgedOn_available (l : LoadId) : t.available l = s.available l := by
  simp only [State.judgedOn, Prod.mk.injEq] at h
  simp [State.available, State.loadEntry, h]

theorem State.judgedOn_interlock (l : LoadId) : t.interlock l = s.interlock l := by
  have granted := State.judgedOn_isGranted h
  simp only [State.judgedOn, Prod.mk.injEq] at h
  obtain ⟨-, -, flood, presence, latch, chan, machine, ⟨holder, progress, route⟩, door⟩ := h
  have fresh : t.fresh .tubLevel = s.fresh .tubLevel := by unfold State.fresh State.roleFreshness State.bound; rw [chan]
  have level : t.roleValue .tubLevel = s.roleValue .tubLevel := by unfold State.roleValue State.bound; rw [chan]
  cases l <;>
    simp only [State.interlock, State.commonInterlock, State.heaterInterlock, State.inletInterlock, State.inletOnTub,
      fresh, level, granted, flood, presence, latch, machine, holder, progress, route, door]

theorem State.grantsStand_congr (p : s.grantsStand) : t.grantsStand := by
  have granted := State.judgedOn_isGranted h
  have requested := State.judgedOn_requested h
  have available := State.judgedOn_available h
  have interlock := State.judgedOn_interlock h
  refine ⟨fun l g => ?_, fun l g => ?_, fun l => ?_⟩
  · rw [available, interlock]
    exact p.fit l (granted l ▸ g)
  · rw [requested]
    exact p.wanted l (granted l ▸ g)
  · rw [State.judgedOn_load h, p.causes]
    simp only [State.causeOf, granted, requested, available, interlock]

end Congr

/-! #### What an evaluation leaves -/

/-- The arbiter gives grants to requested loads only. -/
def State.onlyWanted (s : State) : Prop := ∀ l, s.isGranted l = true → s.requested l = true

theorem State.withdraws.onlyWanted {s t : State} (w : s.withdraws t) (h : s.onlyWanted) : t.onlyWanted := fun l g => by
  rw [w.regrants.requested]
  exact h l (w.granted g)

theorem State.turn_onlyWanted {s : State} (h : s.onlyWanted) (l : LoadId) : (s.turn l).onlyWanted := by
  rcases s.turn_cases l with e | ⟨candidate, -, t, g, e, -, -, shed⟩
  · rw [e]
    exact h
  · have w : s.withdraws t := by
      rcases shed with rfl | ⟨need, rfl⟩
      · exact .refl _
      · exact .shed ..
    have wanted : t.requested l = true := by
      rw [w.regrants.requested]
      simp only [State.candidate, Bool.and_eq_true] at candidate
      exact candidate.1.1
    rw [e]
    intro k hk
    rw [(State.regrants.setGrant t l (some g)).requested]
    rw [State.isGranted_setGrant] at hk
    split at hk
    · subst k
      exact wanted
    · exact w.onlyWanted h k hk

theorem State.placing_onlyWanted {s : State} (h : s.onlyWanted) : s.placing.onlyWanted := by
  have pass : (State.budgetCut 11 s.passOne).grantPass.onlyWanted :=
    State.grantPass_induct (p := State.onlyWanted) (fun t l ht => State.turn_onlyWanted ht l) _
      ((State.withdraws.budgetCut 11 _).onlyWanted ((State.withdraws.passOne s).onlyWanted h))
  intro l g
  rw [State.placing, State.upgrade_isGranted] at g
  rw [State.placing, (State.regrants.upgrade _).requested]
  exact pass l g

theorem State.acts.foldl {α : Type} {L : LoadId → Prop} {f : State → α → State} (hf : ∀ (t : State) (a : α), t.acts L (f t a))
    (l : List α) (s : State) : s.acts L (l.foldl f s) := by
  induction l generalizing s with
  | nil => exact .refl L s
  | cons a l ih => exact (hf s a).trans (ih _)

/-- The checks before the passes only mark what they find (R174). -/
theorem State.checks_acts (s : State) : s.acts (fun _ => False) s.checkHeater.checkEntries := by
  have heater : s.acts (fun _ => False) s.checkHeater := by
    unfold State.checkHeater
    split
    · exact (State.acts.refl _ s).useProfile .machine
    · exact .refl _ s
  refine heater.trans (State.acts.foldl (fun t l => ?_) _ _)
  split
  · exact (State.acts.refl _ t).integrityError ..
  · exact .refl _ t

theorem State.acts.isGranted {L : LoadId → Prop} {s t : State} (h : s.acts L t) (l : LoadId) :
    t.isGranted l = s.isGranted l := by
  unfold State.isGranted
  rw [(h.stands l).1]

theorem State.acts.floodKept {L : LoadId → Prop} {s t : State} (h : s.acts L t) (f : s.floodKept) : t.floodKept := by
  intro e
  rw [h.flood] at e
  rw [h.latch, (congrArg (fun x : State => x.trip.record) h.rest :)]
  exact f e

theorem State.acts.onlyWanted {L : LoadId → Prop} {s t : State} (h : s.acts L t) (none : ∀ k, ¬ L k) (w : s.onlyWanted) :
    t.onlyWanted := fun l g => by
  rw [h.requested (none l)]
  exact w l (by rw [← h.isGranted]; exact g)

theorem State.regrants.interlock_of_isGranted {s t : State} (r : s.regrants t) (g : ∀ l, t.isGranted l = s.isGranted l)
    (l : LoadId) : t.interlock l = s.interlock l := by
  obtain ⟨hf, hm, hv⟩ := r.levelSafe
  simp only [State.interlock, r.commonInterlock, State.heaterInterlock, State.inletInterlock, State.inletOnTub, hf, hm, hv,
    r.soft, r.door, r.flood, g]

theorem State.setCauses_grantsStand {s : State} (fit : s.allFit) (wanted : s.onlyWanted) : s.setCauses.grantsStand := by
  have r := State.regrants.setCauses s
  have interlock := r.interlock_of_isGranted s.setCauses_isGranted
  refine ⟨fun l g => ?_, fun l g => ?_, fun l => ?_⟩
  · rw [r.available, interlock]
    exact fit l (s.setCauses_isGranted l ▸ g)
  · rw [r.requested]
    exact wanted l (s.setCauses_isGranted l ▸ g)
  · rw [State.setCauses_load]
    simp only [State.causeOf, s.setCauses_isGranted, r.requested, r.available, interlock]

/-- An evaluation's grants and causes stand as it leaves them (R151, R155). -/
theorem State.passes_grantsStand {s : State} (flood : s.floodKept) (wanted : s.onlyWanted) :
    s.passes.grantsStand ∧ s.passes.floodKept := by
  have checks := s.checks_acts
  have flood := checks.floodKept flood
  have wanted := checks.onlyWanted (fun _ => id) wanted
  rw [State.passes_eq]
  generalize s.checkHeater.checkEntries = x at flood wanted
  have stands := State.setCauses_grantsStand (x.placing_allFit flood) (State.placing_onlyWanted wanted)
  have r := (State.regrants.placing x).trans (.setCauses _)
  generalize x.placing.setCauses = y at stands r
  refine ⟨State.grantsStand_congr (s := y) rfl stands, ?_⟩
  intro e
  show y.trip.latch = true ∧ y.trip.record.reason = .flood
  rw [r.trip]
  exact flood (r.flood ▸ e)

theorem State.dropReleased_onlyWanted (s : State) : s.dropReleased.onlyWanted := by
  have beside := s.dropReleased_besideLoads
  have flood : s.dropReleased.arb.flood = s.arb.flood := (congrArg (fun x : State => x.arb.flood) beside :)
  intro l g
  have load := s.dropReleased_load l
  unfold State.isGranted at g
  unfold State.requested
  rw [flood]
  split at load
  · rename_i wanted
    rw [load]
    exact wanted
  · rw [load] at g
    cases g

theorem State.dropReleased_floodKept {s : State} (h : s.floodKept) : s.dropReleased.floodKept := by
  have beside := s.dropReleased_besideLoads
  intro e
  rw [(congrArg (fun x : State => x.trip) beside :)]
  exact h ((congrArg (fun x : State => x.arb.flood) beside :) ▸ e)

theorem State.evaluation_grantsStand {s : State} (h : s.floodKept) :
    s.dropReleased.passes.grantsStand ∧ s.dropReleased.passes.floodKept :=
  State.passes_grantsStand (State.dropReleased_floodKept h) s.dropReleased_onlyWanted

end Sys2Proof.Machine
end

section
/-! ### What follows an evaluation within its event (R148)

A trip or an answer that touches what the grants are judged on calls for a further evaluation. -/

namespace Sys2Proof.Machine

structure State.asksAgain (s t : State) : Prop where
  due : s.arb.evalDue = true → t.arb.evalDue = true
  still : t.arb.evalDue = false → t.judgedOn = s.judgedOn
  flood : s.floodKept → t.floodKept

namespace State.asksAgain

variable {s t u : State}

theorem refl (s : State) : s.asksAgain s := ⟨id, fun _ => rfl, id⟩

theorem trans (h : s.asksAgain t) (g : t.asksAgain u) : s.asksAgain u := by
  refine ⟨g.due ∘ h.due, fun e => ?_, g.flood ∘ h.flood⟩
  have mid : t.arb.evalDue = false := by
    cases due : t.arb.evalDue with
    | false => rfl
    | true => exact absurd ((g.due due).symm.trans e) nofun
  exact (g.still e).trans (h.still mid)

/-- An update of nothing that is judged. -/
theorem quiet (due : t.arb.evalDue = s.arb.evalDue) (same : t.judgedOn = s.judgedOn)
    (record : t.trip.record.reason = s.trip.record.reason) : s.asksAgain t :=
  ⟨due.trans, fun _ => same, fun h e => by
    simp only [State.judgedOn, Prod.mk.injEq] at same
    obtain ⟨-, -, flood, -, latch, -⟩ := same
    rw [latch, record]
    exact h (flood ▸ e)⟩

/-- An update that calls for an evaluation. -/
theorem calls (due : t.arb.evalDue = true) (flood : s.floodKept → t.floodKept) : s.asksAgain t :=
  ⟨fun _ => due, fun e => absurd (due.symm.trans e) nofun, flood⟩

theorem request (s : State) (l : LoadId) (a : Nat) : s.asksAgain (s.request l a) := calls rfl id

theorem release (s : State) (l : LoadId) : s.asksAgain (s.release l) := by
  unfold State.release
  split
  · exact calls rfl id
  · exact refl s

theorem foldl {α : Type} {f : State → α → State} (hf : ∀ (t : State) (a : α), t.asksAgain (f t a)) (l : List α) (s : State) :
    s.asksAgain (l.foldl f s) := by
  induction l generalizing s with
  | nil => exact refl s
  | cons a l ih => exact (hf s a).trans (ih _)

/-! #### Trips -/

theorem setLatch {s : State} (h : s.trip.latch = false) (c : Cause) : s.asksAgain (s.setLatch c) := by
  obtain ⟨u, ns, ended, -, e⟩ := s.setLatch_spec c
  have trip : (s.setLatch c).trip = (s.latched c).trip := (congrArg (fun x : State => x.trip) e :).trans ended.trip
  have flood : (s.setLatch c).arb.flood = (s.arb.flood || decide (c.reason = .flood)) :=
    (congrArg (fun x : State => x.arb.flood) e :)
  refine calls (congrArg (fun x : State => x.arb.evalDue) e :) fun kept f => ?_
  rw [flood, Bool.or_eq_true] at f
  rw [trip]
  rcases f with f | f
  · exact absurd (h.symm.trans (kept f).1) nofun
  · exact ⟨rfl, of_decide_eq_true f⟩

theorem tripCause (s : State) (c : Cause) : s.asksAgain (s.tripCause c) := by
  by_cases mode : s.link.mode = .standby
  · rw [State.tripCause_standby mode]
    split
    · exact quiet rfl rfl rfl
    · exact refl s
  · cases latch : s.trip.latch with
    | true =>
      rw [State.tripCause_again mode latch]
      exact quiet rfl rfl rfl
    | false =>
      rw [State.tripCause_first mode latch]
      obtain ⟨t, ht⟩ : ∃ t : State, t = { s with
        trip.flowQuiet := if c.reason = .inletFlow then some 0 else s.trip.flowQuiet } := ⟨_, rfl⟩
      have timed : s.asksAgain t := ht ▸ quiet rfl rfl rfl
      rw [← ht]
      exact timed.trans (setLatch (by rw [ht]; exact latch) c)

theorem tableTrip (s : State) (l : LoadId) : s.asksAgain (s.tableTrip l) := by
  unfold State.tableTrip
  split
  · exact tripCause ..
  · exact refl s

theorem judgeRoleNow (s : State) (r : Role) : s.asksAgain (s.judgeRoleNow r) := by
  unfold State.judgeRoleNow
  split
  · exact tripCause ..
  · exact refl s

theorem firstGrant (s b : State) : s.asksAgain (s.firstGrant b) := by
  unfold State.firstGrant
  split
  · exact (judgeRoleNow s _).trans (judgeRoleNow _ _)
  · exact refl s

/-! #### The owners' answers -/

theorem softenerReport (s : State) (l : LoadId) : s.asksAgain (s.softenerReport l) := by
  unfold State.softenerReport
  split
  · split
    · exact quiet rfl rfl rfl
    · exact refl s
  · split
    · split
      · split
        · exact request ..
        · exact release ..
      · exact refl s
    · exact refl s
  · split
    · exact calls rfl id
    · split
      · exact refl s
      · dsimp only
        split
        · exact quiet rfl rfl rfl
        · exact calls rfl id
  · exact refl s

theorem engineInlet (s : State) : s.asksAgain s.engineInlet := by
  unfold State.engineInlet
  split
  · exact quiet rfl rfl rfl
  · exact refl s

theorem dosingReport (s : State) (r : Reservoir) : s.asksAgain (s.dosingReport r) := by
  rcases s.dosingReport_cases r with ⟨e, -⟩ | ⟨d, -, -, -, ⟨-, e⟩ | ⟨-, e⟩⟩
  · rw [e]
    exact refl s
  · rw [e]
    rcases s.startStroke_cases d with ⟨-, -, e⟩ | ⟨-, e⟩
    · rw [e]
      exact (release s _).trans (quiet rfl rfl rfl)
    · rw [e]
      exact quiet rfl rfl rfl
  · rw [e]
    exact quiet rfl rfl rfl

theorem actuatorReport (s : State) : s.asksAgain s.actuatorReport := by
  unfold State.actuatorReport
  split
  · split
    · split
      · exact quiet rfl rfl rfl
      · exact refl s
    · split
      · exact quiet rfl rfl rfl
      · exact refl s
  · exact refl s

theorem ownerReport (s : State) (l : LoadId) : s.asksAgain (s.ownerReport l) := by
  cases l with
  | inletValve => exact (softenerReport s .inletValve).trans (engineInlet _)
  | routeValve => exact softenerReport s .routeValve
  | selectorValve => exact softenerReport s .selectorValve
  | brineValve => exact softenerReport s .brineValve
  | doseDet => exact dosingReport s _
  | doseRinse => exact dosingReport s _
  | doorActuator => exact actuatorReport s
  | heater => exact refl s
  | circPump => exact refl s
  | drainPump => exact refl s
  | fan => exact refl s

end State.asksAgain

/-- From an evaluation to the end of its round (R148). -/
theorem State.round_asksAgain (s : State) : s.dropReleased.passes.asksAgain s.round :=
  (((State.asksAgain.tableTrip _ _).trans (.tableTrip _ _)).trans (.firstGrant _ _)).trans (.foldl .ownerReport _ _)

/-- The evaluations of an event end with grants that stand (R148, R155). -/
theorem State.settleFor_grantsStand (n : Nat) {s : State} (due : s.arb.evalDue = true) (flood : s.floodKept) :
    (State.settleFor n s).grantsStand := by
  induction n generalizing s with
  | zero =>
    have stands := (State.evaluation_grantsStand flood).1
    unfold State.settleFor
    rw [if_pos due]
    unfold State.lastRound
    dsimp only
    generalize s.dropReleased.passes = t at stands
    exact State.grantsStand_congr (s := t) rfl stands
  | succ n ih =>
    obtain ⟨stands, kept⟩ := State.evaluation_grantsStand flood
    have after := s.round_asksAgain
    rw [State.settleFor_succ, if_pos due]
    cases again : s.round.arb.evalDue with
    | true => exact ih again (after.flood kept)
    | false =>
      have done : State.settleFor n s.round = s.round := by
        cases n <;> simp [State.settleFor, again]
      rw [done]
      exact State.grantsStand_congr (after.still again) stands

theorem State.settle_grantsStand {s : State} (due : s.arb.evalDue = true) (flood : s.floodKept) : s.settle.grantsStand :=
  State.settleFor_grantsStand 8 due flood

/-- What stands once the grants do: the interlocks of R151 and R154, and the causes of R149. -/
theorem State.settle_interlocks {s : State} (due : s.arb.evalDue = true) (flood : s.floodKept) :
    (s.settle.trip.latch = true → ∀ l, (s.settle.load l).grant ≠ none → l = .drainPump ∧ s.settle.arb.flood = true) ∧
    (∀ l, s.settle.isGranted l = true → s.settle.requested l = true ∧ s.settle.available l = true) ∧
    (s.settle.isGranted .heater = true →
      s.settle.isGranted .circPump = true ∧ s.settle.fresh .tubLevel = true ∧
        (s.settle.machine.heaterSafe : Int) ≤ s.settle.roleValue .tubLevel) ∧
    (s.settle.isGranted .inletValve = true →
      s.settle.soft.holder ≠ .none ∧ s.settle.soft.progress = .set ∧
        (s.settle.soft.route = .tub → s.settle.door.state = .latched ∧ s.settle.isGranted .drainPump = false)) ∧
    (∀ l, s.settle.requested l = true → s.settle.isGranted l = false →
      (s.settle.load l).cause =
        (if s.settle.available l = false then .unavailable
          else if s.settle.interlock l = false then .interlock else .budget)) := by
  have stands := State.settle_grantsStand due flood
  generalize s.settle = t at stands
  refine ⟨fun latch l g => ?_, fun l g => ⟨stands.wanted l g, (stands.fit l g).1⟩, fun g => ?_, fun g => ?_, fun l w g => ?_⟩
  · have granted : t.isGranted l = true := by simpa [State.isGranted, Option.isSome_iff_ne_none] using g
    have common := (State.allCommon_of_allFit stands.fit l granted).2
    simp [State.commonInterlock, latch] at common
    exact common.2
  · have own := (Bool.and_eq_true_iff.mp (stands.fit _ g).2).2
    simp only [State.heaterInterlock, Bool.and_eq_true, decide_eq_true_eq] at own
    exact ⟨own.1.1, own.1.2, own.2⟩
  · have own := (Bool.and_eq_true_iff.mp (stands.fit _ g).2).2
    simp only [State.inletInterlock, Bool.and_eq_true, Bool.or_eq_true, Bool.not_eq_true', decide_eq_true_eq] at own
    exact ⟨own.1.1, own.1.2, fun tub => own.2.resolve_left (not_not_intro tub)⟩
  · rw [stands.causes]
    simp [State.causeOf, w, g]

end Sys2Proof.Machine
end

section
/-! ### A candidate's turn (R157 to R159)

The watts of the loads that a candidate cannot preempt (`State.firmWatts`) never rise while victims are withdrawn, and with no
victim left they are all of G: so what `State.canShed` promises is met. -/

namespace Sys2Proof.Machine

/-- The candidate may preempt the load (R158). -/
def State.mayShed (s : State) (cand k : LoadId) : Bool :=
  s.isGranted k && (s.loadEntry k).contents.sheddable && decide (s.priority cand < s.priority k)
    && !(decide (cand = .heater) && decide (k = .circPump))

theorem State.victims_eq (s : State) (cand : LoadId) : s.victims cand = allLoads.filter (s.mayShed cand) := rfl

theorem State.mayShed_spec {s : State} {cand k : LoadId} (h : s.mayShed cand k = true) :
    s.isGranted k = true ∧ (s.loadEntry k).contents.sheddable = true ∧ s.priority cand < s.priority k := by
  simp only [State.mayShed, Bool.and_eq_true, decide_eq_true_eq] at h
  exact ⟨h.1.1.1, h.1.1.2, h.1.2⟩

/-- The watts of the granted loads that the candidate cannot preempt. -/
def State.firmWatts (s : State) (cand : LoadId) : Nat :=
  (allLoads.map (fun k => if s.mayShed cand k then 0 else s.watts k)).sum

theorem sum_filter_add (f : LoadId → Nat) (p : LoadId → Bool) (ls : List LoadId) :
    (ls.map f).sum = ((ls.filter p).map f).sum + (ls.map (fun k => if p k then 0 else f k)).sum := by
  induction ls with
  | nil => rfl
  | cons k ls ih => cases h : p k <;> simp [h, ih] <;> omega

/-- G is what the candidate can preempt and what it cannot. -/
theorem State.totalWatts_split (s : State) (cand : LoadId) :
    s.totalWatts = ((s.victims cand).map s.watts).sum + s.firmWatts cand := by
  rw [State.totalWatts_sum, State.firmWatts, State.victims_eq]
  exact sum_filter_add s.watts (s.mayShed cand) allLoads

theorem State.canShed_iff {s : State} (h : s.budgetKept) (cand : LoadId) (need : Nat) :
    s.canShed cand need = true ↔ need + s.firmWatts cand ≤ s.arb.budget := by
  have split := s.totalWatts_split cand
  have budget : s.totalWatts ≤ s.arb.budget := h
  unfold State.canShed State.room
  rw [decide_eq_true_eq, ← List.sum_eq_foldl]
  omega

/-! #### One victim withdrawn -/

section Withdrawn

variable {s t : State} (w : s.withdraws t) (cand : LoadId)
include w

theorem State.withdraws.mayShed {k : LoadId} (h : t.mayShed cand k = true) : s.mayShed cand k = true := by
  simp only [State.mayShed, Bool.and_eq_true] at h ⊢
  rw [w.regrants.loadEntry, w.regrants.priority, w.regrants.priority] at h
  exact ⟨⟨⟨w.granted h.1.1.1, h.1.1.2⟩, h.1.2⟩, h.2⟩

theorem State.withdraws.watts_le (k : LoadId) : t.watts k ≤ s.watts k := by
  rw [State.watts_eq, State.watts_eq, w.regrants.wattsAt]
  cases grant : (t.load k).grant with
  | none => exact Nat.zero_le _
  | some g => rw [← grant, w.kept k (by simp [State.isGranted, grant])]

/-- A load that a withdrawal takes from the candidate's victims has no watts left. -/
theorem State.withdraws.firmWatts_le : t.firmWatts cand ≤ s.firmWatts cand := by
  refine List.sum_le_sum fun k _ => ?_
  cases after : t.mayShed cand k with
  | true => exact Nat.zero_le _
  | false =>
    cases before : s.mayShed cand k with
    | false => exact w.watts_le k
    | true =>
      have out : t.isGranted k = false := by
        obtain ⟨-, sheddable, above⟩ := State.mayShed_spec before
        simp only [State.mayShed, Bool.and_eq_true] at before
        simp only [State.mayShed, w.regrants.loadEntry, w.regrants.priority, sheddable, above, before.2] at after
        simpa using after
      rw [State.watts_of_ungranted out]
      exact Nat.zero_le _

end Withdrawn

/-- A preemption that the victims' watts cover makes the room (R158). -/
theorem State.shed_room {cand : LoadId} {need : Nat} (n : Nat) {s : State} (kept : s.budgetKept)
    (covered : need + s.firmWatts cand ≤ s.arb.budget) (enough : (s.victims cand).length ≤ n) :
    need ≤ (State.shed cand need n s).room := by
  have room : s.victims cand = [] → need ≤ s.room := fun none => by
    have split := s.totalWatts_split cand
    rw [none] at split
    simp only [List.map_nil, List.sum_nil] at split
    unfold State.room
    omega
  induction n generalizing s with
  | zero => exact room (List.length_eq_zero_iff.mp (Nat.le_zero.mp enough))
  | succ n ih =>
    unfold State.shed
    split
    · assumption
    · split
      · rename_i none
        exact room (State.worst_eq_none none)
      · rename_i short l worst
        obtain ⟨mem, may⟩ := List.mem_filter.mp (State.worst_eq_some worst)
        have w : s.withdraws ((s.withdraw l).post .loadShed 6 (loadIndex l).val ((loadIndex cand).val : Int)) :=
          (State.withdraws.withdraw s l).trans (.post ..)
        have out : ((s.withdraw l).post .loadShed 6 (loadIndex l).val ((loadIndex cand).val : Int)).isGranted l = false := by
          show (s.withdraw l).isGranted l = false
          simp [State.isGranted_withdraw]
        generalize (s.withdraw l).post .loadShed 6 (loadIndex l).val ((loadIndex cand).val : Int) = t at w out
        have fewer : (t.victims cand).length < (s.victims cand).length :=
          filter_length_lt (p := s.mayShed cand) (q := t.mayShed cand) (fun k h => w.mayShed cand h) may
            (by simp [State.mayShed, out]) _ mem
        have kept : t.budgetKept := w.totalWatts_le.trans (w.regrants.budget ▸ kept)
        have covered : need + t.firmWatts cand ≤ t.arb.budget := by
          rw [w.regrants.budget]
          exact (Nat.add_le_add_left (w.firmWatts_le cand) need).trans covered
        refine ih kept covered (Nat.le_of_lt_succ (fewer.trans_le enough)) fun none => ?_
        have split := t.totalWatts_split cand
        rw [none] at split
        simp only [List.map_nil, List.sum_nil] at split
        unfold State.room
        omega

/-- The loads that a preemption has withdrawn: their grants have ended, HEATER's with CIRC_PUMP's, and each has its notice. -/
structure State.shedFor (s : State) (cand : LoadId) (ks : List LoadId) (t : State) : Prop where
  shed : ∀ k ∈ ks, s.mayShed cand k = true ∧ (t.load k).grant = none
  kept : ∀ k, k ∉ ks → (k = .heater → .circPump ∉ ks) → t.load k = s.load k
  told : t.link = (ks.map (fun k => s.notice .loadShed 6 (loadIndex k).val (loadIndex cand).val)).foldl LinkUnit.post s.link

/-- One victim is withdrawn and its notice posted (R158). -/
theorem State.shedOne (s : State) (cand l : LoadId) :
    let t := (s.withdraw l).post .loadShed 6 (loadIndex l).val ((loadIndex cand).val : Int)
    s.withdraws t ∧ t.isGranted l = false ∧ (∀ k, k ≠ l → (k = .heater → l ≠ .circPump) → t.load k = s.load k) ∧
      t.link = s.link.post (s.notice .loadShed 6 (loadIndex l).val (loadIndex cand).val) ∧
      t.link.timeTag = s.link.timeTag := by
  have link : (s.withdraw l).link = s.link := by unfold State.withdraw; split <;> rfl
  refine ⟨(State.withdraws.withdraw s l).trans (.post ..), ?_, fun k hk heater => ?_, ?_, ?_⟩
  · show (s.withdraw l).isGranted l = false
    simp [State.isGranted_withdraw]
  · show (s.withdraw l).load k = s.load k
    unfold State.withdraw
    split
    · rename_i circ
      rw [State.setGrant_load, if_neg fun e => heater e circ, State.setGrant_load, if_neg (circ ▸ hk)]
    · rw [State.setGrant_load, if_neg hk]
  · show (s.withdraw l).link.post ((s.withdraw l).notice ..) = _
    rw [State.notice_of_timeTag (s := s) (by rw [link]), link]
  · show ((s.withdraw l).link.post _).timeTag = _
    rw [link]
    exact (congrArg LinkUnit.timeTag (LinkUnit.post_rest s.link _) :)

theorem State.shed_shedFor (cand : LoadId) (need n : Nat) (s : State) :
    ∃ ks, s.shedFor cand ks (State.shed cand need n s) := by
  have none : s.shedFor cand [] s := ⟨nofun, fun _ _ _ => rfl, rfl⟩
  induction n generalizing s with
  | zero => exact ⟨[], none⟩
  | succ n ih =>
    unfold State.shed
    split
    · exact ⟨[], none⟩
    · split
      · exact ⟨[], none⟩
      · rename_i l worst
        obtain ⟨-, may⟩ := List.mem_filter.mp (State.worst_eq_some worst)
        obtain ⟨w, out, stand, link, tag⟩ := s.shedOne cand l
        generalize (s.withdraw l).post .loadShed 6 (loadIndex l).val ((loadIndex cand).val : Int) = t at w out stand link tag
        obtain ⟨ks, rest⟩ := ih t ⟨nofun, fun _ _ _ => rfl, rfl⟩
        refine ⟨l :: ks, fun k hk => ?_, fun k hk heater => ?_, ?_⟩
        · rcases List.mem_cons.mp hk with rfl | hk
          · have gone := (State.withdraws.shed cand need n t).ungranted out
            exact ⟨may, by simpa [State.isGranted] using gone⟩
          · exact ⟨w.mayShed cand (rest.shed k hk).1, (rest.shed k hk).2⟩
        · rw [List.mem_cons, not_or] at hk
          have away : k = .heater → l ≠ .circPump ∧ .circPump ∉ ks := fun e => by
            have both := heater e
            rw [List.mem_cons, not_or] at both
            exact ⟨fun e => both.1 e.symm, both.2⟩
          exact (rest.kept k hk.2 fun e => (away e).2).trans (stand k hk.1 fun e => (away e).1)
        · rw [rest.told, link, List.map_cons, List.foldl_cons]
          have same : ∀ k, t.notice .loadShed 6 (loadIndex k).val (loadIndex cand).val =
              s.notice .loadShed 6 (loadIndex k).val (loadIndex cand).val := fun k => State.notice_of_timeTag tag _ _ _ _
          simp only [same]

end Sys2Proof.Machine
end

section
/-! ### The cases of a turn, and an evaluation with one candidate (R157, R159) -/

namespace Sys2Proof.Machine

section Turn

variable {s : State} {l : LoadId} (candidate : s.candidate l = true) (interlock : s.interlock l = true)
include candidate interlock

theorem State.turn_eq_place : s.turn l = s.place l := if_pos (by rw [candidate, interlock]; rfl)

theorem State.turn_full (fits : (s.loadEntry l).contents.rated ≤ s.room) : s.turn l = s.setGrant l (some .full) :=
  (State.turn_eq_place candidate interlock).trans (if_pos fits)

theorem State.turn_half (short : s.room < (s.loadEntry l).contents.rated) (heater : l = .heater)
    (fits : (s.loadEntry l).contents.half ≤ s.room) : s.turn l = s.setGrant l (some .half) := by
  rw [State.turn_eq_place candidate interlock]
  exact (if_neg (Nat.not_le.mpr short)).trans (if_pos ⟨heater, fits⟩)

theorem State.turn_preempts (short : s.room < (s.loadEntry l).contents.rated)
    (half : l = .heater → s.room < (s.loadEntry l).contents.half) : s.turn l =
      match s.preempt l (s.loadEntry l).contents.rated,
        (if l = .heater then s.preempt l (s.loadEntry l).contents.half else none) with
      | some t, _ => t.give l .full
      | none, some t => t.give l .half
      | none, none => s := by
  rw [State.turn_eq_place candidate interlock]
  exact (if_neg (Nat.not_le.mpr short)).trans (if_neg fun h => absurd h.2 (Nat.not_le.mpr (half h.1)))

end Turn

theorem State.preempt_none {s : State} {l : LoadId} {need : Nat} (h : s.canShed l need = false) : s.preempt l need = none :=
  if_neg (Bool.eq_false_iff.mp h)

/-- What the victims' watts cover is made free (R158). -/
theorem State.preempt_some {s : State} {l : LoadId} {need : Nat} (kept : s.budgetKept) (h : s.canShed l need = true) :
    s.preempt l need = some (State.shed l need 11 s) ∧ need ≤ (State.shed l need 11 s).room := by
  have room := State.shed_room 11 kept ((State.canShed_iff kept l need).mp h)
    ((List.length_filter_le _ allLoads).trans (by decide))
  exact ⟨(if_pos h).trans (if_pos room), room⟩

/-- A preemption for more than the free room takes at least one load (R158). -/
theorem State.shedFor.nonempty {s t : State} {l : LoadId} {need : Nat} {ks : List LoadId} (h : s.shedFor l ks t)
    (budget : t.arb.budget = s.arb.budget) (active : t.arb.active = s.arb.active) (short : s.room < need)
    (room : need ≤ t.room) : ks ≠ [] := by
  rintro rfl
  have same : t.room = s.room := by
    unfold State.room State.totalWatts
    have watts : t.watts = s.watts := funext fun k => by
      unfold State.watts State.loadEntry
      rw [h.kept k nofun fun _ => nofun, active]
    rw [budget, watts]
  omega

/-- The turn of a candidate whose watts do not fit (R157, R158). -/
theorem State.turn_short {s : State} {l : LoadId} (candidate : s.candidate l = true) (interlock : s.interlock l = true)
    (short : s.room < (s.loadEntry l).contents.rated) (half : l = .heater → s.room < (s.loadEntry l).contents.half) :
    (s.canShed l (s.loadEntry l).contents.rated = false →
      (l = .heater → s.canShed l (s.loadEntry l).contents.half = false) → s.turn l = s) ∧
    (∀ need grant, s.budgetKept → s.canShed l need = true →
      (need = (s.loadEntry l).contents.rated ∧ grant = .full ∨
        l = .heater ∧ s.canShed l (s.loadEntry l).contents.rated = false ∧ need = (s.loadEntry l).contents.half ∧
          grant = .half) →
      ∃ (t : State) (ks : List LoadId), s.turn l = t.setGrant l (some grant) ∧ need ≤ t.room ∧ ks ≠ [] ∧
        (∀ k ∈ ks, s.isGranted k = true ∧ (s.loadEntry k).contents.sheddable = true ∧
          s.priority l < s.priority k ∧ (t.load k).grant = none) ∧
        (∀ k, k ∉ ks → (k = .heater → .circPump ∉ ks) → t.load k = s.load k) ∧
        t.link =
          (ks.map (fun k => s.notice .loadShed 6 (loadIndex k).val (loadIndex l).val)).foldl LinkUnit.post s.link) := by
  have turn := State.turn_preempts candidate interlock short half
  refine ⟨fun rated halves => ?_, fun need grant kept can which => ?_⟩
  · rw [turn, State.preempt_none rated]
    by_cases heater : l = .heater
    · rw [if_pos heater, State.preempt_none (halves heater)]
    · rw [if_neg heater]
  · obtain ⟨preempt, room⟩ := State.preempt_some kept can
    obtain ⟨ks, shed⟩ := State.shed_shedFor l need 11 s
    have r := (State.withdraws.shed l need 11 s).regrants
    have more : s.room < need := by
      rcases which with ⟨rfl, -⟩ | ⟨heater, -, rfl, -⟩
      · exact short
      · exact half heater
    have given : s.turn l = (State.shed l need 11 s).setGrant l (some grant) := by
      rcases which with ⟨rfl, rfl⟩ | ⟨rfl, none, rfl, rfl⟩
      · rw [turn, preempt]
        rfl
      · rw [turn, State.preempt_none none, if_pos rfl, preempt]
        rfl
    refine ⟨_, ks, given, room, shed.nonempty r.budget r.active more room, fun k hk => ?_, shed.kept, shed.told⟩
    obtain ⟨may, out⟩ := shed.shed k hk
    obtain ⟨granted, sheddable, above⟩ := State.mayShed_spec may
    exact ⟨granted, sheddable, above, out⟩

/-! #### One candidate -/

/-- A state in which the turn of `l` alone does anything, and its grant ends the need for any. -/
structure State.oneTurn (s : State) (l : LoadId) : Prop where
  own : s.turn l = s.setGrant l (some .full)
  others : ∀ k, k ≠ l → s.turn k = s
  after : ∀ k, (s.setGrant l (some .full)).turn k = s.setGrant l (some .full)
  heater : l = .heater → s.isGranted .circPump = true

theorem State.walk_idle {s : State} (h : ∀ k, s.turn k = s) (deferred : Bool) (ls : List LoadId) :
    State.walk deferred ls s = s := by
  induction ls generalizing deferred with
  | nil => rfl
  | cons k ls ih =>
    unfold State.walk
    split
    · split
      · exact ih true
      · rw [h]
        exact ih _
    · dsimp only
      rw [h]
      split
      · rw [h]
        exact ih _
      · exact ih _
    · rw [h]
      exact ih _

theorem State.walk_oneTurn {s : State} {l : LoadId} (h : s.oneTurn l) (deferred : Bool) {ls : List LoadId} (mem : l ∈ ls) :
    State.walk deferred ls s = s.setGrant l (some .full) := by
  induction ls generalizing deferred with
  | nil => cases mem
  | cons k ls ih =>
    have later : k ≠ l → l ∈ ls := fun e => (List.mem_cons.mp mem).resolve_left (Ne.symm e)
    unfold State.walk
    split
    · split
      · rename_i skip
        have away : LoadId.heater ≠ l := fun e => by
          rw [h.heater e.symm] at skip
          exact absurd skip (by simp)
        exact ih true (later away)
      · by_cases e : LoadId.heater = l
        · rw [e, h.own, State.walk_idle h.after]
        · rw [h.others _ e]
          exact ih _ (later e)
    · dsimp only
      by_cases e : LoadId.circPump = l
      · rw [e, h.own, h.after]
        split <;> exact State.walk_idle h.after _ _
      · rw [h.others _ e]
        split
        · by_cases heater : LoadId.heater = l
          · rw [heater, h.own, State.walk_idle h.after]
          · rw [h.others _ heater]
            exact ih _ (later e)
        · exact ih _ (later e)
    · by_cases e : k = l
      · rw [e, h.own, State.walk_idle h.after]
      · rw [h.others _ e]
        exact ih _ (later e)

theorem State.mem_insertByPriority (s : State) {l k : LoadId} {ls : List LoadId} (h : k = l ∨ k ∈ ls) :
    k ∈ s.insertByPriority l ls := by
  induction ls with
  | nil => exact List.mem_singleton.mpr (h.resolve_right nofun)
  | cons x rest ih =>
    unfold State.insertByPriority
    split
    · exact List.mem_cons.mpr h
    · rw [List.mem_cons]
      rcases h with rfl | h
      · exact .inr (ih (.inl rfl))
      · rcases List.mem_cons.mp h with e | h
        · exact .inl e
        · exact .inr (ih (.inr h))

/-- Every load has its place in the grant pass (R157). -/
theorem State.mem_places (s : State) (l : LoadId) : l ∈ s.places := by
  have fold : ∀ (ls acc : List LoadId), l ∈ ls ∨ l ∈ acc →
      l ∈ ls.foldl (fun acc l => s.insertByPriority l acc) acc := fun ls => by
    induction ls with
    | nil => exact fun acc h => h.resolve_left nofun
    | cons k ls ih =>
      intro acc h
      refine ih _ ?_
      rcases h with h | h
      · rcases List.mem_cons.mp h with e | h
        · exact .inr (s.mem_insertByPriority (.inl e))
        · exact .inl h
      · exact .inr (s.mem_insertByPriority (.inr h))
  exact fold allLoads [] (.inl (mem_allLoads l))

theorem State.grantPass_oneTurn {s : State} {l : LoadId} (h : s.oneTurn l) : s.grantPass = s.setGrant l (some .full) := by
  unfold State.grantPass
  dsimp only
  split
  · by_cases e : LoadId.drainPump = l
    · rw [e, h.own]
      exact State.walk_idle h.after _ _
    · rw [h.others _ e]
      exact State.walk_oneTurn h _ (s.mem_places l)
  · exact State.walk_oneTurn h _ (s.mem_places l)

end Sys2Proof.Machine
end

section
/-! ### The evaluation with one candidate, and what a set latch's record keeps (R157, R170) -/

namespace Sys2Proof.Machine

/-- The parity checks of the load entries fill the integrity latch and post notices, and nothing else (R174). -/
structure State.marksOnly (s t : State) : Prop where
  rest : t = { s with trip := { s.trip with integrity := t.trip.integrity, more := t.trip.more }, link := t.link }

theorem State.checkEntries_marksOnly (s : State) : s.marksOnly s.checkEntries := by
  have fold : ∀ (ls : List LoadId) (s : State), s.marksOnly (ls.foldl (fun t l =>
      if t.requested l && !(t.loadEntry l).sound then t.integrityError .load (some .active) (loadIndex l).val else t) s) := by
    intro ls
    induction ls with
    | nil => exact fun s => ⟨rfl⟩
    | cons l ls ih =>
      intro s
      have first : s.marksOnly (if s.requested l && !(s.loadEntry l).sound then
          s.integrityError .load (some .active) (loadIndex l).val else s) := by
        split
        · exact ⟨(s.integrityError_findsError _ _ _).rest⟩
        · exact ⟨rfl⟩
      rw [List.foldl_cons]
      exact ⟨(ih _).rest.trans (by rw [first.rest])⟩
  exact fold allLoads s

theorem State.marksOnly.judgedOn {s t : State} (h : s.marksOnly t) : t.judgedOn = s.judgedOn := by
  rw [h.rest]
  rfl

section OneCandidate

variable {s : State} {l : LoadId}

theorem State.passOne_of_allFit (h : s.allFit) : s.passOne = s := by
  have stands : ∀ k, s.recheck k = s := fun k => by
    unfold State.recheck
    split
    · rename_i bad
      simp only [Bool.and_eq_true, Bool.not_eq_true'] at bad
      obtain ⟨available, interlock⟩ := h k bad.1
      rw [available, interlock] at bad
      exact absurd bad.2 nofun
    · rfl
  have fold : ∀ ls : List LoadId, ls.foldl State.recheck s = s := fun ls => by
    induction ls with
    | nil => rfl
    | cons k ls ih => rw [List.foldl_cons, stands, ih]
  unfold State.passOne
  rw [fold, stands]

theorem State.budgetCut_of_budgetKept (h : s.budgetKept) (n : Nat) : State.budgetCut n s = s := by
  cases n with
  | zero => rfl
  | succ n => exact if_neg (Nat.not_lt.mpr h)

theorem State.turn_of_notCandidate {k : LoadId} (h : s.candidate k = false) : s.turn k = s := by
  unfold State.turn
  rw [h]
  rfl

theorem State.oneTurn_of_candidate (only : ∀ k, s.candidate k = true ↔ k = l) (interlock : s.interlock l = true)
    (fits : (s.loadEntry l).contents.rated ≤ s.room) : s.oneTurn l := by
  have r := State.regrants.setGrant s l (some .full)
  refine ⟨State.turn_full ((only l).mpr rfl) interlock fits, fun k hk => ?_, fun k => ?_, fun e => ?_⟩
  · exact State.turn_of_notCandidate (Bool.eq_false_iff.mpr fun c => hk ((only k).mp c))
  · refine State.turn_of_notCandidate (Bool.eq_false_iff.mpr fun c => ?_)
    simp only [State.candidate, Bool.and_eq_true, Bool.not_eq_true', r.requested, r.available, State.isGranted_setGrant] at c
    obtain ⟨⟨wanted, out⟩, available⟩ := c
    split at out
    · cases out
    · rename_i other
      exact other ((only k).mp (by simp [State.candidate, wanted, out, available]))
  · subst e
    have own := (Bool.and_eq_true_iff.mp interlock).2
    simp only [State.heaterInterlock, Bool.and_eq_true] at own
    exact own.1.1

theorem State.upgrade_load {k : LoadId} (h : k ≠ .heater ∨ (s.load .heater).grant = some .full) :
    s.upgrade.load k = s.load k := by
  unfold State.upgrade
  dsimp only
  split
  · rename_i half
    rw [State.give, State.setGrant_load, if_neg (h.resolve_right fun full => absurd (full.symm.trans half.1) nofun)]
  · rfl

/-- The one candidate whose interlock holds and whose watts fit is granted, and no other grant changes but HEATER's
(R157, R159). -/
theorem State.placing_oneCandidate (kept : s.budgetKept) (fit : s.allFit) (only : ∀ k, s.candidate k = true ↔ k = l)
    (interlock : s.interlock l = true) (fits : (s.loadEntry l).contents.rated ≤ s.room) :
    (s.placing.load l).grant = some .full ∧ ∀ k, k ≠ l → k ≠ .heater → (s.placing.load k).grant = (s.load k).grant := by
  have placed : s.placing = (s.setGrant l (some .full)).upgrade := by
    unfold State.placing
    rw [State.passOne_of_allFit fit, State.budgetCut_of_budgetKept kept,
      State.grantPass_oneTurn (State.oneTurn_of_candidate only interlock fits)]
  have own : ((s.setGrant l (some .full)).load l).grant = some .full := by rw [State.setGrant_load, if_pos rfl]
  rw [placed]
  refine ⟨?_, fun k hk heater => ?_⟩
  · rw [State.upgrade_load, own]
    by_cases e : l = .heater
    · exact .inr (e ▸ own)
    · exact .inl e
  · rw [State.upgrade_load (.inl heater), State.setGrant_load, if_neg hk]

theorem State.passes_oneCandidate (eff : s.inEffect .machine) (kept : s.budgetKept) (fit : s.allFit)
    (only : ∀ k, s.candidate k = true ↔ k = l) (interlock : s.interlock l = true)
    (fits : (s.loadEntry l).contents.rated ≤ s.room) :
    (s.passes.load l).grant = some .full ∧ ∀ k, k ≠ l → k ≠ .heater → (s.passes.load k).grant = (s.load k).grant := by
  have heater : s.checkHeater = s := by
    unfold State.checkHeater
    rw [State.useProfile_of_inEffect eff, ite_self]
  obtain ⟨x, hx⟩ : ∃ x, x = s.checkEntries := ⟨_, rfl⟩
  have marks : s.marksOnly x := hx ▸ s.checkEntries_marksOnly
  have grant : ∀ k, (s.passes.load k).grant = (x.placing.load k).grant := fun k => by
    rw [State.passes_eq, heater, ← hx]
    have causes := x.placing.setCauses_load k
    generalize x.placing.setCauses = y at causes
    show (y.load k).grant = _
    rw [causes]
  have same := marks.judgedOn
  have active : x.arb.active = s.arb.active := (congrArg (fun x : State => x.arb.active) marks.rest :)
  have entries : ∀ k, x.loadEntry k = s.loadEntry k := fun k => by unfold State.loadEntry; rw [active]
  have watts : x.totalWatts = s.totalWatts := by
    rw [State.totalWatts_sum, State.totalWatts_sum]
    refine congrArg List.sum (List.map_congr_left fun k _ => ?_)
    unfold State.watts
    rw [entries, State.judgedOn_load same]
  have budget : x.arb.budget = s.arb.budget := (congrArg (fun x : State => x.arb.budget) marks.rest :)
  have keptX : x.budgetKept := by unfold State.budgetKept; rw [watts, budget]; exact kept
  have fitX : x.allFit := fun k g => by
    rw [State.judgedOn_available same, State.judgedOn_interlock same]
    exact fit k (State.judgedOn_isGranted same k ▸ g)
  have onlyX : ∀ k, x.candidate k = true ↔ k = l := fun k => by
    unfold State.candidate
    rw [State.judgedOn_requested same, State.judgedOn_isGranted same, State.judgedOn_available same]
    exact only k
  have fitsX : (x.loadEntry l).contents.rated ≤ x.room := by rw [entries]; unfold State.room; rw [watts, budget]; exact fits
  obtain ⟨own, other⟩ := State.placing_oneCandidate keptX fitX onlyX (by rw [State.judgedOn_interlock same]; exact interlock) fitsX
  refine ⟨(grant l).trans own, fun k hk heater => (grant k).trans ((other k hk heater).trans ?_)⟩
  rw [State.judgedOn_load same]

end OneCandidate

end Sys2Proof.Machine
end

section
/-! ### O10: evaluations, their trips, and the record of a set latch (R148, R168 to R170) -/

namespace Sys2Proof.Machine

/-- What the record of the latch keeps once it is set. -/
def State.tripMark (s : State) :=
  (s.trip.latch, s.trip.tableMark, s.trip.record.reason, s.trip.record.source, s.trip.lostRole)

/-- A set latch stays set, with its reason, its source and its marks (R170, R171). -/
structure State.recordKept (s t : State) : Prop where
  kept : s.trip.latch = true → t.tripMark = s.tripMark

namespace State.recordKept

variable {s t u : State}

theorem of_mark (h : t.tripMark = s.tripMark) : s.recordKept t := ⟨fun _ => h⟩

theorem refl (s : State) : s.recordKept s := of_mark rfl

theorem trans (h : s.recordKept t) (g : t.recordKept u) : s.recordKept u := ⟨fun latch => by
  have mid := h.kept latch
  exact (g.kept ((congrArg Prod.fst mid).trans latch)).trans mid⟩

theorem of_acts {L : LoadId → Prop} (h : s.acts L t) : s.recordKept t := of_mark (by rw [h.rest]; rfl)

theorem of_regrants (h : s.regrants t) : s.recordKept t := of_mark (by unfold State.tripMark; rw [h.trip])

theorem tripCause (s : State) (c : Cause) : s.recordKept (s.tripCause c) := ⟨fun latch => by
  by_cases mode : s.link.mode = .standby
  · rw [State.tripCause_standby mode]
    split
    · rfl
    · rfl
  · rw [State.tripCause_again mode latch]
    rfl⟩

theorem tableTrip (s : State) (l : LoadId) : s.recordKept (s.tableTrip l) := by
  unfold State.tableTrip
  split
  · exact tripCause ..
  · exact refl s

theorem judgeRoleNow (s : State) (r : Role) : s.recordKept (s.judgeRoleNow r) := by
  unfold State.judgeRoleNow
  split
  · exact tripCause ..
  · exact refl s

theorem firstGrant (s b : State) : s.recordKept (s.firstGrant b) := by
  unfold State.firstGrant
  split
  · exact (judgeRoleNow s _).trans (judgeRoleNow _ _)
  · exact refl s

theorem answers (ls : List LoadId) (s : State) : s.recordKept (ls.foldl State.ownerReport s) := by
  induction ls generalizing s with
  | nil => exact refl s
  | cons l ls ih => exact (of_acts (State.answers.ownerReport s l).acts).trans (ih _)

end State.recordKept

/-- What an evaluation's passes leave of what the trips after it are judged on. -/
theorem State.evaluation_same (s : State) :
    (∀ l, s.dropReleased.passes.requested l = s.requested l) ∧
      (∀ l, s.dropReleased.passes.loadEntry l = s.loadEntry l) ∧ s.dropReleased.passes.tripMark = s.tripMark ∧
      s.dropReleased.passes.link.mode = s.link.mode ∧ s.dropReleased.passes.chan = s.chan := by
  have beside := s.dropReleased_besideLoads
  have own : ∀ l, s.dropReleased.requested l = s.requested l := fun l => by
    unfold State.requested
    rw [State.dropReleased_load, (congrArg (fun x : State => x.arb.flood) beside :)]
    split <;> rfl
  have mark : s.dropReleased.tripMark = s.tripMark := by rw [beside]; rfl
  have entry : ∀ l, s.dropReleased.loadEntry l = s.loadEntry l := fun l => by rw [beside]; rfl
  have mode : s.dropReleased.link.mode = s.link.mode := by rw [beside]
  have chan : s.dropReleased.chan = s.chan := by rw [beside]
  generalize s.dropReleased = b at own mark entry mode chan
  have checks := b.checks_acts
  rw [State.passes_eq]
  generalize b.checkHeater.checkEntries = x at checks
  have r := (State.regrants.placing x).trans (.setCauses _)
  generalize x.placing.setCauses = y at r
  refine ⟨fun l => ?_, fun l => ?_, ?_, ?_, ?_⟩
  · show y.requested l = _
    rw [r.requested, checks.requested id, own]
  · show y.loadEntry l = _
    rw [r.loadEntry, ← entry]
    unfold State.loadEntry
    rw [(congrArg (fun x : State => x.arb.active) checks.rest :)]
  · show y.tripMark = _
    rw [← mark]
    unfold State.tripMark
    rw [r.trip, checks.rest]
  · show y.link.mode = _
    rw [(congrArg LinkUnit.mode r.link :), checks.mode, mode]
  · show y.chan = _
    rw [r.chan, checks.chan, chan]

theorem State.passes_recordKept (s : State) : s.recordKept s.dropReleased.passes := .of_mark s.evaluation_same.2.2.1

theorem State.round_recordKept (s : State) : s.recordKept s.round :=
  ((((s.passes_recordKept.trans (.tableTrip _ _)).trans (.tableTrip _ _)).trans (.firstGrant _ _))).trans (.answers _ _)

theorem State.settleFor_recordKept (n : Nat) (s : State) : s.recordKept (State.settleFor n s) := by
  induction n generalizing s with
  | zero =>
    have passed := s.passes_recordKept
    unfold State.settleFor
    split
    · unfold State.lastRound
      dsimp only
      generalize s.dropReleased.passes = t at passed
      exact passed.trans (.of_mark rfl)
    · exact .refl s
  | succ n ih =>
    rw [State.settleFor_succ]
    split
    · exact s.round_recordKept.trans (ih _)
    · exact .refl s

/-- A latch that the trips of the first evaluation set stands at the end of the event with its record. -/
theorem State.settle_tripMark {s : State} (due : s.arb.evalDue = true) {t : State} (after : t.recordKept s.round)
    (latch : t.trip.latch = true) : s.settle.tripMark = t.tripMark := by
  have settled : s.settle = State.settleFor 7 s.round := if_pos due
  rw [settled]
  exact (after.trans (State.settleFor_recordKept 7 _)).kept latch

/-! #### The parts of O10 -/

theorem State.tableTrip_eq (s : State) (l : LoadId) : s.tableTrip l =
    if s.requested l = true ∧ (s.loadEntry l).sound = false then
      s.tripCause { reason := .table, source := some (loadIndex l).val, value := 0, lost := none }
    else s := by
  unfold State.tableTrip
  simp only [Bool.and_eq_true, Bool.not_eq_true']
  rfl

theorem State.noGrant_iff (s : State) : s.noGrant = true ↔ ∀ l, s.isGranted l = false := by
  simp [State.noGrant, State.isGranted, mem_allLoads]

theorem State.tableTrip_mode (s : State) (l : LoadId) : (s.tableTrip l).link.mode = s.link.mode := by
  unfold State.tableTrip
  split
  · exact State.of_outer (fun t => t.link.mode) (State.outer_tripCause s _)
  · rfl

/-- A round, with the first grant in SERVICE told apart (R148, R168). -/
theorem State.round_spec (s : State) {b a c : State} (hb : s.dropReleased = b) (ha : b.passes = a)
    (hc : (a.tableTrip .drainPump).tableTrip .inletValve = c) :
    (s.link.mode = .service ∧ (∀ l, b.isGranted l = false) ∧ (∃ l, c.isGranted l = true) →
      s.round = (allLoads.filter (fun l => decide ((a.load l).grant ≠ (b.load l).grant))).foldl State.ownerReport
        c.judgeSensorsNow) ∧
    (s.link.mode ≠ .service ∨ (∃ l, b.isGranted l = true) ∨ (∀ l, c.isGranted l = false) →
      s.round = (allLoads.filter (fun l => decide ((a.load l).grant ≠ (b.load l).grant))).foldl State.ownerReport c) := by
  have modeA : a.link.mode = s.link.mode := by
    obtain ⟨-, -, -, mode, -⟩ := s.evaluation_same
    rw [hb, ha] at mode
    exact mode
  have round : s.round = (a.changedSince b).foldl State.ownerReport (c.firstGrant b) := by
    rw [← hc, ← ha, ← hb]
    rfl
  have mode : c.link.mode = s.link.mode := by rw [← hc, State.tableTrip_mode, State.tableTrip_mode, modeA]
  have some : c.noGrant = false ↔ ∃ l, c.isGranted l = true := by
    rw [← Bool.not_eq_true, State.noGrant_iff]
    simp
  rw [round]
  refine ⟨fun h => congrArg ((a.changedSince b).foldl State.ownerReport) (if_pos ?_),
    fun h => congrArg ((a.changedSince b).foldl State.ownerReport) (if_neg ?_)⟩
  · rw [mode, State.noGrant_iff, some]
    exact h
  · rw [mode, State.noGrant_iff, some]
    rintro ⟨service, none, l, granted⟩
    rcases h with h | ⟨k, g⟩ | h
    · exact h service
    · exact absurd ((none k).symm.trans g) nofun
    · exact absurd ((h l).symm.trans granted) nofun

/-- A damaged entry of DRAIN_PUMP, else of INLET_VALVE, is the TABLE trip of its event (R169). -/
theorem State.settle_tableTrip {s : State} {l : LoadId} (due : s.arb.evalDue = true) (mode : s.link.mode ≠ .standby)
    (clear : s.trip.latch = false) (wanted : s.requested l = true) (damaged : (s.loadEntry l).sound = false)
    (which : l = .drainPump ∨ l = .inletValve ∧ ¬(s.requested .drainPump = true ∧ (s.loadEntry .drainPump).sound = false)) :
    s.settle.trip.latch = true ∧ s.settle.trip.tableMark = true ∧ s.settle.trip.record.reason = .table ∧
      s.settle.trip.record.source = some (loadIndex l).val := by
  obtain ⟨requested, entry, mark, modeA, -⟩ := s.evaluation_same
  obtain ⟨a, ha⟩ : ∃ a, a = s.dropReleased.passes := ⟨_, rfl⟩
  rw [← ha] at requested entry mark modeA
  have clearA : a.trip.latch = false := (congrArg Prod.fst mark).trans clear
  have trips : a.tableTrip l = a.tripCause { reason := .table, source := some (loadIndex l).val, value := 0, lost := none } := by
    rw [State.tableTrip_eq, if_pos ⟨by rw [requested, wanted], by rw [entry, damaged]⟩]
  obtain ⟨latch, record, -, table⟩ := State.latch_of_tripCause (s := a) (by rw [modeA]; exact mode) clearA
    { reason := .table, source := some (loadIndex l).val, value := 0, lost := none }
  rw [← trips] at latch record table
  have after : (a.tableTrip l).recordKept s.round := by
    have round : s.round = (a.changedSince s.dropReleased).foldl State.ownerReport
        (((a.tableTrip .drainPump).tableTrip .inletValve).firstGrant s.dropReleased) := by rw [ha]; rfl
    rw [round]
    refine State.recordKept.trans ?_ ((State.recordKept.firstGrant _ _).trans (.answers _ _))
    rcases which with rfl | ⟨rfl, sound⟩
    · exact .tableTrip _ _
    · have idle : a.tableTrip .drainPump = a := by
        rw [State.tableTrip_eq, if_neg (by rw [requested, entry]; exact sound)]
      rw [idle]
      exact .refl _
  have settled := State.settle_tripMark due after latch
  simp only [State.tripMark, Prod.mk.injEq] at settled
  obtain ⟨e1, e2, e3, e4, -⟩ := settled
  rw [e1, e2, e3, e4, latch, table, record]
  exact ⟨rfl, by simp, rfl, rfl⟩

/-- The first grant in SERVICE with a sensor lost is the SENSOR_LOST trip of its event (R168). -/
theorem State.settle_sensorTrip {s : State} {r : Role} (due : s.arb.evalDue = true) (mode : s.link.mode = .service)
    (clear : s.trip.latch = false) (fresh : ∀ l, s.isGranted l = true → s.requested l = false)
    (grants : ∃ l, s.dropReleased.passes.isGranted l = true)
    (sound : ∀ l, l = .drainPump ∨ l = .inletValve → s.requested l = true → (s.loadEntry l).sound = true)
    (lost : s.roleFreshness r = .stale ∨ s.roleFreshness r = .faulted)
    (which : r = .tubTemp ∨ r = .tubLevel ∧ s.roleFreshness .tubTemp ≠ .stale ∧ s.roleFreshness .tubTemp ≠ .faulted) :
    s.settle.trip.latch = true ∧ s.settle.trip.record.reason = .sensorLost ∧ s.settle.trip.lostRole = some r ∧
      s.settle.trip.record.source = s.roleSource r := by
  obtain ⟨requested, entry, mark, modeA, chan⟩ := s.evaluation_same
  have none : ∀ l, s.dropReleased.isGranted l = false := fun l => by
    unfold State.isGranted
    rw [State.dropReleased_load]
    split
    · rename_i wanted
      exact Bool.eq_false_iff.mpr fun g => absurd ((fresh l g).symm.trans wanted) nofun
    · rfl
  obtain ⟨a, ha⟩ : ∃ a, a = s.dropReleased.passes := ⟨_, rfl⟩
  have spec := (s.round_spec rfl ha.symm rfl).1
  rw [← ha] at requested entry mark modeA chan grants
  have idle : ∀ l, l = .drainPump ∨ l = .inletValve → a.tableTrip l = a := fun l hl => by
    rw [State.tableTrip_eq, if_neg]
    rw [requested, entry]
    rintro ⟨wanted, damaged⟩
    exact absurd ((sound l hl wanted).symm.trans damaged) nofun
  rw [idle _ (.inl rfl), idle _ (.inr rfl)] at spec
  have round := spec ⟨mode, none, grants⟩
  have clearA : a.trip.latch = false := (congrArg Prod.fst mark).trans clear
  have running : a.link.mode ≠ .standby := by rw [modeA, mode]; nofun
  have roles : ∀ q, a.roleFreshness q = s.roleFreshness q ∧ a.roleSource q = s.roleSource q := fun q => by
    unfold State.roleFreshness State.roleSource State.bound
    rw [chan]
    exact ⟨rfl, rfl⟩
  obtain ⟨latch, record, lostRole, -⟩ := State.latch_of_tripCause running clearA (lostCause r (a.roleSource r) (a.heldValue r))
  have judged : a.judgeRoleNow r = a.tripCause (lostCause r (a.roleSource r) (a.heldValue r)) :=
    if_pos (by rw [(roles r).1]; exact lost)
  rw [← judged] at latch record lostRole
  have after : (a.judgeRoleNow r).recordKept s.round := by
    rw [round]
    refine State.recordKept.trans ?_ (.answers _ _)
    rcases which with rfl | ⟨rfl, notStale, notFaulted⟩
    · exact .judgeRoleNow _ _
    · have idle : a.judgeRoleNow .tubTemp = a := if_neg (by rw [(roles _).1]; exact not_or.mpr ⟨notStale, notFaulted⟩)
      unfold State.judgeSensorsNow
      rw [idle]
      exact .refl _
  have settled := State.settle_tripMark due after latch
  simp only [State.tripMark, Prod.mk.injEq] at settled
  obtain ⟨e1, -, e3, e4, e5⟩ := settled
  rw [e1, e3, e4, e5, latch, lostRole, record]
  exact ⟨rfl, rfl, rfl, (roles r).2⟩

/-- Settles O10, by what each pass leaves standing, and by the trips and the answers that follow the passes. -/
theorem evaluationPlacesGrants : Obligations.EvaluationPlacesGrants := by
  refine ⟨fun s due flood => ?_, fun s l eff kept fit only interlock fits => ?_, fun s l candidate interlock => ⟨?_, fun short =>
    ⟨fun heater => State.turn_half candidate interlock short heater, fun half => ?_⟩⟩, fun s half fits => ?_,
    fun s n => ⟨rfl, fun idle => ⟨State.settle_of_settled s idle, ?_⟩, fun due => if_pos due⟩, fun s => ?_,
    fun s l due mode clear wanted damaged which => State.settle_tableTrip due mode clear wanted damaged which,
    fun s r due mode clear fresh grants sound lost which =>
      State.settle_sensorTrip due mode clear fresh grants sound lost which⟩
  · obtain ⟨budget, mains⟩ := State.settle_grantsKept due
    exact ⟨State.settle_settled s, budget, mains, State.settle_interlocks due flood⟩
  · exact State.passes_oneCandidate eff kept (fun k g => (fit k g).2) only interlock fits
  · exact State.turn_full candidate interlock
  · exact State.turn_short candidate interlock short half
  · exact if_pos ⟨half, fits⟩
  · cases n with
    | zero => exact if_neg (Bool.eq_false_iff.mp idle)
    | succ n => exact if_neg (Bool.eq_false_iff.mp idle)
  · obtain ⟨serviced, other⟩ := s.round_spec rfl rfl rfl
    have beside := s.dropReleased_besideLoads
    refine ⟨?_, s.dropReleased_load, serviced, other, s.tableTrip_eq, rfl⟩
    have same : ({ s.dropReleased with arb.loads := s.arb.loads } : State) =
        { ({ s with arb.loads := s.dropReleased.arb.loads } : State) with arb.loads := s.arb.loads } :=
      congrArg (fun x : State => ({ x with arb.loads := s.arb.loads } : State)) beside
    exact same

end Sys2Proof.Machine
end

section
/-! ### What a hand-off leaves of the channels (R17, R18)

The consumers of a role read the channel unit; none of them writes a channel's values or its entry, or the mode. -/

namespace Sys2Proof.Machine

/-- The entries and the values of the channels, and the mode. -/
def State.channels (s : State) := (s.chan.run, s.chan.active, s.link.mode)

theorem State.channels_eq {s t : State} (chan : t.chan = s.chan) (mode : t.link.mode = s.link.mode) : t.channels = s.channels := by
  unfold State.channels
  rw [chan, mode]

theorem State.post_channels (s : State) (k : NoticeKind) (l n : Nat) (v : Int) : (s.post k l n v).channels = s.channels :=
  State.channels_eq rfl (State.post_mode ..)

theorem State.setColumn_channels (s : State) (c : Side) (x : Column) : (s.setColumn c x).channels = s.channels :=
  State.channels_eq (State.setColumn_chan ..) (by rw [State.setColumn_link])

theorem State.softens.channels {s t : State} (h : s.softens t) : t.channels = s.channels := State.channels_eq h.chan h.mode

theorem State.useProfile_channels (s : State) (p : ProfileId) : (s.useProfile p).channels = s.channels :=
  have used := (State.acts.refl (fun _ => True) s).useProfile p
  State.channels_eq used.chan used.mode

namespace State.phases

variable {s t : State}

theorem enterCirculate (h : s.phases t) (w : WashFields) : s.phases (t.enterCirculate w) := by
  have begun : s.phases (((t.setStage .circulate).request .circPump w.speed).reachDosePoint w .atCirculate) :=
    ((h.withHead (fun r => { r with stage := .circulate })).request .circPump w.speed).reachDosePoint w .atCirculate
  unfold State.enterCirculate
  dsimp only
  split
  · exact begun.enterHold w false
  · exact begun.circulateJudge w

theorem endFill (h : s.phases t) (w : WashFields) : s.phases (t.endFill w) :=
  (h.softens (.routes (.fillGiveBack t))).enterCirculate w

theorem engineTemp (h : s.phases t) : s.phases t.engineTemp := by
  unfold State.engineTemp
  split
  · split
    · exact h.circulateJudge _
    · split
      · exact h.holdJudge _
      · exact h
  · split
    · exact h.enterOpening
    · exact h
  · exact h

theorem engineLevel (h : s.phases t) : s.phases t.engineLevel := by
  unfold State.engineLevel
  split
  · split
    · split
      · exact h.endFill _
      · exact h
    · exact h
  · exact h.judgeDrain

theorem engineVolume (h : s.phases t) (v : Nat) : s.phases (t.engineVolume v) := by
  unfold State.engineVolume
  split
  · exact h
  · split
    · obtain ⟨x, hx⟩ : ∃ x : State, x = if 0 < v then State.withHead { t with
          eng.totals := { t.eng.totals with fillVolume := min 4294967295 (t.eng.totals.fillVolume + v) } }
            (fun h => { h with stallTimer := 0 })
        else { t with eng.totals := { t.eng.totals with fillVolume := min 4294967295 (t.eng.totals.fillVolume + v) } } :=
        ⟨_, rfl⟩
      have counted : s.phases x := by
        rw [hx]
        split
        · exact h.quiet rfl rfl
        · exact h.quiet rfl rfl
      dsimp only
      rw [← hx]
      split
      · exact (counted.post ..).endFill _
      · exact counted
    · exact h

theorem exitUpdate (h : s.phases t) (hit : Subject → Bool) : s.phases (t.exitUpdate hit) := by
  unfold State.exitUpdate
  split
  · split
    · exact h
    · split
      · exact h.endHold _
      · exact h
  · exact h

theorem updateIf (h : s.phases t) (holding : Bool) (r : Role) : s.phases (t.updateIf holding r) := by
  unfold State.updateIf
  split
  · exact h.exitUpdate _
  · exact h

end State.phases

/-! #### The accounting of a FLOW hand-off -/

theorem State.takeLoad_channels (s : State) (n : Nat) : (s.takeLoad n).channels = s.channels := by
  unfold State.takeLoad
  split
  · rfl
  · rename_i c _
    dsimp only
    split
    · split
      · exact (State.post_channels ..).trans ((State.post_channels ..).trans (s.setColumn_channels c _))
      · exact (State.post_channels ..).trans (s.setColumn_channels c _)
    · split
      · exact (State.post_channels ..).trans (s.setColumn_channels c _)
      · exact s.setColumn_channels c _

theorem State.markFallback_channels (s : State) : s.markFallback.channels = s.channels := by
  unfold State.markFallback
  split
  · rfl
  · split
    · rfl
    · exact State.post_channels ..

theorem State.fillAccount_channels (s : State) (v : Nat) : (s.fillAccount v).channels = s.channels := by
  unfold State.fillAccount
  dsimp only
  rw [State.takeLoad_channels]
  exact State.markFallback_channels _

theorem State.rinseEnd_channels (s : State) (g : Regen) : (s.rinseEnd g).channels = s.channels := by
  have given := ((State.softens.refl s).trans (.routes (.regenGiveBack s))).useProfile.channels
  unfold State.rinseEnd
  dsimp only
  generalize s.regenGiveBack.useProfile .softener = x at given
  refine ((State.softens.refl _).autoCheck).channels.trans ?_
  exact (State.post_channels ..).trans ((State.setColumn_channels ..).trans given)

theorem State.regenAccount_channels (s : State) (v : Nat) : (s.regenAccount v).channels = s.channels := by
  unfold State.regenAccount
  split
  · rfl
  · rename_i g _
    dsimp only
    split
    · split
      · unfold State.brineEnd
        dsimp only
        rw [State.setColumn_channels]
        exact (State.softens.routes (.regenGiveBack _)).channels
      · rfl
    · split
      · exact State.rinseEnd_channels _ _
      · rfl
    · rfl

theorem State.strayAccount_channels (s : State) (v : Nat) : (s.strayAccount v).1.channels = s.channels := by
  obtain ⟨x, hx⟩ : ∃ x : State, x = { s with soft.stray := min 65535 (s.soft.stray + v) } := ⟨_, rfl⟩
  have same : x.channels = s.channels := by
    rw [hx]
    rfl
  have used : (x.useProfile .machine).channels = s.channels := (x.useProfile_channels .machine).trans same
  unfold State.strayAccount
  dsimp only
  rw [← hx]
  split
  · exact same
  · split
    · exact used
    · exact used

theorem State.flowHandoff_channels (s : State) (total : Nat) (before : Freshness) :
    (s.flowHandoff total before).1.channels = s.channels := by
  obtain ⟨x, acts, n, e⟩ : ∃ x : State, s.acts (fun _ => False) x ∧ ∃ n, s.flowHandoff total before =
      if x.inletTo .fill then (x.fillAccount n, .volume n)
      else if x.inletTo .regen then (x.regenAccount n, .nothing) else x.strayAccount n :=
    ⟨_, ((State.acts.refl _ s).useProfile .softener).units _ _ _ _ _, _, rfl⟩
  rw [e, ← State.channels_eq acts.chan acts.mode]
  split
  · exact State.fillAccount_channels x n
  · split
    · exact State.regenAccount_channels x n
    · exact State.strayAccount_channels x n

/-! #### The hand-off of a role -/

theorem State.channels_of_outer {s t : State} (h : t.outer = s.outer) : t.channels = s.channels := State.of_outer State.channels h

theorem State.judgeOvertemp_channels (s : State) : s.judgeOvertemp.channels = s.channels := by
  have used := s.outer_useMachine
  unfold State.judgeOvertemp
  split
  · rfl
  · dsimp only
    split
    · exact State.channels_of_outer ((State.outer_tripCause _ _).trans used)
    · exact State.channels_of_outer used

theorem State.judgeOverfill_channels (s : State) : s.judgeOverfill.channels = s.channels := by
  have used := s.outer_useMachine
  unfold State.judgeOverfill
  split
  · rfl
  · dsimp only
    split
    · exact State.channels_of_outer ((State.outer_tripCause _ _).trans used)
    · exact State.channels_of_outer used

theorem State.flowHand_channels (s : State) (total : Nat) (before : Freshness) :
    (s.flowHand total before).channels = s.channels := by
  have counted := s.flowHandoff_channels total before
  unfold State.flowHand
  dsimp only
  generalize s.flowHandoff total before = r at counted
  split
  · exact counted
  · exact ((State.phases.refl r.1).engineVolume _).channels.trans counted
  · exact (State.channels_of_outer (State.outer_tripCause _ _)).trans counted

/-- No consumer of a role writes a channel or the mode (R18). -/
theorem State.handOff_channels (s : State) (r : Role) (total : Nat) (before : Freshness) :
    (s.handOff r total before).channels = s.channels := by
  have told : ∀ r, ((s.tellSwitch r).updateIf (s.runningIn .hold) r).channels = s.channels := fun r =>
    ((State.phases.refl _).updateIf _ r).channels.trans
      (State.channels_eq (State.tells.tellSwitch s r).chan (State.tells.tellSwitch s r).mode)
  cases r with
  | tubTemp =>
    exact (State.judgeOvertemp_channels _).trans ((State.phases.refl s).engineTemp.updateIf (s.runningIn .hold) .tubTemp).channels
  | tubLevel =>
    exact (State.judgeOverfill_channels _).trans ((State.phases.refl s).engineLevel.updateIf (s.runningIn .hold) .tubLevel).channels
  | flow => exact s.flowHand_channels total before
  | general => rfl
  | turbidity => exact told .turbidity
  | conductivity => exact told .conductivity
  | leak => exact told .leak
  | saltLow => exact told .saltLow
  | detLow => exact told .detLow
  | rinseLow => exact told .rinseLow

end Sys2Proof.Machine
end

section
/-! ### What a sample and a miss leave in their channel (R6 to R16) -/

namespace Sys2Proof.Machine

/-! #### The runtime state of one channel -/

theorem State.withRun_own (s : State) (i : Fin 32) (f : ChannelRun → ChannelRun) :
    (s.withRun i f).chan.run[i] = f s.chan.run[i] := by
  rw [State.withRun_run, if_pos rfl]

theorem State.withRun_other (s : State) {i j : Fin 32} (h : j ≠ i) (f : ChannelRun → ChannelRun) :
    (s.withRun i f).chan.run[j] = s.chan.run[j] := by
  rw [State.withRun_run, if_neg h]

/-- Storing touches nothing of the channel but its store. -/
structure State.stores (s : State) (i : Fin 32) (t : State) : Prop where
  own : t.chan.run[i] = { s.chan.run[i] with store := t.chan.run[i].store }
  others : ∀ j : Fin 32, j ≠ i → t.chan.run[j] = s.chan.run[j]
  active : t.chan.active = s.chan.active
  rest : { t with chan := s.chan, link := s.link } = s
  posts : ∃ ns : List Notice, t.link = ns.foldl LinkUnit.post s.link

theorem State.stores.refl (s : State) (i : Fin 32) : s.stores i s := ⟨rfl, fun _ _ => rfl, rfl, rfl, [], rfl⟩

theorem State.withStore_stores (s : State) (i : Fin 32) (x : SampleStore) :
    s.stores i (s.withRun i (fun r => { r with store := x })) := by
  refine ⟨?_, fun j hj => s.withRun_other hj _, rfl, rfl, [], rfl⟩
  rw [State.withRun_own]

theorem State.stores.post {s t : State} {i : Fin 32} (h : s.stores i t) (k : NoticeKind) (l n : Nat) (v : Int) :
    s.stores i (t.post k l n v) := by
  obtain ⟨ns, hn⟩ := h.posts
  exact ⟨h.own, h.others, h.active, h.rest, ns ++ [t.notice k l n v], by rw [List.foldl_append, ← hn]; rfl⟩

theorem State.storeRing_stores (s : State) (i : Fin 32) (n : Nat) (moves : Bool) (x : Sample) :
    s.stores i (s.storeRing i n moves x) := by
  unfold State.storeRing
  dsimp only
  split
  · split
    · exact (s.withStore_stores i _).post ..
    · exact s.withStore_stores i _
  · exact s.withStore_stores i _

theorem State.storeSample_stores (s : State) (i : Fin 32) (e : ChannelEntry) (good : Bool) (flags : Byte) :
    s.stores i (s.storeSample i e good flags) := by
  unfold State.storeSample
  dsimp only
  split
  · exact .refl s i
  · split
    · exact s.withStore_stores i _
    · exact .refl s i
  · split
    · exact s.withStore_stores i _
    · exact .refl s i
  · exact s.storeRing_stores ..
  · exact s.storeRing_stores ..

/-! #### The values of a valid sample (R7 to R12) -/

/-- The limit is judged on the values: the mark, and the notice where it becomes true (R9). -/
theorem State.judgeLimit_eq (s : State) (i : Fin 32) (e : ChannelEntry) :
    s.judgeLimit i e = { s with
      chan.run := upd s.chan.run i { s.chan.run[i] with limitActive := limitHolds e s.chan.run[i].filtered }
      link :=
        if limitHolds e s.chan.run[i].filtered = true ∧ s.chan.run[i].limitActive = false then
          s.link.post (s.notice .channelLimit e.level i.val s.chan.run[i].filtered)
        else s.link } := by
  unfold State.judgeLimit
  dsimp only
  cases limitHolds e s.chan.run[i].filtered <;> cases s.chan.run[i].limitActive <;> rfl

theorem curveIndex_of_lt {c : Nat} (h : c < 8) : curveIndex c = some ⟨c, h⟩ := by
  unfold curveIndex
  exact dif_pos h

/-- A sound curve, or none, converts without a finding (R7). -/
theorem State.convert_sound {s : State} {i : Fin 32} {e : ChannelEntry} (raw : Int)
    (sound : ∀ c, e.curve = some c → ∃ h : c < 8, (s.chan.curves[c]'h).sound = true) :
    (s.convert i e raw).1 = s ∧ (e.curve = none → (s.convert i e raw).2 = raw) ∧
      ∀ c, e.curve = some c → ∀ h : c < 8, (s.convert i e raw).2 = evalPoints (s.chan.curves[c]'h).contents.points raw := by
  cases curve : e.curve with
  | none =>
    unfold State.convert
    rw [curve]
    exact ⟨rfl, fun _ => rfl, nofun⟩
  | some c =>
    obtain ⟨h, hs⟩ := sound c curve
    have converted : s.convert i e raw = (s, evalPoints (s.chan.curves[c]'h).contents.points raw) := by
      unfold State.convert
      rw [curve]
      dsimp only
      rw [curveIndex_of_lt h]
      exact if_pos hs
    rw [converted]
    refine ⟨rfl, nofun, fun d hd h' => ?_⟩
    cases hd
    rfl

/-- A damaged curve is found, and the value is held (R7, R175). -/
theorem State.convert_damaged {s : State} {i : Fin 32} {e : ChannelEntry} (raw : Int) {c : Nat} (h : c < 8)
    (curve : e.curve = some c) (damaged : (s.chan.curves[c]'h).sound = false) :
    s.convert i e raw = (s.integrityError .curve (some .active) c, s.chan.run[i].converted) := by
  unfold State.convert
  rw [curve]
  dsimp only
  rw [curveIndex_of_lt h]
  exact if_neg (Bool.eq_false_iff.mp damaged)

theorem clampInt_raw (value : Nat) : clampInt 0 4095 value = min 4095 (value : Int) := by
  unfold clampInt
  omega

/-- What a valid sample leaves in its channel before it is stored (R7 to R12). -/
structure State.valued (s : State) (i : Fin 32) (e : ChannelEntry) (value : Nat) (x : ChannelRun) : Prop where
  fresh : x.freshness = .fresh
  misses : x.misses = 0
  flow : e.role = .flow → x.raw = value ∧ x.converted = value ∧ x.filtered = value
  raw : e.role ≠ .flow → x.raw = min 4095 (value : Int)
  plain : e.role ≠ .flow → e.curve = none → x.converted = x.raw
  curve : e.role ≠ .flow → ∀ c, e.curve = some c → ∀ h : c < 8,
    x.converted = evalPoints (s.chan.curves[c]'h).contents.points x.raw
  filtered : e.role ≠ .flow → x.filtered = filterStep s.chan.run[i].freshness s.chan.run[i].filtered x.converted e.shift
  limit : x.limitActive = limitHolds e x.filtered
  store : x.store = s.chan.run[i].store

/-- The limit judged on values just taken (R9). -/
theorem State.judgeLimit_withRun (s : State) (i : Fin 32) (e : ChannelEntry) {y : ChannelRun} {f : ChannelRun → ChannelRun}
    (h : f s.chan.run[i] = y) :
    (s.withRun i f).judgeLimit i e = { s with
      chan.run := upd s.chan.run i { y with limitActive := limitHolds e y.filtered }
      link :=
        if limitHolds e y.filtered = true ∧ y.limitActive = false then
          s.link.post (s.notice .channelLimit e.level i.val y.filtered)
        else s.link } := by
  have twice : ∀ x, upd (s.withRun i f).chan.run i x = upd s.chan.run i x := fun x => Vector.set_set ..
  rw [State.judgeLimit_eq, State.withRun_own, h, twice]
  rfl

/-- A valid sample with sound tables: its channel's values, and the limit notice (R7 to R12). -/
theorem State.readSample_spec {s : State} {i : Fin 32} {e : ChannelEntry} (value : Nat)
    (sound : ∀ c, e.curve = some c → ∃ h : c < 8, (s.chan.curves[c]'h).sound = true) :
    ∃ x, s.valued i e value x ∧ (s.takeValues i e value).judgeLimit i e = { s with
      chan.run := upd s.chan.run i x
      link :=
        if x.limitActive = true ∧ s.chan.run[i].limitActive = false then
          s.link.post (s.notice .channelLimit e.level i.val x.filtered)
        else s.link } := by
  by_cases flow : e.role = .flow
  · have taken : s.takeValues i e value = s.withRun i (fun r =>
        { r with raw := value, converted := value, filtered := value, freshness := .fresh, misses := 0 }) := if_pos flow
    rw [taken, State.judgeLimit_withRun s i e rfl]
    exact ⟨_, ⟨rfl, rfl, fun _ => ⟨rfl, rfl, rfl⟩, absurd flow, absurd flow, absurd flow, absurd flow, rfl, rfl⟩, rfl⟩
  · obtain ⟨same, plain, curve⟩ := State.convert_sound (s := s) (i := i) (clampInt 0 4095 value) sound
    have taken : s.takeValues i e value = s.withRun i (fun r =>
        { r with
          raw := clampInt 0 4095 value
          converted := (s.convert i e (clampInt 0 4095 value)).2
          filtered := filterStep r.freshness r.filtered (s.convert i e (clampInt 0 4095 value)).2 e.shift
          freshness := .fresh
          misses := 0 }) := by
      unfold State.takeValues
      rw [if_neg flow]
      dsimp only
      rw [same]
    rw [taken, State.judgeLimit_withRun s i e rfl]
    exact ⟨_, ⟨rfl, rfl, fun h => absurd h flow, fun _ => clampInt_raw value, fun _ => plain, fun _ => curve, fun _ => rfl, rfl, rfl⟩,
      rfl⟩

end Sys2Proof.Machine
end

section
/-! ### The sample stores, and a valid sample on its way to the consumers (R10 to R13, R18 to R21) -/

namespace Sys2Proof.Machine

/-! #### The stores (R20, R21) -/

/-- A write that advances a ring which is not above its size (R21). -/
theorem SampleStore.advance_eq {t : SampleStore} {n : Nat} (x : Sample) (fits : t.ring.length ≤ n) (some : 0 < n) :
    t.advance n x = { t with
      ring := (t.ring ++ [x]).drop (t.ring.length + 1 - n)
      writePos := (t.writePos + 1) % n
      readPos := if t.ring.length = n then (t.readPos + 1) % n else t.readPos
      overrun := t.overrun || decide (t.ring.length = n)
      waiting := none } := by
  unfold SampleStore.advance
  by_cases full : t.ring.length = n
  · have one : t.ring.length + 1 - n = 1 := by omega
    have more : 1 ≤ t.ring.length := by omega
    rw [if_neg (by omega), one, if_pos full, decide_eq_true full, Bool.or_true, List.drop_append_of_le_length more]
  · have none : t.ring.length + 1 - n = 0 := by omega
    rw [if_pos (by omega), none, if_neg full, decide_eq_false full, Bool.or_false, List.drop_zero]

theorem SampleStore.advance_length {t : SampleStore} {n : Nat} (x : Sample) (fits : t.ring.length ≤ n) (some : 0 < n) :
    (t.advance n x).ring.length = min n (t.ring.length + 1) := by
  rw [SampleStore.advance_eq x fits some]
  show ((t.ring ++ [x]).drop _).length = _
  rw [List.length_drop, List.length_append, List.length_singleton]
  omega

/-- The write position stays the read position and the count together, round the ring (R21). -/
theorem SampleStore.advance_positions {t : SampleStore} {n : Nat} (x : Sample) (fits : t.ring.length ≤ n) (some : 0 < n)
    (h : t.writePos = (t.readPos + t.ring.length) % n) :
    (t.advance n x).writePos = ((t.advance n x).readPos + (t.advance n x).ring.length) % n := by
  rw [SampleStore.advance_length x fits some, SampleStore.advance_eq x fits some]
  show (t.writePos + 1) % n = ((if t.ring.length = n then (t.readPos + 1) % n else t.readPos) + min n (t.ring.length + 1)) % n
  rw [h, Nat.mod_add_mod]
  split
  · rename_i full
    rw [full, Nat.min_eq_left (Nat.le_succ n), Nat.mod_add_mod]
    congr 1
    omega
  · rw [Nat.min_eq_right (by omega), Nat.add_assoc]

section Ring

variable {s : State} {i : Fin 32} {n : Nat} {x : Sample}

theorem State.storeRing_waits :
    s.storeRing i n false x = { s with
      chan.run := s.chan.run.set i { s.chan.run[i] with
        store := if s.chan.run[i].store.ring.length < n then { s.chan.run[i].store with waiting := some x }
          else s.chan.run[i].store } } := rfl

/-- A sample that advances a ring: its place, the positions, and the notice of the middle or the end (R21). -/
theorem State.storeRing_advances (fits : s.chan.run[i].store.ring.length ≤ n) (two : 2 ≤ n) :
    (s.storeRing i n true x).chan =
        State.chan { s with chan.run := s.chan.run.set i { s.chan.run[i] with store := s.chan.run[i].store.advance n x } } ∧
      (s.chan.run[i].store.writePos + 1 = n / 2 → (s.storeRing i n true x).link =
        s.link.post (s.notice .ringHalf 6 i.val (min n (s.chan.run[i].store.ring.length + 1) : Nat))) ∧
      (s.chan.run[i].store.writePos + 1 = n → (s.storeRing i n true x).link =
        s.link.post (s.notice .ringWrap 6 i.val (min n (s.chan.run[i].store.ring.length + 1) : Nat))) ∧
      (s.chan.run[i].store.writePos + 1 ≠ n / 2 → s.chan.run[i].store.writePos + 1 ≠ n →
        (s.storeRing i n true x).link = s.link) := by
  have length := SampleStore.advance_length x fits (Nat.lt_of_lt_of_le Nat.zero_lt_two two)
  have ring : s.storeRing i n true x =
      match ringNotice n s.chan.run[i].store.writePos with
      | some kind => (s.withRun i (fun r => { r with store := s.chan.run[i].store.advance n x })).post kind 6 i.val
          (s.chan.run[i].store.advance n x).ring.length
      | none => s.withRun i (fun r => { r with store := s.chan.run[i].store.advance n x }) := rfl
  rw [ring, length]
  unfold ringNotice
  refine ⟨?_, fun half => ?_, fun wrap => ?_, fun noHalf noWrap => ?_⟩
  · split <;> rfl
  · rw [if_pos half]
    rfl
  · rw [if_neg (by omega), if_pos wrap]
    rfl
  · rw [if_neg noHalf, if_neg noWrap]
    rfl

end Ring

/-- How a sample is stored in each store mode: a part of O49. -/
theorem State.storeSample_spec (s : State) (i : Fin 32) (e : ChannelEntry) (good : Bool) (flags : Byte) :
    let r := s.chan.run[i]
    let x : Sample := { value := r.converted, flags := flags, tag := s.link.timeTag }
    let t := s.storeSample i e good flags
    let taken := good || !e.advanceValid
    let put := fun (st : SampleStore) => { s with chan.run := s.chan.run.set i { r with store := st } }
    (e.store = .none → t = s) ∧
    (e.store = .latest ∨ e.store = .paired → taken = false → t = s) ∧
    (e.store = .latest → taken = true → t = put { r.store with place := some x, unreadMark := true }) ∧
    (e.store = .paired → taken = true →
      t = put { r.store with place := some x, writeHalf := r.store.place, unreadMark := true }) ∧
    (∀ n, e.store = .ring16 ∧ n = 16 ∨ e.store = .ring64 ∧ n = 64 →
      (taken = false →
        t = put (if r.store.ring.length < n then { r.store with waiting := some x } else r.store)) ∧
      (taken = true → r.store.ring.length ≤ n →
        t.chan = State.chan (put { r.store with
          ring := (r.store.ring ++ [x]).drop (r.store.ring.length + 1 - n)
          writePos := (r.store.writePos + 1) % n
          readPos := if r.store.ring.length = n then (r.store.readPos + 1) % n else r.store.readPos
          overrun := r.store.overrun || decide (r.store.ring.length = n)
          waiting := none }) ∧
        (r.store.writePos = (r.store.readPos + r.store.ring.length) % n →
          t.chan.run[i].store.writePos = (t.chan.run[i].store.readPos + t.chan.run[i].store.ring.length) % n) ∧
        { t with chan := s.chan, link := s.link } = s ∧
        (r.store.writePos + 1 = n / 2 →
          t.link = s.link.post (s.notice .ringHalf 6 i.val (min n (r.store.ring.length + 1) : Nat))) ∧
        (r.store.writePos + 1 = n →
          t.link = s.link.post (s.notice .ringWrap 6 i.val (min n (r.store.ring.length + 1) : Nat))) ∧
        (r.store.writePos + 1 ≠ n / 2 → r.store.writePos + 1 ≠ n → t.link = s.link))) := by
  intro r x t taken put
  have stored : t = match e.store with
      | .none => s
      | .latest => if taken then s.withRun i (fun r => { r with store := r.store.putLatest x }) else s
      | .paired => if taken then s.withRun i (fun r => { r with store := r.store.putPaired x }) else s
      | .ring16 => s.storeRing i 16 taken x
      | .ring64 => s.storeRing i 64 taken x := rfl
  refine ⟨fun mode => ?_, fun mode off => ?_, fun mode on => ?_, fun mode on => ?_, fun n mode => ?_⟩
  · rw [stored, mode]
  · rcases mode with mode | mode
    · rw [stored, mode, off]
      rfl
    · rw [stored, mode, off]
      rfl
  · rw [stored, mode, on]
    rfl
  · rw [stored, mode, on]
    rfl
  · have two : 2 ≤ n := by omega
    have ring : t = s.storeRing i n taken x := by
      rcases mode with ⟨mode, rfl⟩ | ⟨mode, rfl⟩
      · rw [stored, mode]
      · rw [stored, mode]
    refine ⟨fun off => ?_, fun on fits => ?_⟩
    · rw [ring, off]
      exact State.storeRing_waits
    · have some := Nat.lt_of_lt_of_le Nat.zero_lt_two two
      obtain ⟨chan, half, wrap, other⟩ := State.storeRing_advances (x := x) fits two
      have rest := (s.storeRing_stores i n true x).rest
      rw [ring, on]
      refine ⟨?_, fun h => ?_, rest, half, wrap, other⟩
      · rw [chan, SampleStore.advance_eq x fits some]
      · have own : (s.storeRing i n true x).chan.run[i].store = s.chan.run[i].store.advance n x := by
          rw [chan]
          exact congrArg ChannelRun.store (upd_same s.chan.run i _)
        rw [own]
        exact SampleStore.advance_positions x fits some h

/-! #### A valid sample (R7 to R12, R18) -/

section Valid

variable {s : State} {sat ch : Nat} {flags : Byte} {i : Fin 32}

theorem State.sample_valid (value : Nat) (found : s.channelOf sat ch = some i) (sound : s.chan.active[i].sound = true)
    (valid : flags.getLsbD 0 = true) (good : flags.getLsbD 1 = false) :
    s.sample sat ch flags value =
      (((s.takeValues i s.chan.active[i].contents value).judgeLimit i s.chan.active[i].contents).storeSample i
        s.chan.active[i].contents true flags).handOff s.chan.active[i].contents.role value s.chan.run[i].freshness := by
  unfold State.sample
  rw [found]
  dsimp only
  rw [sound, Bool.not_true, if_neg Bool.false_ne_true, if_pos (by unfold validFlags; rw [valid, good]; rfl)]
  rfl

theorem State.sample_faulty (value : Nat) (found : s.channelOf sat ch = some i) (sound : s.chan.active[i].sound = true)
    (bad : flags.getLsbD 0 = false ∨ flags.getLsbD 1 = true) :
    s.sample sat ch flags value = (s.countMiss i).storeSample i s.chan.active[i].contents false flags := by
  have invalid : validFlags flags = false := by
    unfold validFlags
    rcases bad with h | h
    · rw [h, Bool.false_and]
    · rw [h, Bool.not_true, Bool.and_false]
  unfold State.sample
  rw [found]
  dsimp only
  rw [sound, Bool.not_true, if_neg Bool.false_ne_true, invalid, if_neg Bool.false_ne_true]
  rfl

theorem State.sample_damaged (value : Nat) (found : s.channelOf sat ch = some i) (damaged : s.chan.active[i].sound = false) :
    s.sample sat ch flags value = s.faultChannel i := by
  unfold State.sample
  rw [found]
  dsimp only
  rw [damaged, Bool.not_false, if_pos rfl]

end Valid

/-- From the values of a sample to the end of its event's hand-off nothing but its store is written in the channels. -/
theorem State.handedOff_run {v : State} {i : Fin 32} (e : ChannelEntry) (good : Bool) (flags : Byte) (r : Role) (total : Nat)
    (before : Freshness) :
    ((v.storeSample i e good flags).handOff r total before).chan.run = (v.storeSample i e good flags).chan.run ∧
      ((v.storeSample i e good flags).handOff r total before).chan.active = v.chan.active := by
  have channels := (v.storeSample i e good flags).handOff_channels r total before
  simp only [State.channels, Prod.mk.injEq] at channels
  obtain ⟨run, active, -⟩ := channels
  exact ⟨run, active.trans (v.storeSample_stores i e good flags).active⟩

/-- A valid sample with sound tables: the values it takes, where it is stored, and to whom it is handed (R7 to R12, R18). -/
theorem State.sample_read {s : State} {sat ch : Nat} {flags : Byte} {i : Fin 32} (value : Nat)
    (found : s.channelOf sat ch = some i) (sound : s.chan.active[i].sound = true) (valid : flags.getLsbD 0 = true)
    (good : flags.getLsbD 1 = false)
    (curves : ∀ c, s.chan.active[i].contents.curve = some c → ∃ h : c < 8, (s.chan.curves[c]'h).sound = true) :
    ∃ (x : ChannelRun) (v u : State), s.valued i s.chan.active[i].contents value x ∧
      v = { s with
        chan.run := s.chan.run.set i x
        link :=
          if x.limitActive = true ∧ s.chan.run[i].limitActive = false then
            s.link.post (s.notice .channelLimit s.chan.active[i].contents.level i.val x.filtered)
          else s.link } ∧
      u = v.storeSample i s.chan.active[i].contents true flags ∧ v.chan.run[i] = x ∧ v.stores i u ∧
      s.sample sat ch flags value = u.handOff s.chan.active[i].contents.role value s.chan.run[i].freshness ∧
      (s.sample sat ch flags value).chan.run = u.chan.run ∧ (s.sample sat ch flags value).chan.active = s.chan.active := by
  obtain ⟨x, valued, read⟩ := State.readSample_spec (s := s) (i := i) value curves
  have handed := State.sample_valid value found sound valid good
  rw [read] at handed
  refine ⟨x, _, _, valued, rfl, rfl, upd_same s.chan.run i x, State.storeSample_stores .., handed, ?_, ?_⟩
  · rw [handed]
    exact (State.handedOff_run ..).1
  · rw [handed]
    exact (State.handedOff_run ..).2

end Sys2Proof.Machine
end

section
/-! ### O49: samples, misses and the consumers of a role (R6 to R18, R168, R175) -/

namespace Sys2Proof.Machine

/-! #### Misses -/

section Miss

variable {s : State} {sat ch : Nat} {i : Fin 32} (found : s.channelOf sat ch = some i)
include found

theorem State.channelOf_notFaulted : s.chan.run[i].freshness ≠ .faulted := by
  unfold State.channelOf at found
  split at found
  · split at found
    · cases found
    · rename_i sound
      cases found
      exact sound
  · cases found

theorem State.miss_sound (sound : s.chan.active[i].sound = true) : s.miss sat ch = s.countMiss i := by
  unfold State.miss
  rw [found]
  exact if_pos sound

theorem State.miss_damaged (damaged : s.chan.active[i].sound = false) : s.miss sat ch = s.faultChannel i := by
  unfold State.miss
  rw [found]
  exact if_neg (Bool.eq_false_iff.mp damaged)

end Miss

/-- A miss turns its channel STALE (R14, R15). -/
abbrev State.turnsStale (s : State) (i : Fin 32) : Prop :=
  (s.chan.run[i].freshness = .fresh ∨ s.chan.run[i].freshness = .noData) ∧
    s.chan.active[i].contents.staleLimit ≤ min 15 (s.chan.run[i].misses + 1)

theorem State.countMiss_counts {s : State} {i : Fin 32} (h : ¬ s.turnsStale i) :
    s.countMiss i = { s with chan.run := s.chan.run.set i { s.chan.run[i] with misses := min 15 (s.chan.run[i].misses + 1) } } := by
  unfold State.countMiss
  exact if_neg (by simpa [State.turnsStale] using h)

theorem State.countMiss_stale {s : State} {i : Fin 32} (h : s.turnsStale i) :
    s.countMiss i =
      State.tellLost
        { s with
          chan.run := s.chan.run.set i
            { s.chan.run[i] with misses := min 15 (s.chan.run[i].misses + 1), freshness := .stale }
          link := s.link.post (s.notice .channelStale 3 i.val (min 15 (s.chan.run[i].misses + 1) : Nat)) }
        s.chan.active[i].contents.role s.chan.run[i].freshness (some i.val) s.chan.run[i].filtered := by
  unfold State.countMiss
  exact if_pos (by simpa [State.turnsStale] using h)

theorem State.faultChannel_eq (s : State) (i : Fin 32) :
    s.faultChannel i =
      State.tellLost
        { s.integrityError .channel (some .active) i.val with
          chan.run := s.chan.run.set i { s.chan.run[i] with freshness := .faulted } }
        s.chan.active[i].contents.role s.chan.run[i].freshness (some i.val) s.chan.run[i].filtered := by
  have found := s.integrityError_findsError .channel (some .active) i.val
  have chan := found.chan
  unfold State.faultChannel
  dsimp only
  generalize s.integrityError .channel (some .active) i.val = x at chan
  have own : (x.withRun i (fun r => { r with freshness := .faulted })).chan.run[i].filtered = s.chan.run[i].filtered := by
    rw [State.withRun_own, chan]
  rw [own]
  unfold State.withRun
  rw [chan]
  rfl

theorem State.tellLost_chan (s : State) (r : Role) (before : Freshness) (source : Option Nat) (value : Int) :
    (s.tellLost r before source value).chan = s.chan := (State.tells.tellLost s r before source value).chan

/-- The values of the channels after a miss: only its own channel's (R14, R15). -/
theorem State.countMiss_run (s : State) (i : Fin 32) :
    (s.countMiss i).chan.run = s.chan.run.set i { s.chan.run[i] with
      misses := min 15 (s.chan.run[i].misses + 1)
      freshness := if s.turnsStale i then .stale else s.chan.run[i].freshness } := by
  by_cases h : s.turnsStale i
  · rw [State.countMiss_stale h, State.tellLost_chan, if_pos h]
  · rw [State.countMiss_counts h, if_neg h]

/-- The values of the channels after a damaged entry was found: only its own channel's freshness (R175). -/
theorem State.faultChannel_run (s : State) (i : Fin 32) :
    (s.faultChannel i).chan.run = s.chan.run.set i { s.chan.run[i] with freshness := .faulted } := by
  rw [State.faultChannel_eq, State.tellLost_chan]

theorem State.tellLost_quiet (s : State) {r : Role} (quiet : r = .turbidity ∨ r = .conductivity ∨ r = .flow ∨ r = .general)
    (before : Freshness) (source : Option Nat) (value : Int) : s.tellLost r before source value = s := by
  rcases quiet with rfl | rfl | rfl | rfl
  · rfl
  · rfl
  · rfl
  · rfl

theorem State.channelOf_none {s : State} {sat ch : Nat} (none : s.channelOf sat ch = none) :
    s.miss sat ch = s ∧ ∀ (flags : Byte) (value : Nat), s.sample sat ch flags value = s := by
  refine ⟨?_, fun flags value => ?_⟩
  · unfold State.miss
    rw [none]
  · unfold State.sample
    rw [none]

end Sys2Proof.Machine
end

section
/-! ### The consumers of a role, and a valid sample as they are told of it (R7 to R18, R168) -/

namespace Sys2Proof.Machine

/-! #### The loss of a role (R18, R168) -/

/-- The engine told that TUB_TEMP is lost: the thermostat is judged off in CIRCULATE and HOLD (R70). -/
theorem State.engineTempLost_eq (s : State) : s.engineTempLost =
    if s.runningIn .circulate = true ∨ s.runningIn .hold = true then
      State.release { s with eng.head := s.eng.head.map (fun h => { h with thermostat := false }) } .heater
    else s := by
  unfold State.engineTempLost
  simp only [Bool.or_eq_true]
  rfl

/-- What the judgement of SENSOR_LOST reads. -/
structure State.judgesAlike (s t : State) : Prop where
  chan : t.chan = s.chan
  mode : t.link.mode = s.link.mode
  underWay : t.underWay = s.underWay
  noGrant : t.noGrant = s.noGrant
  lossOpen : t.trip.lossOpen = s.trip.lossOpen

theorem State.judgesAlike.engineTempLost (s : State) : s.judgesAlike s.engineTempLost := by
  unfold State.engineTempLost
  split
  · have acts := s.setThermostat_acts false
    have eng := (s.setThermostat_spec false).1
    refine ⟨acts.chan, acts.mode, ?_, ?_, (congrArg (fun x : State => x.trip.lossOpen) acts.rest :)⟩
    · unfold State.underWay
      rw [eng]
    · unfold State.noGrant
      simp only [fun l => (acts.stands l).1]
  · exact ⟨rfl, rfl, rfl, rfl, rfl⟩

/-- SENSOR_LOST judged after the role's owner was told (R168). -/
theorem State.judgesAlike.loss {s t : State} (h : s.judgesAlike t) (r : Role) (before : Freshness) (source : Option Nat) (value : Int) :
    (if t.lossJudged r before then t.judgeLoss r source value else t) =
      if (before = .fresh ∨ before = .noData ∧ s.roleFreshness r = .stale) ∧
          (s.link.mode = .run ∧ s.underWay = true ∨ s.link.mode = .service ∧ s.noGrant = false ∨ s.trip.lossOpen = true) then
        t.tripCause { reason := .sensorLost, source := source, value := value, lost := some r }
      else t := by
  have role : t.roleFreshness r = s.roleFreshness r := by
    unfold State.roleFreshness State.bound
    rw [h.chan]
  have judged : t.lossJudged r before = true ↔ before = .fresh ∨ before = .noData ∧ s.roleFreshness r = .stale := by
    simp [State.lossJudged, role]
  have counts : (t.lossCounts || t.trip.lossOpen) = true ↔
      s.link.mode = .run ∧ s.underWay = true ∨ s.link.mode = .service ∧ s.noGrant = false ∨ s.trip.lossOpen = true := by
    simp [State.lossCounts, h.mode, h.underWay, h.noGrant, h.lossOpen, or_assoc]
  unfold State.judgeLoss
  simp only [ite_and, judged, counts]
  rfl

theorem State.tellLost_tubTemp (s : State) (before : Freshness) (source : Option Nat) (value : Int) :
    ∃ x, (x = if before = .fresh ∧ (s.runningIn .circulate = true ∨ s.runningIn .hold = true) then
          State.release { s with eng.head := s.eng.head.map (fun h => { h with thermostat := false }) } .heater
        else s) ∧ s.judgesAlike x ∧
      s.tellLost .tubTemp before source value =
        if x.lossJudged .tubTemp before then x.judgeLoss .tubTemp source value else x := by
  by_cases fresh : before = .fresh
  · refine ⟨s.engineTempLost, ?_, .engineTempLost s, ?_⟩
    · rw [State.engineTempLost_eq, ite_and, if_pos fresh]
    · unfold State.tellLost
      dsimp only
      rw [if_pos fresh]
  · refine ⟨s, ?_, ⟨rfl, rfl, rfl, rfl, rfl⟩, ?_⟩
    · rw [ite_and, if_neg fresh]
    · unfold State.tellLost
      dsimp only
      rw [if_neg fresh]

/-- The consumers told of a lost role: a part of O49. -/
theorem State.tellLost_cases (s : State) (before : Freshness) (source : Option Nat) (value : Int) :
    let cold :=
      if before = .fresh ∧ (s.runningIn .circulate = true ∨ s.runningIn .hold = true) then
        State.release { s with eng.head := s.eng.head.map (fun h => { h with thermostat := false }) } .heater
      else s
    let lost := fun (r : Role) (x : State) =>
      if (before = .fresh ∨ before = .noData ∧ s.roleFreshness r = .stale) ∧
          (s.link.mode = .run ∧ s.underWay = true ∨ s.link.mode = .service ∧ s.noGrant = false ∨ s.trip.lossOpen = true) then
        x.tripCause { reason := .sensorLost, source := source, value := value, lost := some r }
      else x
    s.tellLost .tubTemp before source value = lost .tubTemp cold ∧
      s.tellLost .tubLevel before source value = lost .tubLevel { s with arb.evalDue := true } := by
  intro cold lost
  have level : s.judgesAlike { s with arb.evalDue := true } := ⟨rfl, rfl, rfl, rfl, rfl⟩
  obtain ⟨x, hx, alike, told⟩ := s.tellLost_tubTemp before source value
  refine ⟨?_, (level.loss .tubLevel before source value :)⟩
  show _ = lost .tubTemp (ite _ _ _)
  rw [told, alike.loss, ← hx]

/-! #### The switches and the limits (R9, R12, R17) -/

theorem State.asserted_bound {s : State} {r : Role} {i : Fin 32} (h : s.bound r = some i) :
    s.asserted r = true ↔ s.chan.run[i].freshness = .fresh ∧ s.chan.run[i].converted ≠ 0 := by
  unfold State.asserted
  rw [h]
  simp

theorem State.asserted_unbound {s : State} {r : Role} (h : s.bound r = none) : s.asserted r = false := by
  unfold State.asserted
  rw [h]

/-- The limit of a FLOW total is compared as an unsigned number of 16 bits (R12). -/
theorem limitHolds_eq {e : ChannelEntry} (filtered : Int) (low : -32768 ≤ e.limit) (high : e.limit ≤ 32767) :
    limitHolds e filtered = e.cond.holds filtered (if e.role = .flow ∧ e.limit < 0 then e.limit + 65536 else e.limit) := by
  unfold limitHolds
  by_cases flow : e.role = .flow
  · have unsigned : e.limit % 65536 = if e.limit < 0 then e.limit + 65536 else e.limit := by omega
    rw [if_pos flow, ite_and, if_pos flow, unsigned]
  · rw [if_neg flow, ite_and, if_neg flow]

/-- The flow accounting's report, as the engine or the trip unit takes it (R59, R98). -/
theorem State.flowHand_eq (s : State) (total : Nat) (before : Freshness) :
    ((s.flowHandoff total before).2 = .nothing → s.flowHand total before = (s.flowHandoff total before).1) ∧
      (∀ v, (s.flowHandoff total before).2 = .volume v →
        s.flowHand total before = (s.flowHandoff total before).1.engineVolume v) ∧
      (∀ v, (s.flowHandoff total before).2 = .stray v → s.flowHand total before =
        (s.flowHandoff total before).1.tripCause
          { reason := .inletFlow, source := (s.flowHandoff total before).1.roleSource .flow, value := v, lost := none }) := by
  unfold State.flowHand
  dsimp only
  generalize s.flowHandoff total before = r
  refine ⟨fun h => ?_, fun v h => ?_, fun v h => ?_⟩
  · rw [h]
  · rw [h]
  · rw [h]
    rfl

end Sys2Proof.Machine
end

section
/-! ### Settles O49 (R6 to R18, R20, R21, R168, R175) -/

namespace Sys2Proof.Machine

/-! #### A valid sample and its consumers -/

theorem State.updateIf_trip (s : State) (holding : Bool) (r : Role) : (s.updateIf holding r).trip = s.trip := by
  unfold State.updateIf
  split
  · rcases s.exitUpdate_cases (fun t => decide (t = .role r)) with same | ⟨-, w, ends⟩
    · exact congrArg State.trip same
    · exact (congrArg State.trip ends).trans (s.endHold_units w).2.2.1
  · rfl

/-- What the hand-off of each role is, on a state and with what HOLD was when it began (R18). -/
theorem State.handOff_cases (u : State) {holding : Bool} (hold : u.runningIn .hold = holding) (r : Role) (total : Nat)
    (before : Freshness) :
    let updated := fun (x : State) => if holding then x.roleUpdate r else x
    let t := u.handOff r total before
    (r = .general → t = u) ∧
      (r = .tubTemp → t = (updated u.engineTemp).judgeOvertemp) ∧
      (r = .tubLevel → t = State.judgeOverfill { updated u.engineLevel with arb.evalDue := true }) ∧
      (r = .turbidity ∨ r = .conductivity → t = updated u) ∧
      (r = .flow → t = u.flowHand total before) ∧
      (r = .leak ∨ r = .saltLow ∨ r = .detLow ∨ r = .rinseLow → t = updated (u.tellSwitch r)) := by
  subst hold
  cases r with
  | general => exact ⟨fun _ => rfl, nofun, nofun, nofun, nofun, nofun⟩
  | tubTemp => exact ⟨nofun, fun _ => rfl, nofun, nofun, nofun, nofun⟩
  | tubLevel => exact ⟨nofun, nofun, fun _ => rfl, nofun, nofun, nofun⟩
  | turbidity => exact ⟨nofun, nofun, nofun, fun _ => rfl, nofun, nofun⟩
  | conductivity => exact ⟨nofun, nofun, nofun, fun _ => rfl, nofun, nofun⟩
  | flow => exact ⟨nofun, nofun, nofun, nofun, fun _ => rfl, nofun⟩
  | leak => exact ⟨nofun, nofun, nofun, nofun, nofun, fun _ => rfl⟩
  | saltLow => exact ⟨nofun, nofun, nofun, nofun, nofun, fun _ => rfl⟩
  | detLow => exact ⟨nofun, nofun, nofun, nofun, nofun, fun _ => rfl⟩
  | rinseLow => exact ⟨nofun, nofun, nofun, nofun, nofun, fun _ => rfl⟩

section Valid

variable {s : State} {sat ch : Nat} {flags : Byte} {i : Fin 32} (value : Nat)
variable (found : s.channelOf sat ch = some i) (sound : s.chan.active[i].sound = true) (valid : flags.getLsbD 0 = true)
variable (good : flags.getLsbD 1 = false)
include found sound valid good

/-- A valid sample is the hand-off of the state with its values, its limit notice and its store (R18). -/
theorem State.sample_handed
    (curves : ∀ c, s.chan.active[i].contents.curve = some c → ∃ h : c < 8, (s.chan.curves[c]'h).sound = true) :
    let e := s.chan.active[i].contents
    let r := s.chan.run[i]
    let t := s.sample sat ch flags value
    let r' := t.chan.run[i]
    let v := { s with
      chan.run := s.chan.run.set i { r' with store := r.store }
      link :=
        if r'.limitActive = true ∧ r.limitActive = false then s.link.post (s.notice .channelLimit e.level i.val r'.filtered)
        else s.link }
    let u := v.storeSample i e true flags
    t = u.handOff e.role value r.freshness ∧ u.runningIn .hold = s.runningIn .hold := by
  obtain ⟨x, v, u, valued, hv, hu, own, stores, handed, run, -⟩ := State.sample_read value found sound valid good curves
  intro e r t r' v' u'
  have stored : r' = { x with store := u.chan.run[i].store } := by
    show (s.sample sat ch flags value).chan.run[i] = _
    rw [run, stores.own, own]
  have values : { x with store := r.store } = x := by
    show { x with store := s.chan.run[i].store } = x
    rw [← valued.store]
  have same : v' = v := by
    rw [hv]
    show ({ s with
      chan.run := s.chan.run.set i { r' with store := r.store }
      link :=
        if r'.limitActive = true ∧ r.limitActive = false then s.link.post (s.notice .channelLimit e.level i.val r'.filtered)
        else s.link } : State) = _
    rw [stored]
    exact congrArg (fun y : ChannelRun => { s with
      chan.run := s.chan.run.set i y
      link :=
        if x.limitActive = true ∧ r.limitActive = false then s.link.post (s.notice .channelLimit e.level i.val x.filtered)
        else s.link }) values
  have stands : u.eng = s.eng := by
    have kept := congrArg State.eng stores.rest
    rw [hv] at kept
    exact kept
  have eq : u' = u := by
    rw [hu, ← same]
  rw [eq]
  refine ⟨handed, ?_⟩
  unfold State.runningIn
  rw [stands]

/-- The values of a valid sample with sound tables: a part of O49. -/
theorem State.sample_values
    (curves : ∀ c, s.chan.active[i].contents.curve = some c → ∃ h : c < 8, (s.chan.curves[c]'h).sound = true) :
    let e := s.chan.active[i].contents
    let r := s.chan.run[i]
    let r' := (s.sample sat ch flags value).chan.run[i]
    r'.freshness = .fresh ∧ r'.misses = 0 ∧
      (e.role = .flow → r'.raw = value ∧ r'.converted = value ∧ r'.filtered = value) ∧
      (e.role ≠ .flow → r'.raw = min 4095 (value : Int) ∧
        (e.curve = none → r'.converted = r'.raw) ∧
        (∀ c, e.curve = some c → ∀ h : c < 8,
          r'.converted = evalPoints (s.chan.curves[c]'h).contents.points r'.raw) ∧
        r'.filtered = filterStep r.freshness r.filtered r'.converted e.shift) ∧
      r'.limitActive = limitHolds e r'.filtered ∧
      (∀ x, e.store = .latest → x = { value := r'.converted, flags := flags, tag := s.link.timeTag : Sample } →
        r'.store = { r.store with place := some x, unreadMark := true }) ∧
      (∀ j : Fin 32, j ≠ i → (s.sample sat ch flags value).chan.run[j] = s.chan.run[j]) ∧
      (s.sample sat ch flags value).chan.active = s.chan.active := by
  obtain ⟨x, v, u, valued, hv, hu, own, stores, -, run, active⟩ := State.sample_read value found sound valid good curves
  intro e r r'
  have stored : r' = { x with store := u.chan.run[i].store } := by
    show (s.sample sat ch flags value).chan.run[i] = _
    rw [run, stores.own, own]
  have tag : v.link.timeTag = s.link.timeTag := by
    rw [hv]
    dsimp only
    split
    · exact LinkUnit.post_timeTag ..
    · rfl
  have latest : e.store = .latest → u.chan.run[i].store =
      { s.chan.run[i].store with place := some { value := x.converted, flags := flags, tag := s.link.timeTag }, unreadMark := true } := by
    intro mode
    obtain ⟨-, -, put, -⟩ := v.storeSample_spec i s.chan.active[i].contents true flags
    rw [hu, put mode rfl, own, tag, ← valued.store]
    exact congrArg ChannelRun.store (upd_same v.chan.run i _)
  have others : ∀ j : Fin 32, j ≠ i → (s.sample sat ch flags value).chan.run[j] = s.chan.run[j] := fun j hj => by
    rw [run, stores.others j hj, hv]
    exact upd_other s.chan.run i j x hj
  rw [stored]
  exact ⟨valued.fresh, valued.misses, valued.flow,
    fun h => ⟨valued.raw h, valued.plain h, valued.curve h, valued.filtered h⟩, valued.limit,
    fun y mode hy => by rw [hy]; exact latest mode, others, active⟩

/-- A damaged curve holds the converted value, and the integrity latch is the only part of the trip unit written (R7, R175). -/
theorem State.sample_damagedCurve {c : Nat} (h : c < 8) (curve : s.chan.active[i].contents.curve = some c)
    (damaged : (s.chan.curves[c]'h).sound = false) (flow : s.chan.active[i].contents.role ≠ .flow) :
    let e := s.chan.active[i].contents
    let r := s.chan.run[i]
    let t := s.sample sat ch flags value
    t.chan.run[i].raw = min 4095 (value : Int) ∧ t.chan.run[i].converted = r.converted ∧
      t.chan.run[i].filtered = filterStep r.freshness r.filtered r.converted e.shift ∧
      (e.role = .general ∨ e.role = .turbidity → t.trip = (s.integrityError .curve (some .active) c).trip) := by
  intro e r t
  have handed := State.sample_valid value found sound valid good
  obtain ⟨b, hb, chan⟩ : ∃ b, b = s.integrityError .curve (some .active) c ∧ b.chan = s.chan :=
    ⟨_, rfl, (s.integrityError_findsError ..).chan⟩
  obtain ⟨y, raw, converted, filtered, taken⟩ : ∃ y : ChannelRun, y.raw = min 4095 (value : Int) ∧
      y.converted = s.chan.run[i].converted ∧
      y.filtered = filterStep s.chan.run[i].freshness s.chan.run[i].filtered s.chan.run[i].converted e.shift ∧
      (s.takeValues i e value).judgeLimit i e = { b with
        chan.run := upd b.chan.run i { y with limitActive := limitHolds e y.filtered }
        link :=
          if limitHolds e y.filtered = true ∧ y.limitActive = false then
            b.link.post (b.notice .channelLimit e.level i.val y.filtered)
          else b.link } := by
    have read : s.takeValues i e value = b.withRun i (fun r =>
        { r with
          raw := clampInt 0 4095 value
          converted := s.chan.run[i].converted
          filtered := filterStep r.freshness r.filtered s.chan.run[i].converted e.shift
          freshness := .fresh
          misses := 0 }) := by
      unfold State.takeValues
      rw [if_neg flow]
      dsimp only
      rw [State.convert_damaged _ h curve damaged, ← hb]
    have before : b.chan.run[i] = s.chan.run[i] := by rw [chan]
    refine ⟨{ s.chan.run[i] with
        raw := clampInt 0 4095 value
        converted := s.chan.run[i].converted
        filtered := filterStep s.chan.run[i].freshness s.chan.run[i].filtered s.chan.run[i].converted e.shift
        freshness := .fresh
        misses := 0 }, clampInt_raw value, rfl, rfl, ?_⟩
    rw [read]
    exact State.judgeLimit_withRun b i e (by rw [before])
  obtain ⟨v, hv⟩ : ∃ v, v = (s.takeValues i e value).judgeLimit i e := ⟨_, rfl⟩
  rw [← hv] at handed
  have own : v.chan.run[i] = { y with limitActive := limitHolds e y.filtered } := by
    rw [hv, taken]
    exact upd_same b.chan.run i _
  have stores := v.storeSample_stores i e true flags
  have values : t.chan.run[i] =
      { y with limitActive := limitHolds e y.filtered, store := (v.storeSample i e true flags).chan.run[i].store } := by
    show (s.sample sat ch flags value).chan.run[i] = _
    rw [handed, (State.handedOff_run e true flags ..).1, stores.own, own]
  have trip : (v.storeSample i e true flags).trip = (s.integrityError .curve (some .active) c).trip := by
    have kept : (v.storeSample i e true flags).trip = v.trip := (congrArg (fun x : State => x.trip) stores.rest :)
    rw [kept, hv, taken, ← hb]
  rw [values]
  refine ⟨raw, converted, filtered, fun role => ?_⟩
  show (s.sample sat ch flags value).trip = _
  obtain ⟨general, -, -, plain, -⟩ := (v.storeSample i e true flags).handOff_cases rfl e.role value r.freshness
  rw [handed]
  rcases role with role | role
  · rw [general role, trip]
  · rw [plain (.inl role)]
    exact (State.updateIf_trip ..).trans trip

/-- A sample of a role without consumers that is not stored: its values and its notice alone (R9). -/
theorem State.sample_unstored (quiet : s.chan.active[i].contents.role = .general ∨ s.chan.active[i].contents.role = .turbidity)
    (mode : s.chan.active[i].contents.store = .none)
    (curves : ∀ c, s.chan.active[i].contents.curve = some c → ∃ h : c < 8, (s.chan.curves[c]'h).sound = true)
    (hold : s.runningIn .hold = false) :
    let e := s.chan.active[i].contents
    let r := s.chan.run[i]
    let t := s.sample sat ch flags value
    limitHolds e t.chan.run[i].filtered = e.cond.holds t.chan.run[i].filtered e.limit ∧
      { t with chan := s.chan, link := s.link } = s ∧
      t.link =
        (if limitHolds e t.chan.run[i].filtered = true ∧ r.limitActive = false then
          s.link.post (s.notice .channelLimit e.level i.val t.chan.run[i].filtered)
        else s.link) := by
  intro e r t
  obtain ⟨handed, holding⟩ := State.sample_handed value found sound valid good curves
  obtain ⟨-, -, -, -, limit, -⟩ := State.sample_values value found sound valid good curves
  have kept : ∀ u : State, u.runningIn .hold = false → u.handOff e.role value r.freshness = u := by
    intro u hu
    obtain ⟨general, -, -, plain, -⟩ := u.handOff_cases hu e.role value r.freshness
    rcases quiet with role | role
    · exact general role
    · exact plain (.inl role)
  have unstored : ∀ v : State, v.storeSample i e true flags = v := fun v => (v.storeSample_spec i e true flags).1 mode
  have compare : ∀ x, limitHolds e x = e.cond.holds x e.limit := fun x => by
    unfold limitHolds
    rw [if_neg]
    rcases quiet with role | role
    · exact fun h => nomatch role.symm.trans h
    · exact fun h => nomatch role.symm.trans h
  have whole : t = _ := handed.trans ((kept _ (holding.trans hold)).trans (unstored _))
  refine ⟨compare _, ?_, ?_⟩
  · rw [whole]
  · rw [← limit]
    exact congrArg State.link whole

end Valid

end Sys2Proof.Machine
end

section
/-! ### Settles O49 (R6 to R18, R20, R21, R168, R175) -/

namespace Sys2Proof.Machine

section Miss

variable {s : State} {sat ch : Nat} {i : Fin 32} (found : s.channelOf sat ch = some i)
include found

/-- The notice of a miss on a role whose consumers are not told, and a damaged entry found by any event (R14, R175). -/
theorem State.miss_quiet :
    let e := s.chan.active[i].contents
    let r := s.chan.run[i]
    let quiet := e.role = .general ∨ e.role = .turbidity ∨ e.role = .flow
    r.freshness ≠ .faulted ∧
      (s.chan.active[i].sound = true → quiet →
        (s.miss sat ch).link =
          (if (r.freshness = .fresh ∨ r.freshness = .noData) ∧ e.staleLimit ≤ min 15 (r.misses + 1) then
            s.link.post (s.notice .channelStale 3 i.val (min 15 (r.misses + 1) : Nat))
          else s.link)) ∧
      (s.chan.active[i].sound = false → ∀ (flags : Byte) (value : Nat),
        s.sample sat ch flags value = s.miss sat ch ∧
        (s.miss sat ch).chan.run = s.chan.run.set i { r with freshness := .faulted } ∧
        (quiet →
          s.miss sat ch =
            { s.integrityError .channel (some .active) i.val with
              chan.run := s.chan.run.set i { r with freshness := .faulted } })) := by
  intro e r quiet
  have untold : quiet → ∀ (x : State) before source value, x.tellLost e.role before source value = x := by
    intro q x before source value
    refine x.tellLost_quiet ?_ before source value
    rcases q with q | q | q
    · exact .inr (.inr (.inr q))
    · exact .inl q
    · exact .inr (.inr (.inl q))
  refine ⟨State.channelOf_notFaulted found, fun sound q => ?_, fun damaged flags value => ⟨?_, ?_, fun q => ?_⟩⟩
  · rw [State.miss_sound found sound]
    by_cases stale : s.turnsStale i
    · rw [State.countMiss_stale stale, untold q]
      exact (if_pos stale).symm
    · rw [State.countMiss_counts stale]
      exact (if_neg stale).symm
  · rw [State.sample_damaged value found damaged, State.miss_damaged found damaged]
  · rw [State.miss_damaged found damaged, State.faultChannel_run]
  · rw [State.miss_damaged found damaged, State.faultChannel_eq, untold q]

/-- What a miss, and a faulty sample like one, leaves in the channels: a part of O49. -/
theorem State.miss_values (sound : s.chan.active[i].sound = true) :
    let r := s.chan.run[i]
    let r' := (s.miss sat ch).chan.run[i]
    r'.misses = min 15 (r.misses + 1) ∧ r'.raw = r.raw ∧ r'.converted = r.converted ∧ r'.filtered = r.filtered ∧
      r'.limitActive = r.limitActive ∧ r'.store = r.store ∧
      r'.freshness =
        (if (r.freshness = .fresh ∨ r.freshness = .noData) ∧ s.chan.active[i].contents.staleLimit ≤ min 15 (r.misses + 1)
          then .stale else r.freshness) ∧
      (∀ j : Fin 32, j ≠ i → (s.miss sat ch).chan.run[j] = s.chan.run[j]) ∧
      (∀ (flags : Byte) (value : Nat), (flags.getLsbD 0 = false ∨ flags.getLsbD 1 = true) →
        ((s.sample sat ch flags value).chan.run[i]).misses = r'.misses ∧
        ((s.sample sat ch flags value).chan.run[i]).freshness = r'.freshness ∧
        ((s.sample sat ch flags value).chan.run[i]).filtered = r.filtered) := by
  intro r r'
  obtain ⟨x, counted⟩ : ∃ x, x = { s.chan.run[i] with
      misses := min 15 (s.chan.run[i].misses + 1)
      freshness := if s.turnsStale i then .stale else s.chan.run[i].freshness } := ⟨_, rfl⟩
  have run := s.countMiss_run i
  rw [← counted] at run
  have own : (s.countMiss i).chan.run[i] = x := by
    rw [run]
    exact upd_same s.chan.run i x
  have faulty : ∀ (flags : Byte) (value : Nat), (flags.getLsbD 0 = false ∨ flags.getLsbD 1 = true) →
      ∃ st, (s.sample sat ch flags value).chan.run[i] = { x with store := st } := fun flags value bad =>
    ⟨_, by rw [State.sample_faulty value found sound bad, ((s.countMiss i).storeSample_stores i _ false flags).own, own]⟩
  have missed : r' = x := by
    show (s.miss sat ch).chan.run[i] = x
    rw [State.miss_sound found sound, own]
  rw [missed]
  have held : x.filtered = r.filtered := by rw [counted]
  refine ⟨?_, ?_, ?_, held, ?_, ?_, ?_, fun j hj => ?_, fun flags value bad => ?_⟩
  · rw [counted]
  · rw [counted]
  · rw [counted]
  · rw [counted]
  · rw [counted]
  · rw [counted]
  · rw [State.miss_sound found sound, run]
    exact upd_other s.chan.run i j x hj
  · obtain ⟨st, stored⟩ := faulty flags value bad
    rw [stored]
    exact ⟨rfl, rfl, held⟩

/-- A miss whole, with the consumers told of the loss: a part of O49. -/
theorem State.miss_whole :
    let e := s.chan.active[i].contents
    let r := s.chan.run[i]
    let misses := min 15 (r.misses + 1)
    let stale := (r.freshness = .fresh ∨ r.freshness = .noData) ∧ e.staleLimit ≤ misses
    (s.chan.active[i].sound = true → ¬stale →
      s.miss sat ch = { s with chan.run := s.chan.run.set i { r with misses := misses } }) ∧
    (s.chan.active[i].sound = true → stale →
      s.miss sat ch =
        State.tellLost
          { s with
            chan.run := s.chan.run.set i { r with misses := misses, freshness := .stale }
            link := s.link.post (s.notice .channelStale 3 i.val (misses : Nat)) }
          e.role r.freshness (some i.val) r.filtered) ∧
    (s.chan.active[i].sound = false →
      s.miss sat ch =
        State.tellLost
          { s.integrityError .channel (some .active) i.val with
            chan.run := s.chan.run.set i { r with freshness := .faulted } }
          e.role r.freshness (some i.val) r.filtered) :=
  ⟨fun sound fresh => (State.miss_sound found sound).trans (State.countMiss_counts fresh),
    fun sound stale => (State.miss_sound found sound).trans (State.countMiss_stale stale),
    fun damaged => (State.miss_damaged found damaged).trans (s.faultChannel_eq i)⟩

end Miss

/-- The consumers told of a switch, from its own role alone (R17). -/
theorem State.tellLost_switch (s : State) {r : Role} (h : r = .leak ∨ r = .saltLow ∨ r = .detLow ∨ r = .rinseLow)
    (before : Freshness) (source : Option Nat) (value : Int) : s.tellLost r before source value = s.tellSwitch r := by
  rcases h with rfl | rfl | rfl | rfl
  · rfl
  · rfl
  · rfl
  · rfl

/-- Settles O49, by the state that a valid sample leaves before its hand-off (`sample_handed`, `sample_values`), the cases of
the hand-off by role, the stores (`storeSample_spec`), and the miss as a count, a loss or a finding (`miss_whole`). -/
theorem samplesAndMisses : Obligations.SamplesAndMisses := by
  refine ⟨fun s sat ch flags value i found sound valid good => ⟨fun c h curve damaged flow => ?_, fun quiet mode curves hold => ?_⟩,
    fun s sat ch i found => State.miss_quiet found, fun s sat ch none => State.channelOf_none none,
    fun s sat ch flags value i found sound valid good curves => State.sample_values value found sound valid good curves,
    fun s sat ch i found sound => State.miss_values found sound,
    State.storeSample_spec,
    fun s sat ch flags value i found sound valid good curves => ?_,
    State.flowHand_eq,
    fun s => ⟨fun r i => s.asserted_bound, fun r => s.asserted_unbound, rfl, rfl, rfl, rfl⟩,
    fun e => limitHolds_eq,
    fun s sat ch i found => State.miss_whole found,
    fun s before source value => ?_⟩
  · exact State.sample_damagedCurve value found sound valid good h curve damaged flow
  · exact State.sample_unstored value found sound valid good quiet mode curves hold
  · obtain ⟨handed, hold⟩ := State.sample_handed value found sound valid good curves
    intro e r t r' v u updated
    have cases := State.handOff_cases u hold e.role value r.freshness
    rw [← handed] at cases
    exact cases
  · obtain ⟨temp, level⟩ := s.tellLost_cases before source value
    exact ⟨s.noGrant_iff, temp, level, fun r h => s.tellLost_switch h before source value,
      fun r h => s.tellLost_quiet h before source value⟩

end Sys2Proof.Machine
end

section
/-! ### The evaluations and the misses read nothing of the bus

`rebus` puts another bus into a state. No operation of the channel unit's misses or of the end of an event reads the bus
or writes it, so each of them commutes with `rebus`. -/

namespace Sys2Proof.Machine

/-- The state with another bus. -/
def State.rebus (s : State) (b : BusUnit) : State := { s with bus := b }

/-- A state beside the same with another bus. -/
def State.twin (b : BusUnit) (s t : State) : Prop := t = s.rebus b

theorem State.twin.refl (b : BusUnit) (s : State) : State.twin b s (s.rebus b) := rfl

/-- An operation that commutes with another bus keeps twins beside each other. -/
theorem State.twin.map (f : State → State) {b : BusUnit} (hf : ∀ s, f (s.rebus b) = (f s).rebus b) {s t : State}
    (h : State.twin b s t) : State.twin b (f s) (f t) := by
  obtain rfl := h
  exact hf s

theorem State.twin.ite {p : Prop} [Decidable p] {b : BusUnit} {x y s t : State} (hx : State.twin b s x) (hy : State.twin b t y) :
    State.twin b (if p then s else t) (if p then x else y) := by
  split
  · exact hx
  · exact hy

theorem State.twin.foldl {α : Type} {f g : State → α → State} {b : BusUnit}
    (h : ∀ s t x, State.twin b s t → State.twin b (f s x) (g t x)) (l : List α) {s t : State} (ht : State.twin b s t) :
    State.twin b (l.foldl f s) (l.foldl g t) := by
  induction l generalizing s t with
  | nil => exact ht
  | cons x l ih => exact ih (h s t x ht)

section Reads

variable (s : State) (b : BusUnit)

@[simp] theorem State.rebus_units :
    (s.rebus b).chan = s.chan ∧ (s.rebus b).eng = s.eng ∧ (s.rebus b).soft = s.soft ∧ (s.rebus b).dosing = s.dosing ∧
      (s.rebus b).door = s.door ∧ (s.rebus b).arb = s.arb ∧ (s.rebus b).trip = s.trip ∧ (s.rebus b).link = s.link ∧
      (s.rebus b).draws = s.draws := ⟨rfl, rfl, rfl, rfl, rfl, rfl, rfl, rfl, rfl⟩

@[simp] theorem State.rebus_profiles :
    (s.rebus b).machine = s.machine ∧ (s.rebus b).softener = s.softener ∧
      (∀ r, (s.rebus b).dosingProfile r = s.dosingProfile r) ∧ (∀ p, (s.rebus b).faulted p = s.faulted p) ∧
      (∀ p, (s.rebus b).profileSound p = s.profileSound p) := ⟨rfl, rfl, fun _ => rfl, fun _ => rfl, fun _ => rfl⟩

@[simp] theorem State.rebus_channels :
    (∀ n c, (s.rebus b).channelOf n c = s.channelOf n c) ∧ (∀ r, (s.rebus b).bound r = s.bound r) ∧
      (∀ r, (s.rebus b).roleFreshness r = s.roleFreshness r) ∧ (∀ r, (s.rebus b).asserted r = s.asserted r) ∧
      (∀ r, (s.rebus b).roleSource r = s.roleSource r) ∧ (∀ r, (s.rebus b).heldValue r = s.heldValue r) ∧
      (∀ r f, (s.rebus b).lossJudged r f = s.lossJudged r f) :=
  ⟨fun _ _ => rfl, fun _ => rfl, fun _ => rfl, fun _ => rfl, fun _ => rfl, fun _ => rfl, fun _ _ => rfl⟩

@[simp] theorem State.rebus_loads :
    (∀ l, (s.rebus b).load l = s.load l) ∧ (∀ l, (s.rebus b).loadEntry l = s.loadEntry l) ∧
      (∀ l, (s.rebus b).requested l = s.requested l) ∧ (∀ l, (s.rebus b).granted l = s.granted l) ∧
      (∀ l, (s.rebus b).isGranted l = s.isGranted l) ∧ (∀ l, (s.rebus b).available l = s.available l) ∧
      (∀ l, (s.rebus b).interlock l = s.interlock l) ∧ (∀ l, (s.rebus b).candidate l = s.candidate l) ∧
      (∀ l, (s.rebus b).causeOf l = s.causeOf l) ∧ (s.rebus b).noGrant = s.noGrant ∧ (s.rebus b).room = s.room ∧
      (s.rebus b).totalWatts = s.totalWatts :=
  ⟨fun _ => rfl, fun _ => rfl, fun _ => rfl, fun _ => rfl, fun _ => rfl, fun _ => rfl, fun _ => rfl, fun _ => rfl, fun _ => rfl,
    rfl, rfl, rfl⟩

theorem State.rebus_insertByPriority (l : LoadId) (ls : List LoadId) :
    (s.rebus b).insertByPriority l ls = s.insertByPriority l ls := by
  induction ls with
  | nil => rfl
  | cons x ls ih =>
    unfold State.insertByPriority
    rw [ih]
    rfl

@[simp] theorem State.rebus_places : (s.rebus b).places = s.places := by
  unfold State.places
  simp only [State.rebus_insertByPriority]

@[simp] theorem State.rebus_victims :
    (∀ l, (s.rebus b).victims l = s.victims l) ∧ (∀ ls, (s.rebus b).worst ls = s.worst ls) ∧
      (∀ l n, (s.rebus b).canShed l n = s.canShed l n) :=
  ⟨fun _ => rfl, fun _ => rfl, fun _ _ => rfl⟩

@[simp] theorem State.rebus_changedSince (before : State) : (s.rebus b).changedSince (before.rebus b) = s.changedSince before := rfl

@[simp] theorem State.rebus_engine :
    (s.rebus b).underWay = s.underWay ∧ (∀ st, (s.rebus b).runningIn st = s.runningIn st) ∧
      (s.rebus b).attemptState = s.attemptState ∧ (s.rebus b).lossCounts = s.lossCounts := ⟨rfl, fun _ => rfl, rfl, rfl⟩

@[simp] theorem State.rebus_softenerUnit :
    (∀ c, (s.rebus b).column c = s.column c) ∧ (s.rebus b).flipTarget = s.flipTarget ∧
      (s.rebus b).exhaustedColumn = s.exhaustedColumn ∧ (∀ p c, (s.rebus b).newMove p c = s.newMove p c) ∧
      (∀ h, (s.rebus b).inletTo h = s.inletTo h) ∧ (∀ r, (s.rebus b).reservoir r = s.reservoir r) ∧
      (∀ r, (s.rebus b).reservoirEmpty r = s.reservoirEmpty r) :=
  ⟨fun c => by cases c <;> rfl, rfl, rfl, fun _ _ => rfl, fun _ => rfl, fun r => by cases r <;> rfl, fun r => by cases r <;> rfl⟩

@[simp] theorem State.rebus_tripUnit :
    (∀ c, (s.rebus b).fillsSecondary c = s.fillsSecondary c) ∧ (∀ c, (s.rebus b).tripNotices c = s.tripNotices c) ∧
      (∀ c, (s.rebus b).recordOf c = s.recordOf c) ∧ (s.rebus b).tripOrderOpen = s.tripOrderOpen ∧
      (s.rebus b).leakCause = s.leakCause ∧ (∀ k l n v, (s.rebus b).notice k l n v = s.notice k l n v) :=
  ⟨fun _ => rfl, fun _ => rfl, fun _ => rfl, rfl, rfl, fun _ _ _ _ => rfl⟩

end Reads

end Sys2Proof.Machine
end

section
/-! ### The operations of the trip causes beside another bus -/

namespace Sys2Proof.Machine

namespace State.twin

variable {s t : State} {b : BusUnit} (h : State.twin b s t)
include h

/-! #### Requests, notices and profiles -/

theorem markEval : twin b s.markEval t.markEval := by
  obtain rfl := h
  rfl

theorem draw : twin b s.draw t.draw := by
  obtain rfl := h
  rfl

theorem withRun (i : Fin 32) (f : ChannelRun → ChannelRun) : twin b (s.withRun i f) (t.withRun i f) := by
  obtain rfl := h
  rfl

theorem withHead (f : StageRecord → StageRecord) : twin b (s.withHead f) (t.withHead f) := by
  obtain rfl := h
  rfl

theorem withDry (f : DryRecord → DryRecord) : twin b (s.withDry f) (t.withDry f) := by
  obtain rfl := h
  rfl

theorem post (k : NoticeKind) (l n : Nat) (v : Int) : twin b (s.post k l n v) (t.post k l n v) := by
  obtain rfl := h
  rfl

theorem postAll (ns : List Notice) : twin b (s.postAll ns) (t.postAll ns) := by
  obtain rfl := h
  rfl

theorem setGrant (l : LoadId) (g : Option Step) : twin b (s.setGrant l g) (t.setGrant l g) := by
  obtain rfl := h
  rfl

theorem request (l : LoadId) (n : Nat) : twin b (s.request l n) (t.request l n) := by
  obtain rfl := h
  rfl

theorem release (l : LoadId) : twin b (s.release l) (t.release l) := by
  obtain rfl := h
  exact .ite rfl rfl

theorem setThermostat (on : Bool) : twin b (s.setThermostat on) (t.setThermostat on) := by
  obtain rfl := h
  exact .ite (.ite rfl rfl) (.release rfl _)

theorem engineTempLost : twin b s.engineTempLost t.engineTempLost := by
  obtain rfl := h
  exact .ite (.setThermostat rfl _) rfl

theorem setReservoir (r : Reservoir) (x : ReservoirState) : twin b (s.setReservoir r x) (t.setReservoir r x) := by
  obtain rfl := h
  cases r with
  | det => rfl
  | rinse => rfl

theorem setColumn (c : Side) (x : Column) : twin b (s.setColumn c x) (t.setColumn c x) := by
  obtain rfl := h
  cases c with
  | a => rfl
  | b => rfl

theorem setFaulted (p : ProfileId) (f : Bool) : twin b (s.setFaulted p f) (t.setFaulted p f) := by
  obtain rfl := h
  cases p with
  | machine => rfl
  | softener => rfl
  | det => rfl
  | rinse => rfl

theorem profileChanged (p : ProfileId) : twin b (s.profileChanged p) (t.profileChanged p) := by
  obtain rfl := h
  cases p with
  | machine => rfl
  | softener => rfl
  | det => rfl
  | rinse => rfl

theorem integrityError (k : TableId) (n : Option Bank) (i : Nat) : twin b (s.integrityError k n i) (t.integrityError k n i) := by
  obtain rfl := h
  simp only [State.integrityError, State.rebus_units]
  cases s.trip.integrity with
  | none => rfl
  | some e => exact .ite rfl rfl

theorem useProfile (p : ProfileId) : twin b (s.useProfile p) (t.useProfile p) := by
  obtain rfl := h
  exact .ite rfl ((((refl b s).integrityError ..).setFaulted ..).post ..|>.profileChanged p)

/-! #### The water path, the columns and the regeneration -/

theorem becomeSet : twin b s.becomeSet t.becomeSet := by
  obtain rfl := h
  simp only [State.becomeSet, State.markEval, State.rebus_units]
  cases s.soft.holder with
  | none => rfl
  | fill => rfl
  | regen =>
    cases s.soft.regen with
    | none => rfl
    | some r =>
      dsimp only
      cases r.stage with
      | brine => exact .ite rfl rfl
      | rinse => rfl
      | soak => rfl

theorem routeHolder : twin b s.routeHolder t.routeHolder := by
  obtain rfl := h
  exact .ite (.becomeSet rfl) rfl

theorem serveRegen : twin b s.serveRegen t.serveRegen := by
  obtain rfl := h
  exact .ite rfl (.routeHolder rfl)

theorem regenRequestPath : twin b s.regenRequestPath t.regenRequestPath := by
  obtain rfl := h
  simp only [State.regenRequestPath, State.rebus_units]
  cases s.soft.holder with
  | none => exact .serveRegen rfl
  | fill => rfl
  | regen => rfl

theorem startRegen (c : Side) : twin b (s.startRegen c) (t.startRegen c) := by
  have salted : ∀ {x y : State}, twin b x y → twin b
      (if x.soft.saltLow then (x.useProfile .softener).post .regenSaltLow 3 (sideCode c)
        (restoredCapacity (x.useProfile .softener).softener true) else x)
      (if y.soft.saltLow then (y.useProfile .softener).post .regenSaltLow 3 (sideCode c)
        (restoredCapacity (y.useProfile .softener).softener true) else y) := by
    intro x y hx
    have used := hx.useProfile .softener
    generalize x.useProfile .softener = u, y.useProfile .softener = v at used
    obtain rfl := used
    obtain rfl := hx
    exact .ite rfl rfl
  obtain rfl := h
  cases c with
  | a => exact .regenRequestPath (salted rfl)
  | b => exact .regenRequestPath (salted rfl)

theorem autoCheck : twin b s.autoCheck t.autoCheck := by
  obtain rfl := h
  simp only [State.autoCheck, State.rebus_softenerUnit]
  cases s.exhaustedColumn with
  | none => rfl
  | some c =>
    have used := (refl b s).useProfile .softener
    dsimp only
    generalize s.useProfile .softener = u, (s.rebus b).useProfile .softener = v at used
    obtain rfl := used
    exact .ite (.ite (.startRegen rfl c) rfl) rfl

theorem confirmFlip (c : Side) : twin b (s.confirmFlip c) (t.confirmFlip c) := by
  obtain rfl := h
  have taken : ∀ {x y : State}, twin b x y → twin b
      ((((x.setColumn c { x.column c with state := .service }).post .columnSwitched 5 (sideCode c)
        ((x.setColumn c { x.column c with state := .service }).column c).cap)).autoCheck)
      ((((y.setColumn c { y.column c with state := .service }).post .columnSwitched 5 (sideCode c)
        ((y.setColumn c { y.column c with state := .service }).column c).cap)).autoCheck) := by
    intro x y hx
    obtain rfl := hx
    cases c with
    | a => exact .autoCheck rfl
    | b => exact .autoCheck rfl
  refine .ite (taken (.ite ?_ rfl)) rfl
  exact .setColumn rfl _ _

theorem moveArrived (m : SelectorMove) : twin b (s.moveArrived m) (t.moveArrived m) := by
  unfold State.moveArrived
  cases m.purpose with
  | flip => exact h.confirmFlip _
  | set => exact h
  | back => exact h

theorem createMove (p : MovePurpose) (c : Side) : twin b (s.createMove p c) (t.createMove p c) := by
  have used := h.useProfile .softener
  unfold State.createMove
  dsimp only
  generalize s.useProfile .softener = u, t.useProfile .softener = v at used
  obtain rfl := used
  exact .ite (.ite (.moveArrived rfl _) rfl) rfl

theorem judgeFlip : twin b s.judgeFlip t.judgeFlip := by
  obtain rfl := h
  simp only [State.judgeFlip, State.rebus_softenerUnit]
  cases s.flipTarget with
  | none => rfl
  | some c => exact .createMove rfl _ _

theorem servePath : twin b s.servePath t.servePath := by
  have flip := h.judgeFlip
  obtain rfl := h
  simp only [State.servePath, State.rebus_units]
  refine .ite rfl ?_
  generalize s.judgeFlip = x at flip
  cases s.soft.holder with
  | none => rfl
  | fill =>
    cases s.soft.progress with
    | selecting =>
      rw [flip]
      exact .ite rfl (.routeHolder rfl)
    | routing => exact .routeHolder rfl
    | set => rfl
  | regen =>
    cases s.soft.progress with
    | selecting => exact .routeHolder rfl
    | routing => exact .routeHolder rfl
    | set => rfl

theorem fillGiveBack : twin b s.fillGiveBack t.fillGiveBack := by
  have released := h.release .inletValve
  obtain rfl := h
  unfold State.fillGiveBack
  dsimp only
  generalize s.release .inletValve = x at released
  rw [released]
  exact .ite (.ite (.servePath rfl) rfl) rfl

end State.twin

end Sys2Proof.Machine
end

section
/-! ### A miss beside another bus -/

namespace Sys2Proof.Machine

namespace State.twin

variable {s t : State} {b : BusUnit} (h : State.twin b s t)
include h

/-! #### The trip latch -/

theorem dropDry : twin b s.dropDry t.dropDry :=
  ((h.release .fan).release .doorActuator).map (fun x => { x with door.dry := none }) (fun _ => rfl)

theorem releaseEngine : twin b s.releaseEngine t.releaseEngine :=
  ((h.release .heater).release .circPump).release .drainPump

theorem endCycle : twin b s.endCycle t.endCycle := h.map State.endCycle (fun _ => rfl)

theorem engineTrip : twin b s.engineTrip t.engineTrip := by
  have dropped := h.fillGiveBack.releaseEngine.dropDry
  obtain rfl := h
  exact (endCycle (.ite dropped rfl)).map
    (fun x => { x with eng.queue := [], eng.state := if x.link.mode = .run then .tripped else .idle }) (fun _ => rfl)

theorem countDose : twin b s.countDose t.countDose := h.map State.countDose (fun _ => rfl)

theorem dropDose : twin b s.dropDose t.dropDose := by
  obtain rfl := h
  simp only [State.dropDose, State.rebus_units]
  cases s.dosing.dose with
  | none => rfl
  | some d => exact .countDose (.release rfl _)

theorem regenGiveBack : twin b s.regenGiveBack t.regenGiveBack := by
  obtain rfl := h
  refine .ite (.markEval (.map (fun x => { x with soft.holder := .none, soft.progress := .selecting }) (fun _ => rfl)
    (.release (.release rfl _) _))) rfl

theorem abortRegen : twin b s.abortRegen t.abortRegen := by
  have given := h.regenGiveBack.map (fun x => { x with soft.regen := none }) (fun _ => rfl)
  obtain rfl := h
  simp only [State.abortRegen, State.rebus_units]
  dsimp only at given
  cases s.soft.regen with
  | none => rfl
  | some r =>
    dsimp only
    generalize s.regenGiveBack = u, (s.rebus b).regenGiveBack = v at given
    cases r.column with
    | a => exact given.map (fun x => x.setColumn .a { x.column .a with state := .exhausted }) (fun _ => rfl)
    | b => exact given.map (fun x => x.setColumn .b { x.column .b with state := .exhausted }) (fun _ => rfl)

theorem tripBlocks : twin b s.tripBlocks t.tripBlocks := by
  obtain rfl := h
  refine .ite (.ite ?_ ?_) ?_
  · exact .engineTrip (.dropDose (.abortRegen (.draw rfl)))
  · exact .abortRegen (.engineTrip (.dropDose (.draw rfl)))
  · exact .abortRegen (.engineTrip (.dropDose rfl))

theorem postTripNotices (ns : List Notice) : twin b (s.postTripNotices ns) (t.postTripNotices ns) := by
  obtain rfl := h
  exact .ite rfl rfl

theorem setLatch (c : Cause) : twin b (s.setLatch c) (t.setLatch c) := by
  obtain rfl := h
  refine .markEval (.postTripNotices ?_ _)
  exact .ite (.map (fun x => { x with arb.flood := true }) (fun _ => rfl) (.tripBlocks rfl)) (.tripBlocks rfl)

theorem restartQuiet (c : Cause) : twin b (s.restartQuiet c) (t.restartQuiet c) := by
  obtain rfl := h
  exact .ite rfl rfl

theorem tripCause (c : Cause) : twin b (s.tripCause c) (t.tripCause c) := by
  have quiet := h.restartQuiet c
  unfold State.tripCause
  dsimp only
  generalize s.restartQuiet c = u, t.restartQuiet c = v at quiet
  obtain rfl := quiet
  exact .ite rfl (.ite (.ite rfl rfl) (.setLatch rfl c))

/-! #### The consumers told of a loss -/

theorem judgeLoss (r : Role) (source : Option Nat) (value : Int) :
    twin b (s.judgeLoss r source value) (t.judgeLoss r source value) := by
  obtain rfl := h
  exact .ite (.tripCause rfl _) rfl

theorem leakChange (asserted : Bool) : twin b (s.leakChange asserted) (t.leakChange asserted) := by
  obtain rfl := h
  exact .ite (.tripCause rfl _) rfl

theorem lowCorrection (r : Reservoir) : twin b (s.lowCorrection r) (t.lowCorrection r) := by
  have used := h.useProfile (dosingProfileId r)
  unfold State.lowCorrection
  dsimp only
  generalize s.useProfile (dosingProfileId r) = u, t.useProfile (dosingProfileId r) = v at used
  obtain rfl := used
  cases r with
  | det => exact .ite rfl rfl
  | rinse => exact .ite rfl rfl

theorem lowTold (r : Reservoir) (asserted : Bool) : twin b (s.lowTold r asserted) (t.lowTold r asserted) := by
  obtain rfl := h
  cases r with
  | det => exact .ite (.lowCorrection rfl _) rfl
  | rinse => exact .ite (.lowCorrection rfl _) rfl

theorem tellSwitch (r : Role) : twin b (s.tellSwitch r) (t.tellSwitch r) := by
  obtain rfl := h
  cases r with
  | leak => exact .ite rfl (.leakChange rfl _)
  | saltLow => rfl
  | detLow => exact .ite rfl (.lowTold rfl _ _)
  | rinseLow => exact .ite rfl (.lowTold rfl _ _)
  | tubTemp => rfl
  | tubLevel => rfl
  | turbidity => rfl
  | conductivity => rfl
  | flow => rfl
  | general => rfl

theorem judgedLoss (r : Role) (before : Freshness) (source : Option Nat) (value : Int) :
    twin b (if s.lossJudged r before then s.judgeLoss r source value else s)
      (if t.lossJudged r before then t.judgeLoss r source value else t) := by
  obtain rfl := h
  exact .ite (.judgeLoss rfl ..) rfl

theorem tellLost (r : Role) (before : Freshness) (source : Option Nat) (value : Int) :
    twin b (s.tellLost r before source value) (t.tellLost r before source value) := by
  cases r with
  | tubTemp => exact .judgedLoss (.ite h.engineTempLost h) ..
  | tubLevel => exact .judgedLoss h.markEval ..
  | leak => exact h.tellSwitch .leak
  | saltLow => exact h.tellSwitch .saltLow
  | detLow => exact h.tellSwitch .detLow
  | rinseLow => exact h.tellSwitch .rinseLow
  | turbidity => exact h.tellSwitch .turbidity
  | conductivity => exact h.tellSwitch .conductivity
  | flow => exact h.tellSwitch .flow
  | general => exact h.tellSwitch .general

/-! #### A miss -/

theorem countMiss (i : Fin 32) : twin b (s.countMiss i) (t.countMiss i) := by
  obtain rfl := h
  exact .ite (.tellLost rfl ..) rfl

theorem faultChannel (i : Fin 32) : twin b (s.faultChannel i) (t.faultChannel i) := by
  have found := h.integrityError .channel (some .active) i.val
  obtain rfl := h
  unfold State.faultChannel
  dsimp only
  generalize s.integrityError .channel (some .active) i.val = u, (s.rebus b).integrityError .channel (some .active) i.val = v at found
  obtain rfl := found
  exact .tellLost rfl ..

theorem miss (n c : Nat) : twin b (s.miss n c) (t.miss n c) := by
  obtain rfl := h
  simp only [State.miss, State.rebus_channels]
  cases s.channelOf n c with
  | none => rfl
  | some i => exact .ite (.countMiss rfl i) (.faultChannel rfl i)

end State.twin

end Sys2Proof.Machine
end

section
/-! ### The end of an event beside another bus -/

namespace Sys2Proof.Machine

namespace State.twin

/-! #### The passes of an evaluation -/

section Passes

variable {s t : State} {b : BusUnit} (h : State.twin b s t)
include h

theorem dropReleased : twin b s.dropReleased t.dropReleased := by
  obtain rfl := h
  refine .foldl (fun x y l hxy => ?_) allLoads rfl
  exact .ite hxy (hxy.setGrant l none)

theorem checkEntries : twin b s.checkEntries t.checkEntries := by
  refine .foldl (fun x y l hxy => ?_) allLoads h
  have found := hxy.integrityError .load (some .active) (loadIndex l).val
  obtain rfl := hxy
  exact .ite found rfl

theorem checkHeater : twin b s.checkHeater t.checkHeater := by
  obtain rfl := h
  exact .ite (.useProfile rfl _) rfl

theorem setCauses : twin b s.setCauses t.setCauses := by
  obtain rfl := h
  refine .foldl (fun x y l hxy => ?_) allLoads rfl
  obtain rfl := hxy
  rfl

theorem withdraw (l : LoadId) : twin b (s.withdraw l) (t.withdraw l) := by
  obtain rfl := h
  exact .ite rfl rfl

theorem give (l : LoadId) (p : Step) : twin b (s.give l p) (t.give l p) := h.setGrant l (some p)

theorem upgrade : twin b s.upgrade t.upgrade := by
  obtain rfl := h
  exact .ite rfl rfl

theorem shed (cand : LoadId) (need n : Nat) : twin b (State.shed cand need n s) (State.shed cand need n t) := by
  induction n generalizing s t with
  | zero => exact h
  | succ n ih =>
    obtain rfl := h
    simp only [State.shed, State.rebus_victims]
    refine .ite rfl ?_
    cases s.worst (s.victims cand) with
    | none => rfl
    | some l => exact ih (.post (.withdraw rfl l) ..)

/-- Preemption beside another bus: it succeeds beside both, and leaves twins (R158). -/
theorem preempt (l : LoadId) (n : Nat) : t.preempt l n = (s.preempt l n).map (State.rebus · b) := by
  have shed := h.shed l n 11
  obtain rfl := h
  simp only [State.preempt, State.rebus_victims]
  generalize State.shed l n 11 s = u, State.shed l n 11 (s.rebus b) = v at shed
  obtain rfl := shed
  simp only [State.rebus_loads]
  split
  · split
    · rfl
    · rfl
  · rfl

theorem place (l : LoadId) : twin b (s.place l) (t.place l) := by
  have preempts := h.preempt l
  obtain rfl := h
  simp only [State.place, State.rebus_loads, preempts]
  refine .ite rfl (.ite rfl ?_)
  cases s.preempt l (s.loadEntry l).contents.rated with
  | some x => exact .give rfl _ _
  | none =>
    by_cases heater : l = .heater
    · rw [if_pos heater, if_pos heater]
      cases s.preempt l (s.loadEntry l).contents.half with
      | some x => exact .give rfl _ _
      | none => rfl
    · rw [if_neg heater, if_neg heater]
      rfl

theorem turn (l : LoadId) : twin b (s.turn l) (t.turn l) := by
  obtain rfl := h
  exact .ite (.place rfl l) rfl

theorem walk (deferred : Bool) (ls : List LoadId) : twin b (State.walk deferred ls s) (State.walk deferred ls t) := by
  induction ls generalizing deferred s t with
  | nil => exact h
  | cons l ls ih =>
    have turned := h.turn l
    by_cases heater : l = .heater
    · subst heater
      obtain rfl := h
      exact .ite (ih rfl true) (ih turned deferred)
    · by_cases circ : l = .circPump
      · subst circ
        refine ih ?_ false
        cases deferred with
        | true => exact turned.turn .heater
        | false => exact turned
      · rw [State.walk.eq_4, State.walk.eq_4]
        · exact ih turned deferred
        all_goals assumption

theorem grantPass : twin b s.grantPass t.grantPass := by
  have turned : twin b (if s.arb.flood then s.turn .drainPump else s) (if t.arb.flood then t.turn .drainPump else t) := by
    obtain rfl := h
    exact .ite (.turn rfl _) rfl
  unfold State.grantPass
  dsimp only
  have places : ∀ {x y : State}, twin b x y → twin b (State.walk false x.places x) (State.walk false y.places y) := by
    intro x y hxy
    obtain rfl := hxy
    rw [State.rebus_places]
    exact .walk rfl _ _
  exact places turned

theorem budgetCut (n : Nat) : twin b (State.budgetCut n s) (State.budgetCut n t) := by
  induction n generalizing s t with
  | zero => exact h
  | succ n ih =>
    obtain rfl := h
    refine .ite ?_ rfl
    show twin b (match s.worst (allLoads.filter s.isGranted) with
      | none => s
      | some l => State.budgetCut n (s.withdraw l)) (match s.worst (allLoads.filter s.isGranted) with
      | none => s.rebus b
      | some l => State.budgetCut n ((s.rebus b).withdraw l))
    cases s.worst (allLoads.filter s.isGranted) with
    | none => rfl
    | some l => exact ih (.withdraw rfl l)

theorem recheck (l : LoadId) : twin b (s.recheck l) (t.recheck l) := by
  obtain rfl := h
  exact .ite (.withdraw rfl l) rfl

theorem passOne : twin b s.passOne t.passOne :=
  recheck (.foldl (fun _ _ l hxy => hxy.recheck l) _ h) .heater

theorem passes : twin b s.passes t.passes :=
  (h.checkHeater.checkEntries.passOne.budgetCut 11).grantPass.upgrade.setCauses.map
    (fun x => { x with arb.evalDue := false }) (fun _ => rfl)

end Passes

/-! #### The reports, and the rounds of an event -/

section Rounds

variable {s t : State} {b : BusUnit} (h : State.twin b s t)
include h

theorem lastRound : twin b s.lastRound t.lastRound := by
  have dropped := h.dropReleased
  have passed := dropped.passes
  unfold State.lastRound
  dsimp only
  generalize s.dropReleased = u, t.dropReleased = v at dropped passed
  generalize u.passes = x, v.passes = y at passed
  obtain rfl := dropped
  obtain rfl := passed
  rfl

theorem judgeRoleNow (r : Role) : twin b (s.judgeRoleNow r) (t.judgeRoleNow r) := by
  obtain rfl := h
  exact .ite (.tripCause rfl _) rfl

theorem judgeSensorsNow : twin b s.judgeSensorsNow t.judgeSensorsNow := (h.judgeRoleNow .tubTemp).judgeRoleNow .tubLevel

theorem firstGrant {x y : State} (before : twin b x y) : twin b (s.firstGrant x) (t.firstGrant y) := by
  obtain rfl := h
  obtain rfl := before
  exact .ite (.judgeSensorsNow rfl) rfl

theorem tableTrip (l : LoadId) : twin b (s.tableTrip l) (t.tableTrip l) := by
  obtain rfl := h
  exact .ite (.tripCause rfl _) rfl

theorem engineInlet : twin b s.engineInlet t.engineInlet := by
  obtain rfl := h
  exact .ite rfl rfl

theorem softenerReport (l : LoadId) : twin b (s.softenerReport l) (t.softenerReport l) := by
  obtain rfl := h
  cases l with
  | inletValve => exact .ite rfl rfl
  | brineValve =>
    simp only [State.softenerReport, State.rebus_units]
    cases s.soft.regen with
    | none => rfl
    | some r => exact .ite (.ite (.request rfl _ _) (.release rfl _)) rfl
  | routeValve =>
    refine .ite rfl ?_
    simp only [State.rebus_units]
    cases s.soft.pulse with
    | none => rfl
    | some p => exact .ite rfl rfl
  | heater => rfl
  | circPump => rfl
  | drainPump => rfl
  | selectorValve => rfl
  | doseDet => rfl
  | doseRinse => rfl
  | doorActuator => rfl
  | fan => rfl

theorem doseEmpty (r : Reservoir) (n : Nat) : twin b (s.doseEmpty r n) (t.doseEmpty r n) :=
  ((h.release (pumpOf r)).post .doseEmpty 2 n (reservoirCode r)).map (fun x => { x with dosing.dose := none }) (fun _ => rfl)

theorem startStroke (d : Dose) : twin b (s.startStroke d) (t.startStroke d) := by
  have empty := h.doseEmpty d.reservoir d.tag
  obtain rfl := h
  have reservoir : (s.rebus b).reservoirEmpty d.reservoir = s.reservoirEmpty d.reservoir := by simp
  unfold State.startStroke
  rw [reservoir]
  exact .ite empty rfl

theorem dosingReport (r : Reservoir) : twin b (s.dosingReport r) (t.dosingReport r) := by
  obtain rfl := h
  simp only [State.dosingReport, State.rebus_units]
  cases s.dosing.dose with
  | none => rfl
  | some d => exact .ite (.ite (.startStroke rfl d) rfl) rfl

theorem actuatorReport : twin b s.actuatorReport t.actuatorReport := by
  obtain rfl := h
  exact .ite (.ite (.ite rfl rfl) (.ite rfl rfl)) rfl

theorem ownerReport (l : LoadId) : twin b (s.ownerReport l) (t.ownerReport l) := by
  cases l with
  | inletValve => exact (h.softenerReport .inletValve).engineInlet
  | routeValve => exact h.softenerReport .routeValve
  | selectorValve => exact h.softenerReport .selectorValve
  | brineValve => exact h.softenerReport .brineValve
  | doseDet => exact h.dosingReport .det
  | doseRinse => exact h.dosingReport .rinse
  | doorActuator => exact h.actuatorReport
  | heater => exact h
  | circPump => exact h
  | drainPump => exact h
  | fan => exact h

theorem round : twin b s.round t.round := by
  have dropped := h.dropReleased
  have passed := dropped.passes
  have judged := ((passed.tableTrip .drainPump).tableTrip .inletValve).firstGrant dropped
  have changed : t.dropReleased.passes.changedSince t.dropReleased = s.dropReleased.passes.changedSince s.dropReleased := by
    generalize s.dropReleased.passes = u, t.dropReleased.passes = v at passed
    generalize s.dropReleased = x, t.dropReleased = y at dropped
    obtain rfl := dropped
    obtain rfl := passed
    rfl
  unfold State.round
  dsimp only
  rw [changed]
  exact .foldl (fun _ _ l hxy => hxy.ownerReport l) _ judged

theorem settleFor (n : Nat) : twin b (State.settleFor n s) (State.settleFor n t) := by
  induction n generalizing s t with
  | zero =>
    have last := h.lastRound
    obtain rfl := h
    exact .ite last rfl
  | succ n ih =>
    have next := ih h.round
    obtain rfl := h
    exact .ite next rfl

theorem settle : twin b s.settle t.settle := h.settleFor 8

/-- Misses beside another bus (R33, R35). -/
theorem misses (n : Nat) (cs : List Nat) : twin b (s.misses n cs) (t.misses n cs) :=
  .foldl (fun _ _ c hxy => (hxy.miss n c).settle) cs h

end Rounds

end State.twin

end Sys2Proof.Machine
end

section
/-! ### O48: what the samples and misses of an attempt leave to its end (R6, R33, R35) -/

namespace Sys2Proof.Machine

/-! #### The mode and the clock -/

theorem State.integrityError_mode (s : State) (t : TableId) (k : Option Bank) (i : Nat) :
    (s.integrityError t k i).link.mode = s.link.mode := by
  obtain ⟨ns, posts⟩ := (s.integrityError_findsError t k i).posts
  rw [posts]
  exact s.postAll_mode ns

theorem State.countMiss_mode (s : State) (i : Fin 32) : (s.countMiss i).link.mode = s.link.mode := by
  by_cases h : s.turnsStale i
  · rw [State.countMiss_stale h]
    exact (State.tells.tellLost ..).mode.trans (State.post_mode s ..)
  · rw [State.countMiss_counts h]

theorem State.faultChannel_mode (s : State) (i : Fin 32) : (s.faultChannel i).link.mode = s.link.mode := by
  rw [State.faultChannel_eq]
  exact (State.tells.tellLost ..).mode.trans (s.integrityError_mode ..)

theorem State.miss_mode (s : State) (n c : Nat) : (s.miss n c).link.mode = s.link.mode := by
  unfold State.miss
  split
  · rfl
  · split
    · exact s.countMiss_mode _
    · exact s.faultChannel_mode _

theorem State.storeSample_mode (s : State) (i : Fin 32) (e : ChannelEntry) (good : Bool) (flags : Byte) :
    (s.storeSample i e good flags).link.mode = s.link.mode := by
  obtain ⟨ns, posts⟩ := (s.storeSample_stores i e good flags).posts
  rw [posts]
  exact s.postAll_mode ns

theorem State.takeValues_mode (s : State) (i : Fin 32) (e : ChannelEntry) (value : Nat) :
    (s.takeValues i e value).link.mode = s.link.mode := by
  unfold State.takeValues
  split
  · rfl
  · show (s.convert i e _).1.link.mode = _
    unfold State.convert
    split
    · rfl
    · split
      · rfl
      · split
        · rfl
        · exact s.integrityError_mode ..

theorem State.judgeLimit_mode (s : State) (i : Fin 32) (e : ChannelEntry) : (s.judgeLimit i e).link.mode = s.link.mode := by
  rw [State.judgeLimit_eq]
  dsimp only
  split
  · exact State.post_mode s ..
  · rfl

theorem State.validSample_mode (s : State) (i : Fin 32) (flags : Byte) (value : Nat) :
    (s.validSample i flags value).link.mode = s.link.mode := by
  have handed : ∀ (u : State) r total before, (u.handOff r total before).link.mode = u.link.mode := fun u r total before =>
    (Prod.mk.inj (Prod.mk.inj (u.handOff_channels r total before)).2).2
  exact (handed ..).trans ((State.storeSample_mode ..).trans ((State.judgeLimit_mode ..).trans (State.takeValues_mode ..)))

theorem State.sample_mode (s : State) (n c : Nat) (flags : Byte) (value : Nat) :
    (s.sample n c flags value).link.mode = s.link.mode := by
  unfold State.sample
  split
  · rfl
  · split
    · exact s.faultChannel_mode _
    · split
      · exact s.validSample_mode ..
      · exact (State.storeSample_mode ..).trans (s.countMiss_mode _)

/-- What the end of an attempt reads besides the channel unit. -/
structure State.stays (s t : State) : Prop where
  bus : t.bus = s.bus
  mode : t.link.mode = s.link.mode
  now : t.now = s.now

theorem State.stays.trans {s t u : State} (h : s.stays t) (g : t.stays u) : s.stays u :=
  ⟨g.bus.trans h.bus, g.mode.trans h.mode, g.now.trans h.now⟩

theorem State.stays.settle (s : State) : s.stays s.settle := ⟨s.settle_bus, s.settle_mode, s.settle_now⟩

theorem State.stays.sample (s : State) (n c : Nat) (flags : Byte) (value : Nat) : s.stays (s.sample n c flags value) :=
  ⟨by simp, s.sample_mode .., ((State.keeps.refl .off s).sample nofun ..).now⟩

theorem State.stays.miss (s : State) (n c : Nat) : s.stays (s.miss n c) :=
  ⟨by simp, s.miss_mode .., ((State.keeps.refl .off s).miss nofun ..).now⟩

theorem State.stays.foldl {α : Type} {f : State → α → State} (h : ∀ (s : State) x, s.stays (f s x)) (l : List α) (s : State) :
    s.stays (l.foldl f s) := by
  induction l generalizing s with
  | nil => exact ⟨rfl, rfl, rfl⟩
  | cons x l ih => exact (h s x).trans (ih _)

theorem State.stays.deliver (s : State) (n : Nat) (gs : List Group) : s.stays (s.deliver n gs) :=
  .foldl (fun s (g : Group) => (State.stays.sample s n g.ch g.flags g.value).trans (.settle _)) gs s

theorem State.stays.misses (s : State) (n : Nat) (cs : List Nat) : s.stays (s.misses n cs) :=
  .foldl (fun s c => (State.stays.miss s n c).trans (.settle _)) cs s

/-! #### The bus after a transaction -/

/-- The end of a transaction on the bus of `s` (R31, R33, R35, R37). -/
theorem State.endTransaction_spec {s w : State} (x : Transaction) (o : PollOutcome) (run : w.bus.run = s.bus.run)
    (poll : w.bus.poll = s.bus.poll) (sent : w.bus.sent = s.bus.sent) (heard : w.bus.heard = []) (mode : w.link.mode = s.link.mode)
    (now : w.now = s.now) :
    s.busFreed (w.endTransaction x o) x.entry o ∧ (w.endTransaction x o).bus.run[x.entry].outcome = o ∧
      (w.endTransaction x o).bus.sats = w.bus.sats ∧ (w.endTransaction x o).bus.poll = s.bus.poll ∧
      { w.endTransaction x o with bus := w.bus } = w := by
  obtain ⟨y, hy⟩ : ∃ y, y = { w.withPoll x.entry (fun r => { r with outcome := o }) with bus.tx := none } := ⟨_, rfl⟩
  have ended : w.endTransaction x o = y.takeIfFree := by
    rw [hy]
    rfl
  have runY : y.bus.run = s.bus.run.set x.entry { s.bus.run[x.entry] with outcome := o } := by
    rw [hy, ← run]
    rfl
  have pollY : y.bus.poll = s.bus.poll := by
    rw [hy, ← poll]
    rfl
  have sentY : y.bus.sent = s.bus.sent := by
    rw [hy, ← sent]
    rfl
  have heardY : y.bus.heard = [] := by
    rw [hy]
    exact heard
  have modeY : y.link.mode = s.link.mode := by
    rw [hy, ← mode]
    rfl
  have nowY : y.now = s.now := by
    rw [hy, ← now]
    rfl
  have free : y.bus.tx = none := by rw [hy]
  have outcome : y.bus.run[x.entry].outcome = o := by
    rw [runY]
    exact congrArg PollRun.outcome (upd_same s.bus.run x.entry _)
  have restY : { y with bus := w.bus } = w := by rw [hy]; rfl
  have satsY : y.bus.sats = w.bus.sats := by rw [hy]; rfl
  rw [ended]
  have waits : s.link.mode = .standby ∨ (∀ i : Fin 16,
      (s.bus.run.set x.entry { s.bus.run[x.entry] with outcome := o })[i].inDueSet = false) → y.takeIfFree = y := fun h =>
    State.takeIfFree_waits (h.imp (fun h => modeY.trans h) (fun h => .inr (by rw [runY]; exact h)))
  have takes : ∀ i : Fin 16, s.link.mode ≠ .standby →
      (s.bus.run.set x.entry { s.bus.run[x.entry] with outcome := o })[i].inDueSet = true →
      (∀ j : Fin 16, j < i → (s.bus.run.set x.entry { s.bus.run[x.entry] with outcome := o })[j].inDueSet = false) →
      y.takeIfFree = y.take i := fun i on due least =>
    State.takeIfFree_lowest (by rw [modeY]; exact on) free (by rw [runY]; exact due) (by rw [runY]; exact least)
  refine ⟨⟨?_, fun h => ?_, fun i on due least => ?_⟩, ?_⟩
  · rcases y.takeIfFree_cases with ⟨-, same⟩ | ⟨i, -, -, -, -, took⟩
    · rw [same]
      exact heardY
    · rw [took]
      exact heardY
  · rw [waits h]
    exact ⟨free, runY, sentY⟩
  · rw [takes i on due least]
    unfold State.take
    rw [← runY, ← pollY, ← nowY]
    exact ⟨rfl, rfl, rfl⟩
  · rcases y.takeIfFree_cases with ⟨-, same⟩ | ⟨i, -, -, -, -, took⟩
    · rw [same]
      exact ⟨outcome, satsY, pollY, restY⟩
    · rw [took]
      refine ⟨?_, satsY, pollY, restY⟩
      show (upd y.bus.run i _)[x.entry].outcome = o
      by_cases h : x.entry = i
      · subst h
        exact (congrArg PollRun.outcome (upd_same y.bus.run x.entry _)).trans outcome
      · exact (congrArg PollRun.outcome (upd_other y.bus.run i x.entry _ h)).trans outcome

end Sys2Proof.Machine
end

section
/-! ### Settles O48 (R26, R33 to R37) -/

namespace Sys2Proof.Machine

/-! #### The satellites -/

theorem satIndex_eq (k : Fin 4) : satIndex (k.val + 1) = some k := by
  unfold satIndex
  exact dif_pos ⟨by omega, by omega⟩

theorem State.sat_eq (s : State) (k : Fin 4) : s.sat (k.val + 1) = s.bus.sats[k] := by
  unfold State.sat
  rw [satIndex_eq]

theorem State.withSat_eq (s : State) (k : Fin 4) (f : Satellite → Satellite) :
    s.withSat (k.val + 1) f = { s with bus.sats := upd s.bus.sats k (f s.bus.sats[k]) } := by
  unfold State.withSat
  rw [satIndex_eq]

/-- A satellite that has answered is PRESENT, and SATELLITE_BACK tells one that was ABSENT (R33, R36). -/
theorem State.satelliteAnswered_eq (s : State) {x : Transaction} {k : Fin 4} (sat : x.satellite = k.val + 1) :
    s.satelliteAnswered x = { s with
      bus.sats := upd s.bus.sats k { presence := .present, failures := 0 }
      link :=
        if s.bus.sats[k].presence = .absent then s.link.post (s.notice .satelliteBack 4 x.satellite x.entry.val)
        else s.link } := by
  unfold State.satelliteAnswered
  dsimp only
  rw [sat, State.sat_eq, State.withSat_eq]
  split
  · rfl
  · rfl

/-- A failed transaction counts, and at the eighth failure the satellite is ABSENT, with SATELLITE_LOST (R36). -/
theorem State.satelliteFailed_eq (s : State) {x : Transaction} {k : Fin 4} (sat : x.satellite = k.val + 1) :
    s.satelliteFailed x = { s with
      bus.sats := upd s.bus.sats k {
        presence := if 7 ≤ s.bus.sats[k].failures then .absent else s.bus.sats[k].presence
        failures := min 8 (s.bus.sats[k].failures + 1) }
      link :=
        if 7 ≤ s.bus.sats[k].failures ∧ s.bus.sats[k].presence ≠ .absent then
          s.link.post (s.notice .satelliteLost 2 x.satellite x.entry.val)
        else s.link } := by
  unfold State.satelliteFailed
  dsimp only
  rw [sat, State.sat_eq, State.withSat_eq, State.withSat_eq]
  generalize s.bus.sats[k] = was
  have eighth : min 8 (was.failures + 1) = 8 ↔ 7 ≤ was.failures := by omega
  simp only [eighth]
  by_cases many : 7 ≤ was.failures
  · by_cases absent : was.presence = .absent
    · simp [many, absent]
    · simp [many, absent]
      rfl
  · simp [many]

/-! #### The channels of a response (R33) -/

theorem absentChannels_eq (mask : Half) (gs : List Group) :
    absentChannels mask gs = (List.range 16).filter (fun c => mask.getLsbD c && !gs.any (fun g => decide (g.ch = c))) := by
  unfold absentChannels maskChannels
  rw [List.filter_filter]
  exact List.filter_congr (fun c _ => Bool.and_comm ..)

theorem acceptedOutcome_eq (x : Transaction) (gs : List Group) :
    acceptedOutcome x gs =
      if (List.range 16).all (fun c => !x.mask.getLsbD c || gs.any (fun g => decide (g.ch = c))) then
        (if x.second then .retried else .ok)
      else .partialData := by
  have complete : (absentChannels x.mask gs).isEmpty =
      (List.range 16).all (fun c => !x.mask.getLsbD c || gs.any (fun g => decide (g.ch = c))) := by
    rw [absentChannels_eq, Bool.eq_iff_iff]
    simp [or_iff_not_imp_left]
  unfold acceptedOutcome
  rw [complete]

/-! #### The end of an attempt -/

section Attempt

variable {s : State} {x : Transaction} (tx : s.bus.tx = some x) (waiting : x.waiting = true)
include tx waiting

theorem State.sumpFrame_accepted {frame : List Byte} {gs : List Group} (accepted : acceptedGroups x.satellite frame = some gs) :
    s.sumpFrame frame = s.clearHeard.responseAccepted x gs := by
  unfold State.sumpFrame
  rw [tx]
  dsimp only
  rw [if_pos waiting, accepted]

/-- A timeout, or a frame that is not accepted, ends the attempt without a response (R32 to R35). -/
theorem exec_attemptLost {c : Instr}
    (h : c = .sumpResponseTimeout ∨ ∃ frame, c = .sumpFrameEnd frame ∧ acceptedGroups x.satellite frame = none) :
    exec c s = .next (s.clearHeard.attemptLost x).settle := by
  rcases h with rfl | ⟨frame, rfl, refused⟩
  · have lost : s.sumpTimeout = s.clearHeard.attemptLost x := by
      unfold State.sumpTimeout
      rw [tx]
      exact if_pos waiting
    exact congrArg (fun t : State => Host.Outcome.next t.settle) lost
  · have lost : s.sumpFrame frame = s.clearHeard.attemptLost x := by
      unfold State.sumpFrame
      rw [tx]
      dsimp only
      rw [if_pos waiting, refused]
    exact congrArg (fun t : State => Host.Outcome.next t.settle) lost

end Attempt

/-- An accepted response: a part of O48 (R33, R36). -/
theorem State.responseAccepted_spec (s : State) {x : Transaction} {k : Fin 4} (sat : x.satellite = k.val + 1) (gs : List Group) :
    let u := s.clearHeard.responseAccepted x gs
    u.bus.sats[k] = { presence := .present, failures := 0 } ∧
      (∀ j : Fin 4, j ≠ k → u.bus.sats[j] = s.bus.sats[j]) ∧
      u.bus.run[x.entry].outcome =
        (if (List.range 16).all (fun c => !x.mask.getLsbD c || gs.any (fun g => decide (g.ch = c))) then
          (if x.second then .retried else .ok)
        else .partialData) ∧
      s.busFreed u x.entry u.bus.run[x.entry].outcome ∧ u.bus.poll = s.bus.poll ∧
      (∃ v : State, v.trip = { s.trip with lossOpen := false } ∧
        { v with bus := s.bus, trip := s.trip, link := s.link } = s ∧
        v.link =
          (if s.bus.sats[k].presence = .absent then
            s.link.post (s.notice .satelliteBack 4 x.satellite x.entry.val)
          else s.link) ∧
        let w := (v.deliver x.satellite
            (gs.filter (fun g => decide (g.ch < 16) && x.mask.getLsbD g.ch))).misses x.satellite
            ((List.range 16).filter (fun c => x.mask.getLsbD c && !gs.any (fun g => decide (g.ch = c))))
        { u with bus := w.bus } = w) := by
  obtain ⟨v, hv⟩ : ∃ v, v = s.clearHeard.beginLosses.satelliteAnswered x := ⟨_, rfl⟩
  obtain ⟨w, hw⟩ : ∃ w, w = (v.deliver x.satellite (gs.filter (fun g => inMask x.mask g.ch))).misses x.satellite
      (absentChannels x.mask gs) := ⟨_, rfl⟩
  have accepted : s.clearHeard.responseAccepted x gs = w.endTransaction x (acceptedOutcome x gs) := by
    rw [hw, hv]
    rfl
  have stays : v.stays w := by
    rw [hw]
    exact (State.stays.deliver ..).trans (.misses ..)
  rw [State.satelliteAnswered_eq _ sat] at hv
  have busV : v.bus = { s.clearHeard.bus with sats := upd s.bus.sats k { presence := .present, failures := 0 } } := by
    rw [hv]
    rfl
  have modeV : v.link.mode = s.link.mode := by
    rw [hv]
    dsimp only
    split
    · exact State.post_mode s ..
    · rfl
  have bus := stays.bus.trans busV
  obtain ⟨freed, outcome, sats, poll, rest⟩ := State.endTransaction_spec (s := s) (w := w) x (acceptedOutcome x gs)
    (by rw [bus]; rfl) (by rw [bus]; rfl) (by rw [bus]; rfl) (by rw [bus]; rfl) (stays.mode.trans modeV)
    (stays.now.trans (by rw [hv]; rfl))
  intro u
  have hu : u = w.endTransaction x (acceptedOutcome x gs) := accepted
  rw [hu, sats, outcome, bus, ← acceptedOutcome_eq]
  refine ⟨upd_same s.bus.sats k _, fun j hj => upd_other s.bus.sats k j _ hj, rfl, freed, poll, v, ?_, ?_, ?_, ?_⟩
  · rw [hv]
    rfl
  · rw [hv]
    rfl
  · rw [hv]
    rfl
  · intro w'
    have same : w' = w := by
      rw [hw, absentChannels_eq]
      rfl
    rw [same]
    exact rest

/-- A failed transaction: a part of O48 (R35, R36). -/
theorem State.attemptLost_failed (s : State) {x : Transaction} {k : Fin 4} (sat : x.satellite = k.val + 1)
    (belongs : x.belongs = true) (spent : x.second = true ∨ x.retry ≠ 1) :
    let u := s.clearHeard.attemptLost x
    s.busFreed u x.entry .failed ∧
      u.bus.sats[k].failures = min 8 (s.bus.sats[k].failures + 1) ∧
      u.bus.sats[k].presence = (if 7 ≤ s.bus.sats[k].failures then .absent else s.bus.sats[k].presence) ∧
      u.bus.poll = s.bus.poll ∧
      let w := State.misses { s with trip.lossOpen := false } x.satellite
        ((List.range 16).filter (fun c => x.mask.getLsbD c))
      { u with bus := w.bus, link := w.link } = w ∧
      u.link =
        (if 7 ≤ s.bus.sats[k].failures ∧ s.bus.sats[k].presence ≠ .absent then
          w.link.post (w.notice .satelliteLost 2 x.satellite x.entry.val)
        else w.link) := by
  obtain ⟨w, hw⟩ : ∃ w, w = State.misses { s with trip.lossOpen := false } x.satellite (maskChannels x.mask) := ⟨_, rfl⟩
  have beside : s.clearHeard.beginLosses.misses x.satellite (maskChannels x.mask) = w.rebus s.clearHeard.bus := by
    rw [hw]
    exact (State.twin.refl s.clearHeard.bus { s with trip.lossOpen := false }).misses _ _
  have stays : State.stays { s with trip.lossOpen := false } w := by
    rw [hw]
    exact .misses ..
  obtain ⟨z, hz⟩ : ∃ z, z = (w.rebus s.clearHeard.bus).satelliteFailed x := ⟨_, rfl⟩
  have lost : s.clearHeard.attemptLost x = z.endTransaction x .failed := by
    unfold State.attemptLost
    rw [belongs, Bool.not_true, if_neg Bool.false_ne_true, if_neg, beside, ← hz]
    rcases spent with h | h
    · simp [h]
    · simp [h]
  rw [State.satelliteFailed_eq _ sat] at hz
  have busZ : z.bus = { s.clearHeard.bus with
      sats := upd s.bus.sats k {
        presence := if 7 ≤ s.bus.sats[k].failures then .absent else s.bus.sats[k].presence
        failures := min 8 (s.bus.sats[k].failures + 1) } } := by
    rw [hz]
    rfl
  have modeZ : z.link.mode = s.link.mode := by
    rw [hz]
    dsimp only
    split
    · exact (State.post_mode w ..).trans stays.mode
    · exact stays.mode
  have nowZ : z.now = s.now := by
    rw [hz]
    exact stays.now
  obtain ⟨freed, -, sats, poll, rest⟩ := State.endTransaction_spec (s := s) (w := z) x .failed
    (by rw [busZ]; rfl) (by rw [busZ]; rfl) (by rw [busZ]; rfl) (by rw [busZ]; rfl) modeZ nowZ
  intro u
  have hu : u = z.endTransaction x .failed := lost
  have linkU : (z.endTransaction x .failed).link = z.link := (congrArg (fun y : State => y.link) rest :)
  have own := upd_same s.bus.sats k {
        presence := if 7 ≤ s.bus.sats[k].failures then .absent else s.bus.sats[k].presence
        failures := min 8 (s.bus.sats[k].failures + 1) }
  rw [hu, sats, busZ]
  refine ⟨freed, congrArg Satellite.failures own, congrArg Satellite.presence own, poll, ?_⟩
  intro w'
  have missed : w' = w := hw.symm
  rw [missed, linkU]
  have same : { z.endTransaction x .failed with bus := w.bus, link := w.link } = { z with bus := w.bus, link := w.link } :=
    congrArg (fun y : State => { y with bus := w.bus, link := w.link }) rest
  refine ⟨same.trans ?_, ?_⟩
  · rw [hz]
    rfl
  · rw [hz]
    rfl

/-- Settles O48, by the end of a transaction on its bus (`endTransaction_spec`), the answered and the failed satellite, and
misses that read nothing of the bus (`State.twin.misses`). -/
theorem attemptsEnd : Obligations.AttemptsEnd := by
  refine ⟨fun s x frame gs k tx waiting sat accepted => ?_, fun s x c k settled tx waiting sat lost => ⟨fun off => ?_,
    fun belongs first retry => ?_, fun belongs spent => ?_⟩, fun s n g gs c cs => ⟨rfl, rfl, rfl, rfl⟩⟩
  · exact ⟨_, congrArg (fun t : State => Host.Outcome.next t.settle) (State.sumpFrame_accepted tx waiting accepted),
      s.responseAccepted_spec sat gs⟩
  · have stopped : s.clearHeard.attemptLost x = s.clearHeard.endTransaction x .stopped := by
      unfold State.attemptLost
      rw [off]
      rfl
    obtain ⟨freed, -, sats, poll, rest⟩ := State.endTransaction_spec (s := s) (w := s.clearHeard) x .stopped rfl rfl rfl rfl rfl rfl
    have quiet : (s.clearHeard.endTransaction x .stopped).settled :=
      (congrArg (fun y : State => y.arb.evalDue) rest :).trans settled
    refine ⟨s.clearHeard.endTransaction x .stopped, ?_, freed, sats, poll,
      (congrArg (fun y : State => { y with bus := s.bus }) rest :)⟩
    rw [exec_attemptLost tx waiting lost, stopped, State.settle_of_settled _ quiet]
  · rw [exec_attemptLost tx waiting lost, State.attemptLost_retry _ x belongs first retry]
    exact congrArg Host.Outcome.next (State.settle_of_settled _ settled)
  · exact ⟨_, exec_attemptLost tx waiting lost, s.attemptLost_failed sat belongs spent⟩

end Sys2Proof.Machine
end
